-- ==== Sys2Proof/Word.lean ====
section
/-! DEFINITION. The word types of the WP740's bulletins, settings block and counters. -/

namespace Sys2Proof

/-- A byte of the settings block (R186), or a sequence field (R4). -/
abbrev Byte := BitVec 8

/-- A payload word of a bulletin (R4), a signature or a slot tag. -/
abbrev Word := BitVec 16

/-- A 32-bit cycle number (R22) or the feedback port's encoder count (R73). -/
abbrev DWord := BitVec 32

end Sys2Proof
end

