-- ==== Sys2Proof/Config.lean ====
section
/-! DEFINITION. The constants the part fixes. The spec leaves no result of a command undefined, so there
is no free value here. -/

namespace Sys2Proof.Config

/-- General entries of the transmit queue (R15). -/
def queueSize : Nat := 8
/-- Entries of the query queue (R18). -/
def querySize : Nat := 4
/-- Attempts a bulletin is given (R13). -/
def attempts : Nat := 4
/-- Cycle starts after which a waiting entry other than REFERENCE, STATUS and PACE expires (R17). -/
def waitLimit : Nat := 8
/-- Consecutive bit errors that enter LINE FAULT (R19). -/
def bitErrorLimit : Nat := 16
/-- Cycle starts in LINE FAULT before the rejoin test (R20). -/
def rejoinStarts : Nat := 64
/-- Cycle starts after which DUPLICATE STATION clears (R11). -/
def duplicateStarts : Nat := 64
/-- Consecutive broadcasts ending "no taker" that set the alone indication (R14). -/
def aloneCount : Nat := 4
/-- In-step PACEs that clear PACE JUMP (R25). -/
def inStepClear : Nat := 10
/-- Entries of a slave edge queue (R32). -/
def slaveQueueSize : Nat := 8
/-- Slots of the reference ring (TABLE 4-5). -/
def ringSize : Nat := 64
/-- Largest value of a 16-bit statistic counter. -/
def counterMax : Nat := 65535
/-- Largest value of the 8-bit saturating counts. -/
def smallMax : Nat := 255
/-- Tokens of the pool (R95). -/
def tokens : Nat := 64
/-- Cycle starts a pending ask waits (R101), a shed waits (R111) and a voluntary condition holds (R107). -/
def shareWait : Nat := 20
/-- Overdrawn cycle starts that make the share unit act (R100). -/
def pressureLimit : Nat := 5
/-- Long cycles of grace after a lent record's term (R106). -/
def graceTerm : Nat := 2
/-- Records of the station alarm list (R165). -/
def alarmListSize : Nat := 24
/-- Records at or below which the list overflow flag clears (R167). -/
def overflowClear : Nat := 19
/-- Records of the machine alarm table (R177). -/
def tableSize : Nat := 64
/-- Update age at which a table record is purged (R179). -/
def purgeAge : Nat := 26
/-- Cab cycle starts between inversions of the flash phase (R181). -/
def flashHalf : Nat := 25
/-- The refusal flash count set when a RESTART press is ignored (R183). -/
def refusalFlash : Nat := 50
/-- Stall count at which STALL HELD is raised (R87). -/
def stallLimit : Nat := 50
/-- Unanswered frames that raise FIELD LINK LOST (R89). -/
def linkLimit : Nat := 3
/-- Consecutive slip cycle starts that raise BRAKE SLIP (R92). -/
def slipLimit : Nat := 3
/-- Slack count at which SLACK ROPE is raised (R123). -/
def slackLimit : Nat := 5
/-- Speed in per mille at or below which a motion is still (R90, R129, R142, R150, R153). -/
def stillSpeed : Int := 5
/-- Speed in per mille above which a set brake slips (R92). -/
def slipSpeed : Int := 20
/-- Correction in cm above which a rope mark is a mismatch (R117). -/
def ropeTolerance : Int := 50
/-- Cycle starts of a disagreeing contactor reading that are allowed outside a transfer (R147). -/
def disagreeAllowance : Nat := 5
/-- Bytes of the settings block and its length field (R186). -/
def blockBytes : Nat := 512
/-- The format version this part reads (TABLE 12-6). -/
def formatVersion : Nat := 2
/-- IDENTITY: vendor code, part code and revision (TABLE 12-5). -/
def vendorCode : Nat := 1207
def partCode : Nat := 740
def revision : Nat := 3
/-- 10 µs units of 100 ms and of the 2 s code frame of the FAULT pin (R191). -/
def pulseUnits : Nat := 10000
def codeUnits : Nat := 200000
/-- The target field of a broadcast (TABLE 1-3). -/
def broadcast : BitVec 4 := 15

end Sys2Proof.Config
end

