-- ==== Sys2Proof/Syntax.lean ====
section
/-! DEFINITION. The commands of the WP740: one constructor of `Instr` for each row of
spec/opcode_table.json, with the operands the outside world supplies. -/

namespace Sys2Proof

/-- The 21 bulletin kinds (TABLE 1-4, TABLE 12-2). -/
inductive Kind where
  | trip | pace | restart | alarmAck | xferAsk | xferYield | xferRefuse | xferDone | xferAbort
  | xferRelease | shareAsk | shareGrant | shareRefuse | shareReturn | shareRecall | status
  | reference | alarm | query | reply | probe
  deriving DecidableEq, Repr

/-- The two mark capture units (section 2.7). -/
inductive UnitIndex where
  | unit0 | unit1
  deriving DecidableEq, Repr

/-- What the feedback port shows at a sample: the four analogue channels, 0 to 4095 (TABLE 5-2,
section 4.1.1), and the eight discrete inputs, bit k being input k high (TABLE 11-6). -/
structure Inputs where
  ch0 : BitVec 12
  ch1 : BitVec 12
  ch2 : BitVec 12
  ch3 : BitVec 12
  din : Byte
  deriving DecidableEq, Repr

/-- The six strap pins sampled at entry to READING (R186). -/
structure Straps where
  station : BitVec 3
  rate : BitVec 2
  memoryPresent : Bool
  deriving DecidableEq, Repr

/-- A bulletin of a known kind read whole from the line with its class and check right (TABLE 1-3).
`otherAck` is the acknowledge slot as every other party drives it; the cab's delivered mark of an
overheard bulletin reads it (R10). -/
structure Bulletin where
  sender : BitVec 3
  target : BitVec 4
  seq : Byte
  words : List Word
  otherAck : Bool
  deriving DecidableEq, Repr

/-- The cells of a bulletin read from the line, with nothing yet judged (R8). -/
structure RawBulletin where
  cls : BitVec 2
  kind : BitVec 5
  sender : BitVec 3
  target : BitVec 4
  count : BitVec 3
  seq : Byte
  words : List Word
  check : Word
  deriving DecidableEq, Repr

/-- The commands. A constructor is the row of the same name of spec/opcode_table.json. `readBack` is the
cells read back in internal loopback, the first being the start cell's (R188). -/
inductive Instr where
  | fullReset
  | readingEntry (straps : Straps)
  | settingsByteTimeout
  | settingsImageComplete (block : List Byte)
  | selftestEnd (readBack : List Bool)
  | listenTimerExpiry (i : Inputs)
  | cycleStart (i : Inputs)
  | statusPoint
  | longCycle (i : Inputs)
  | lineIdleOffer
  | arbitrationLoss
  | bitError
  | attemptEnd (acked : Bool)
  | bulletinDiscard (r : RawBulletin)
  | trip (b : Bulletin)
  | pace (b : Bulletin) (i : Inputs)
  | restart (b : Bulletin)
  | alarmAck (b : Bulletin)
  | xferAsk (b : Bulletin)
  | xferYield (b : Bulletin)
  | xferRefuse (b : Bulletin)
  | xferDone (b : Bulletin)
  | xferAbort (b : Bulletin)
  | xferRelease (b : Bulletin)
  | shareAsk (b : Bulletin)
  | shareGrant (b : Bulletin)
  | shareRefuse (b : Bulletin)
  | shareReturn (b : Bulletin)
  | shareRecall (b : Bulletin)
  | status (b : Bulletin)
  | reference (b : Bulletin)
  | alarm (b : Bulletin)
  | query (b : Bulletin)
  | reply (b : Bulletin)
  | slaveEdge (u : UnitIndex)
  | masterEdge (u : UnitIndex)
  | ownedHookLoss (din : Byte)
  | fieldLinkAck
  | operatorStop (din : Byte)
  | peerSilent (i : Inputs)
  | referenceStarved (i : Inputs)
  | duplicateStationClear (i : Inputs)
  | lineRejoin (i : Inputs)
  | rejoinTestEnd (readBack : List Bool)
  | pressure (i : Inputs)
  | askWaitEnd (i : Inputs)
  | voluntaryReturn (i : Inputs)
  | loanTermEnd (i : Inputs)
  | loanGraceEnd (i : Inputs)
  | quarantineEnd (i : Inputs)
  | stallHeld (i : Inputs)
  | fieldLinkLost (i : Inputs)
  | brakeSet (i : Inputs)
  | brakeFeedback (i : Inputs)
  | brakeSlip (i : Inputs)
  | slackRope (i : Inputs)
  | yieldLimit (i : Inputs)
  | yieldWaitExpiry (i : Inputs)
  | askWaitExpiry (i : Inputs)
  | transferFailed (i : Inputs)
  | contactorDisagree (i : Inputs)
  | contactorContrary (i : Inputs)
  | stepOvertime (i : Inputs)
  | flashPhaseInvert (i : Inputs)
  | refusalFlashEnd (i : Inputs)
  | tablePurge (i : Inputs)
  | encoderTransition (rises : Bool)
  | faultPinPulse
  deriving DecidableEq, Repr

end Sys2Proof
end

