-- ==== Sys2Proof/Decode.lean ====
section
/-! DEFINITION. The codes of the bulletin kinds, the bulletin check, the cell layout of a bulletin with
its encoder and decoder, the packing of payload words, and `decodeTableWord`. -/

namespace Sys2Proof

/-- Kind codes (TABLE 12-2). -/
def Kind.code : Kind → Nat
  | .trip => 1 | .pace => 2 | .restart => 3 | .alarmAck => 4 | .xferAsk => 5 | .xferYield => 6
  | .xferRefuse => 7 | .xferDone => 8 | .xferAbort => 9 | .xferRelease => 10 | .shareAsk => 11
  | .shareGrant => 12 | .shareRefuse => 13 | .shareReturn => 14 | .shareRecall => 15 | .status => 16
  | .reference => 17 | .alarm => 18 | .query => 19 | .reply => 20 | .probe => 21

/-- All kinds, in the order of TABLE 12-2. -/
def Kind.all : List Kind :=
  [.trip, .pace, .restart, .alarmAck, .xferAsk, .xferYield, .xferRefuse, .xferDone, .xferAbort,
    .xferRelease, .shareAsk, .shareGrant, .shareRefuse, .shareReturn, .shareRecall, .status,
    .reference, .alarm, .query, .reply, .probe]

/-- The kind of a kind code; codes 0 and 22 to 31 are unknown kinds (TABLE 12-2). -/
def Kind.ofCode (n : Nat) : Option Kind := Kind.all.find? fun k => k.code == n

/-- Classes (TABLE 1-4). -/
def Kind.cls : Kind → Nat
  | .trip => 0
  | .pace | .restart | .alarmAck | .xferAsk | .xferYield | .xferRefuse | .xferDone | .xferAbort
  | .xferRelease | .shareAsk | .shareGrant | .shareRefuse | .shareReturn | .shareRecall => 1
  | .status | .reference | .alarm => 2
  | .query | .reply | .probe => 3

/-- Payload words of each kind (TABLE 12-2). -/
def Kind.wordCount : Kind → Nat
  | .trip => 4 | .pace => 2 | .restart => 0 | .alarmAck => 3 | .xferAsk => 0 | .xferYield => 0
  | .xferRefuse => 1 | .xferDone => 1 | .xferAbort => 1 | .xferRelease => 1 | .shareAsk => 1
  | .shareGrant => 2 | .shareRefuse => 1 | .shareReturn => 2 | .shareRecall => 1 | .status => 6
  | .reference => 6 | .alarm => 5 | .query => 1 | .reply => 6 | .probe => 6

/-- Broadcast kinds (TABLE 1-4). -/
def Kind.isBroadcast : Kind → Bool
  | .trip | .pace | .restart | .alarmAck | .xferDone | .xferAbort | .status | .reference | .alarm => true
  | .xferAsk | .xferYield | .xferRefuse | .xferRelease | .shareAsk | .shareGrant | .shareRefuse
  | .shareReturn | .shareRecall | .query | .reply | .probe => false

/-- The XFER kinds, which the cab overhears (R10). -/
def Kind.isXfer : Kind → Bool
  | .xferAsk | .xferYield | .xferRefuse | .xferDone | .xferAbort | .xferRelease => true
  | _ => false

/-- The SHARE kinds, which the cab overhears (R10). -/
def Kind.isShare : Kind → Bool
  | .shareAsk | .shareGrant | .shareRefuse | .shareReturn | .shareRecall => true
  | _ => false

/-- `width` bits of `n`, most significant first (R4, R192). -/
def bitsOf : Nat → Nat → List Bool
  | 0, _ => []
  | w + 1, n => n.testBit w :: bitsOf w n

/-- The number a list of bits spells, most significant first. -/
def natOf (bits : List Bool) : Nat := bits.foldl (fun acc b => 2 * acc + b.toNat) 0

/-- One bit into the check register: generator x^16 + x^12 + x^5 + 1 (R4). -/
def crcStep (reg : Word) (b : Bool) : Word :=
  let shifted := reg <<< 1
  if reg.msb != b then shifted ^^^ 0x1021#16 else shifted

/-- The check over a sequence of bits, the register preset to all ones, no inversion (R4). -/
def crc16 (bits : List Bool) : Word := bits.foldl crcStep 0xFFFF#16

/-- The check over bytes, most significant bit first (R186, R192). -/
def crc16Bytes (bytes : List Byte) : Word :=
  bytes.foldl (fun reg b => (bitsOf 8 b.toNat).foldl crcStep reg) 0xFFFF#16

/-- The fields of a bulletin from class through payload, in the order they are sent (TABLE 1-3). -/
def RawBulletin.fieldBits (r : RawBulletin) : List Bool :=
  bitsOf 2 r.cls.toNat ++ bitsOf 5 r.kind.toNat ++ bitsOf 3 r.sender.toNat
    ++ bitsOf 4 r.target.toNat ++ bitsOf 3 r.count.toNat ++ bitsOf 8 r.seq.toNat
    ++ r.words.flatMap (fun w => bitsOf 16 w.toNat)

/-- The check computed over the cells read (R8). -/
def RawBulletin.computedCheck (r : RawBulletin) : Word := crc16 r.fieldBits

/-- The cells of a bulletin from its start cell through its check, a dominant cell being `false` (R1,
TABLE 12-1). -/
def RawBulletin.cells (r : RawBulletin) : List Bool :=
  false :: (r.fieldBits ++ bitsOf 16 r.check.toNat)

/-- All the cells a sender sends: the acknowledge slot and the seven end cells go recessive (TABLE 1-3,
R7). -/
def RawBulletin.lineCells (r : RawBulletin) : List Bool := r.cells ++ true :: List.replicate 7 true

/-- Payload words from cells, 16 cells each. -/
def wordsOfCells : Nat → List Bool → List Word
  | 0, _ => []
  | n + 1, cells => BitVec.ofNat 16 (natOf (cells.take 16)) :: wordsOfCells n (cells.drop 16)

/-- The bulletin a receiver reads from cells, by the positions of TABLE 12-1; none when the start cell
is not dominant or the cells end before the check does. -/
def RawBulletin.ofCells (cells : List Bool) : Option RawBulletin :=
  let field (start width : Nat) := natOf ((cells.drop start).take width)
  let n := field 15 3
  if cells.head? = some false ∧ cells.length = 42 + 16 * n then
    some { cls := BitVec.ofNat 2 (field 1 2), kind := BitVec.ofNat 5 (field 3 5),
           sender := BitVec.ofNat 3 (field 8 3), target := BitVec.ofNat 4 (field 11 4),
           count := BitVec.ofNat 3 n, seq := BitVec.ofNat 8 (field 18 8),
           words := wordsOfCells n (cells.drop 26),
           check := BitVec.ofNat 16 (field (26 + 16 * n) 16) }
  else none

/-- The bulletin a sender forms for a kind: its class, code and word count, and the check (R4). -/
def RawBulletin.form (k : Kind) (sender : BitVec 3) (target : BitVec 4) (seq : Byte)
    (words : List Word) : RawBulletin :=
  let r : RawBulletin :=
    { cls := BitVec.ofNat 2 k.cls, kind := BitVec.ofNat 5 k.code, sender, target,
      count := BitVec.ofNat 3 words.length, seq, words, check := 0 }
  { r with check := r.computedCheck }

/-- The PROBE payload: words alternating 21,845 and 43,690 (TABLE 12-2). -/
def probeWords : List Word := [21845, 43690, 21845, 43690, 21845, 43690]

/-- The target condition of TABLE 1-5: not 8 to 14, 15 for a broadcast kind, and a station for a
directed one. -/
def targetSuits (k : Kind) (target : BitVec 4) : Bool :=
  if k.isBroadcast then target == Config.broadcast else target.toNat < 8

/-- The format conditions of TABLE 1-5 on a bulletin of a known kind whose class agrees. -/
def formatHolds (k : Kind) (target : BitVec 4) (nWords : Nat) : Bool :=
  k != .probe && targetSuits k target && nWords == k.wordCount

/-- Every format condition of TABLE 1-5 on the cells of a bulletin as read. -/
def RawBulletin.formatHolds (r : RawBulletin) : Bool :=
  match Kind.ofCode r.kind.toNat with
  | none => false
  | some k => r.cls.toNat == k.cls && Sys2Proof.formatHolds k r.target r.count.toNat

/-- A payload word from fields `(width, value)` listed from its most significant bit downward;
unassigned bits are 0 (R192). -/
def packWord (fields : List (Nat × Nat)) : Word :=
  BitVec.ofNat 16 <|
    (fields.foldl (fun (acc : Nat × Nat) f =>
      (acc.1 - f.1, acc.2 + (f.2 % 2 ^ f.1) * 2 ^ (acc.1 - f.1))) (16, 0)).2

/-- The field of `width` bits that begins `start` bits below a word's most significant bit (R192). -/
def wordField (w : Word) (start width : Nat) : Nat := w.toNat / 2 ^ (16 - start - width) % 2 ^ width

/-- The two words of a 32-bit number, high word first (R192). -/
def words32 (n : DWord) : List Word := [(n >>> 16).setWidth 16, n.setWidth 16]

/-- A 32-bit number from its two words, high word first (R192). -/
def dword (hi lo : Word) : DWord := hi ++ lo

/-- A signed field in two's complement (R192). -/
def signedWord (n : Int) : Word := BitVec.ofInt 16 n

/-- A signed 32-bit field in two's complement (R192). -/
def signedDWord (n : Int) : DWord := BitVec.ofInt 32 n

/-- Word `k` of a payload, 0 where the payload has none. -/
def payloadWord (words : List Word) (k : Nat) : Word := words.getD k 0

/-- The command a word spells by the table's bits. No row of spec/opcode_table.json has bits, so no word
spells a command. -/
def decodeTableWord (_nbits _w : Nat) : Option Instr := none

end Sys2Proof
end

