-- ==== Sys2Proof/Machine/State.lean ====
section
/-! DEFINITION. The state of one WP740 station: everything the spec gives it, as plain data, and the state
right after full reset. A block's state is one structure; `State` holds one of each and the queue of
waiting commands. -/

namespace Sys2Proof.Machine

/-- Roles (TABLE 0-1). -/
inductive Role where
  | none | cab | hoist | drag | swing | walk
  deriving DecidableEq, Repr

/-- A line time stamp (R30). -/
structure Stamp where
  cycle : DWord
  offset : Nat
  deriving DecidableEq, Repr

/-! ### Line unit (chapter 1) -/

/-- Line states (TABLE 1-1). -/
inductive LineState where
  | quiet | listening | active | lineFault | rejoining | halted
  deriving DecidableEq, Repr

/-- A removal that fell due while the entry was IN FLIGHT, applied at the end of its attempt (R15). -/
inductive Due where
  | replaced | expired
  deriving DecidableEq, Repr

/-- An entry of the transmit queue (R15). Class and owning block follow from the kind. `tag` is a
REFERENCE's slot tag and `seq` a STATUS's own sequence (R5). The model's own fields: `due` (R15); `muted`,
the owner no longer acts on the outcome (R112); `rank`, the entry's place among the bulletins of this
instant, 0 once the instant is over (R15); `reserved`, it stands in the reserved TRIP entry. -/
structure Entry where
  kind : Kind
  target : BitVec 4
  words : List Word
  waited : Nat := 0
  attempts : Nat := 0
  inFlight : Bool := false
  tag : Option Word := none
  seq : Byte := 0
  due : Option Due := none
  muted : Bool := false
  rank : Nat := 0
  reserved : Bool := false
  deriving DecidableEq, Repr

/-- The outcomes of TABLE 1-7 other than "delivered". -/
inductive Failure where
  | noTaker | expired | evicted | refused
  deriving DecidableEq, Repr

/-- An entry of the query queue (R18). -/
structure Query where
  tag : BitVec 3
  item : Nat
  part : Nat
  index : Nat
  deriving DecidableEq, Repr

/-- The thirteen statistic counters of TABLE 1-11. -/
structure LineCounters where
  sent : Nat := 0
  arbitrationLosses : Nat := 0
  bitErrors : Nat := 0
  checkErrors : Nat := 0
  formatErrors : Nat := 0
  noTaker : Nat := 0
  expired : Nat := 0
  evicted : Nat := 0
  refused : Nat := 0
  statusSuperseded : Nat := 0
  sequenceGaps : Nat := 0
  lateReferences : Nat := 0
  outOfWindow : Nat := 0
  deriving DecidableEq, Repr

/-- The line unit. The model's own fields: `dupCounting`, a count toward the clear of DUPLICATE STATION
runs (R11, log entry 31); `arbitration`, the 10 µs units for which the bulletin being sent, the PROBE of a
loopback test too, is still in its arbitration field (R6, R13, log entry 32); `txSeq` and `ackSlot`, the
sequence field of that bulletin (R5) and the slot as this station drives it (R9). -/
structure LineUnit where
  state : LineState := .quiet
  queue : List Entry := []
  queries : List Query := []
  counters : LineCounters := {}
  bitErrorRun : Nat := 0
  faultStarts : Nat := 0
  noTakerRun : Nat := 0
  dupCount : Nat := 0
  dupCounting : Bool := false
  dupHeld : Bool := false
  loopback : Bool := false
  txSeq : Byte := 0
  arbitration : Nat := 0
  ackSlot : Bool := false
  deriving DecidableEq, Repr

/-! ### Line time and mark capture (chapter 2) -/

/-- The line time unit (R22, R25, R28, R29). -/
structure LineTime where
  cycle : DWord := 0
  offset : Nat := 0
  running : Bool := false
  longCount : Nat := 0
  paceJumps : Nat := 0
  inStep : Nat := 0
  alone : Bool := false
  statusDone : Bool := true
  deriving DecidableEq, Repr

/-- An entry of a slave edge queue (R32). -/
structure SlaveEdge where
  time : Stamp
  snapshot : DWord
  deriving DecidableEq, Repr

/-- The slave fields of a result, present or absent together (TABLE 2-3). -/
structure SlaveMatch where
  time : Stamp
  snapshot : DWord
  difference : Int
  deriving DecidableEq, Repr

/-- A mark capture result record (TABLE 2-3). -/
structure CaptureResult where
  masterTime : Stamp
  masterSnapshot : DWord
  masterCount : Nat
  slave : Option SlaveMatch
  slaveEdges : Nat
  deriving DecidableEq, Repr

/-- A mark capture unit (R36). -/
structure CaptureUnit where
  slaveQueue : List SlaveEdge := []
  masterCount : Nat := 0
  slaveCount : Nat := 0
  recordedSlave : Nat := 0
  lastResult : Option CaptureResult := none
  deriving DecidableEq, Repr

/-! ### Machine picture (chapter 3) -/

/-- Alarm severities, in increasing order. -/
inductive Severity where
  | warn | stop | trip
  deriving DecidableEq, Repr

/-- The mode a STATUS reports (TABLE 3-1). -/
inductive ReportedMode where
  | fresh | run | tripped
  deriving DecidableEq, Repr

/-- The fields a STATUS carries (TABLE 3-2). -/
structure StatusFields where
  role : Role := .none
  mode : ReportedMode := .tripped
  axis : Nat := 0
  calibrated : Bool := false
  brakeSet : Bool := false
  fresh : Bool := false
  severity : Option Severity := none
  overflow : Bool := false
  position : Nat := 0
  speed : Int := 0
  own : Nat := 0
  spare : Nat := 0
  borrowed : Nat := 0
  lent : Nat := 0
  signature : Word := 0
  deriving DecidableEq, Repr

/-- A peer record (TABLE 3-1); the defaults are the reset values of R38. -/
structure PeerRecord where
  heard : Bool := false
  age : Nat := 255
  lastSeq : Byte := 0
  gaps : Nat := 0
  foreign : Bool := false
  status : StatusFields := {}
  deriving DecidableEq, Repr

/-- The machine picture: eight peer records by station number, and the STATUS sequence number. -/
structure Picture where
  peers : List PeerRecord := List.replicate 8 {}
  seq : Byte := 0
  deriving DecidableEq, Repr

/-! ### Reference ring and cab function (chapter 4) -/

/-- A filled slot of the ring; `value` is none for an invalid entry (R63). -/
structure RingEntry where
  tag : Word
  value : Option Int
  walkMode : Bool
  deriving DecidableEq, Repr

/-- The reference ring (TABLE 4-5). `slots` lists the filled slots in rising slot number. -/
structure Ring where
  slots : List RingEntry := []
  current : Int := 0
  currentWalkMode : Bool := false
  last : Int := 0
  lastWalkMode : Bool := false
  hold : Nat := 0
  starved : Bool := false
  rearm : Bool := true
  rewritten : Nat := 0
  deriving DecidableEq, Repr

/-- Button press states (TABLE 4-3). -/
inductive Button where
  | up | edge | down
  deriving DecidableEq, Repr

/-- A bulletin the cab keeps (R10). -/
structure Overheard where
  sender : BitVec 3
  target : BitVec 4
  kind : Kind
  words : List Word
  delivered : Bool
  deriving DecidableEq, Repr

/-- The cab function (R61), with the emergency input's previous sample (R184). -/
structure Cab where
  handleFault : List Bool := [false, false, false, false]
  ackButton : Button := .down
  restartButton : Button := .down
  walkMode : Bool := false
  walkSample : Bool := false
  xferHeard : Option Overheard := none
  shareHeard : Option Overheard := none
  emergency : Option Bool := none
  deriving DecidableEq, Repr

/-! ### Drive chain (chapter 5) -/

/-- The brake command (R90). -/
inductive Brake where
  | set | released
  deriving DecidableEq, Repr

/-- The drive chain (TABLE 5-7). `f` is the final output and the ramp state, one value (R88). -/
structure Drive where
  v : Int := 0
  i : Int := 0
  speed : Int := 0
  demand : Nat := 0
  delta : Int := 0
  prevEncoder : Option DWord := none
  brakeInput : Bool := false
  f : Int := 0
  fieldWord : Int := 0
  enable : Bool := false
  brake : Brake := .set
  delay : Nat := 0
  disagree : Nat := 0
  slip : Nat := 0
  stall : Nat := 0
  missing : Nat := 0
  awaiting : Bool := false
  ran : Bool := false
  overcurrent : Bool := false
  postTarget : Int := 0
  ownedSeen : Bool := false
  frameWord : Int := 0
  frameEnable : Bool := false
  deriving DecidableEq, Repr

/-! ### Share unit (chapter 6) -/

/-- Return states of a borrowed record (TABLE 6-2). -/
inductive ReturnState where
  | holding | shedding | returning
  deriving DecidableEq, Repr

/-- A lent record (TABLE 6-2); `grace` is present once the term has run out. -/
structure LentRecord where
  peer : Nat
  count : Nat
  term : Nat
  grace : Option Nat
  grantNumber : Word
  deriving DecidableEq, Repr

/-- A borrowed record (TABLE 6-2); `inFlight` is the return in flight, its count and grant number. -/
structure BorrowedRecord where
  peer : Nat
  count : Nat
  term : Nat
  grantNumber : Word
  state : ReturnState
  shed : Nat
  shedWait : Nat
  inFlight : Option (Nat × Word)
  deriving DecidableEq, Repr

/-- A pending ask (R101). -/
structure PendingAsk where
  peer : Nat
  wait : Nat
  deriving DecidableEq, Repr

/-- The share unit (R95). -/
structure Share where
  own : Nat := 0
  borrowed : Nat := 0
  lent : Nat := 0
  lentRecords : List LentRecord := []
  borrowedRecords : List BorrowedRecord := []
  fresh : Bool := true
  quarantine : Nat := 0
  ask : Option PendingAsk := none
  pressure : Nat := 0
  voluntary : Nat := 0
  grantNumber : Word := 0
  promised : Nat := 0
  need : Nat := 0
  deriving DecidableEq, Repr

/-! ### Axis functions (chapters 7 to 9) -/

/-- Bucket classes (TABLE 7-4). -/
inductive Bucket where
  | unknown | grounded | low | clear
  deriving DecidableEq, Repr

/-- Drag motor ownership states (TABLE 7-5). -/
inductive Ownership where
  | digging | yielding | yielded | reclaiming
  deriving DecidableEq, Repr

/-- The HOIST and DRAG axis functions (TABLE 7-9). `calReport` is the calibrated state as the STATUS carries
it: the one that stood at the last cycle start (R117). -/
structure Rope where
  base : Int := 0
  calibrated : Bool := false
  calReport : Bool := false
  position : Nat := 0
  load : Nat := 0
  beyondIn : Bool := false
  beyondOut : Bool := false
  limitPrev : Option Bool := none
  encoderFault : Bool := false
  bucket : Bucket := .unknown
  overload : Bool := false
  slack : Nat := 0
  tightLine : Bool := false
  ownership : Ownership := .yielded
  walkSeen : Bool := false
  reclaimPending : Bool := false
  yieldSent : Bool := false
  yieldCount : Nat := 0
  yieldWait : Nat := 0
  deriving DecidableEq, Repr

/-- A count reduced to one revolution, the encoder sample kept beside it, and the angle formed from it
with a base: the swing's (R134) and the walk cam's (R157). -/
structure Circle where
  count : Nat := 0
  sample : Option DWord := none
  base : Nat := 0
  angle : Nat := 0
  deriving DecidableEq, Repr

/-- The SWING axis function (TABLE 8-5). `calReport` is as in `Rope` (R137). -/
structure Swing where
  circle : Circle := {}
  calibrated : Bool := false
  calReport : Bool := false
  markError : Int := 0
  notPermitted : Bool := false
  parked : Bool := false
  deriving DecidableEq, Repr

/-- Walk states (TABLE 9-3). -/
inductive WalkState where
  | parked | asking | transferring | ready | stepping | settling | returning | faulted
  deriving DecidableEq, Repr

/-- The WALK axis function (TABLE 9-8). -/
structure Walk where
  state : WalkState := .parked
  coil : Bool := false
  coilOut : Bool := false
  stateCount : Nat := 0
  stepCount : Nat := 0
  askWait : Nat := 0
  stepCounter : Nat := 0
  circle : Circle := {}
  referenced : Bool := false
  camPhase : Option Int := none
  permissiveLost : Bool := false
  deriving DecidableEq, Repr

/-- The contactor check of a DRAG or WALK station (R147, R148); `raised` says this run has raised. -/
structure Contactor where
  disagree : Nat := 0
  raised : Bool := false
  contrary : Nat := 0
  deriving DecidableEq, Repr

/-! ### Alarm unit and machine alarm table (chapter 10) -/

/-- Alarm codes, in the order of the rows of TABLE 10-2. -/
inductive AlarmCode where
  | stationStarted | lineAlone | lineFault | duplicateStation | paceJump | peerSilent
  | configMismatch | configClamped | referenceStarved | handleFault | overcurrent | stallHeld
  | fieldLinkLost | brakeFeedback | brakeSlip | encoderFault | zoneOvertravel | ropeMarkMismatch
  | overload | slackRope | tightLineLimit | swingMarkMismatch | swingNotPermitted
  | shareLoanDropped | transferRefused | transferFailed | contactorDisagree | walkPermissiveLost
  | stepOvertime | camPhase | restartRefused | operatorStop
  deriving DecidableEq, Repr

/-- Alarm record states (TABLE 10-1). -/
inductive AlarmState where
  | activeUnack | activeAck | clearedUnack
  deriving DecidableEq, Repr

/-- A record of the station alarm list (TABLE 10-1); the severity is fixed by the code. -/
structure AlarmRecord where
  code : AlarmCode
  detail : Option Nat
  raised : Stamp
  state : AlarmState
  repeats : Nat
  deriving DecidableEq, Repr

/-- The station mode the alarm unit holds (R172). -/
inductive Mode where
  | tripped | run
  deriving DecidableEq, Repr

/-- The alarm unit (R165, R172). -/
structure Alarms where
  list : List AlarmRecord := []
  lost : Nat := 0
  overflow : Bool := false
  refresh : Nat := 0
  mode : Mode := .tripped
  deriving DecidableEq, Repr

/-- A record of the machine alarm table (TABLE 10-3). -/
structure TableRecord where
  source : Nat
  code : AlarmCode
  detail : Option Nat
  severity : Severity
  state : AlarmState
  raised : Stamp
  age : Nat
  deriving DecidableEq, Repr

/-- Trip episode states (R180). -/
inductive Episode where
  | closed | floating | frozen
  deriving DecidableEq, Repr

/-- The first-out copy (R180). -/
structure FirstOut where
  source : Nat
  code : AlarmCode
  detail : Option Nat
  raised : Stamp
  deriving DecidableEq, Repr

/-- The machine alarm table and the annunciator's counts (R177). -/
structure MachineTable where
  records : List TableRecord := []
  lost : Nat := 0
  episode : Episode := .closed
  firstOut : Option FirstOut := none
  restartTime : Stamp := ⟨0, 0⟩
  flashPhase : Bool := false
  flashCount : Nat := 0
  refusalFlash : Nat := 0
  deriving DecidableEq, Repr

/-! ### Start-up control and the settings image (chapters 11 and 12) -/

/-- Start states (TABLE 11-1). -/
inductive StartState where
  | reset | reading | selftest | listen | joined | halted
  deriving DecidableEq, Repr

/-- Global parameters (TABLE 12-7). -/
structure Globals where
  pacePeriod : Nat := 0
  statusPoint : Nat := 0
  longLength : Nat := 0
  staleness : Nat := 0
  window : Nat := 0
  pool : Nat := 0
  loanTerm : Nat := 0
  highMark : Nat := 0
  lowMark : Nat := 0
  contactorLimit : Nat := 0
  deriving DecidableEq, Repr

/-- A machine table entry (TABLE 12-6). -/
structure TableEntry where
  role : Role := .none
  homeShare : Nat := 0
  subs : DWord := 0
  deriving DecidableEq, Repr

/-- A discrete input field: the input number and its active level (section 12.4). -/
structure InputSel where
  number : Nat := 0
  high : Bool := false
  deriving DecidableEq, Repr

/-- The selections of a mark capture unit (TABLE 12-8); slave source 0 none, 1 input, 2 encoder index. Unset
until READING ends (R36), they hold the values below (DESIGN CHOICE, log entry 5). -/
structure CaptureSel where
  masterInput : Fin 8 := 0
  masterRising : Bool := false
  slaveSource : Nat := 0
  slaveInput : Fin 8 := 0
  slaveRising : Bool := false
  lead : Nat := 0
  deriving DecidableEq, Repr

/-- Drive chain parameters (TABLE 5-1 without the pool). -/
structure DriveParams where
  voltageSpan : Nat := 0
  currentSpan : Nat := 0
  countsPerCycle : Nat := 0
  ratedPower : Nat := 0
  accel : Nat := 0
  decel : Nat := 0
  creep : Nat := 0
  stallKnee : Nat := 0
  stallLimit : Nat := 0
  tripCurrent : Nat := 0
  brakeDelay : Nat := 0
  brakeCheck : Nat := 0
  deriving DecidableEq, Repr

/-- A handle channel's parameters (TABLE 4-1). -/
structure HandleParams where
  centre : Nat := 0
  span : Nat := 0
  deadband : Nat := 0
  deriving DecidableEq, Repr

/-- The CAB role fields (TABLE 12-8). -/
structure CabParams where
  handles : List HandleParams := []
  lead : Nat := 0
  ackInput : InputSel := {}
  restartInput : InputSel := {}
  walkModeInput : InputSel := {}
  emergencyInput : InputSel := {}
  deriving DecidableEq, Repr

/-- The HOIST and DRAG role fields (TABLE 7-1). -/
structure RopeParams where
  countsPerMetre : Nat := 0
  refPosition : Nat := 0
  limitIn : Nat := 0
  limitOut : Nat := 0
  stopMargin : Nat := 0
  zoneWidth : Nat := 0
  loadZero : Nat := 0
  loadSpan : Nat := 0
  clearMark : Nat := 0
  groundMark : Nat := 0
  maxLoad : Nat := 0
  slackThreshold : Nat := 0
  tightLine : Nat := 0
  yieldLimit : Nat := 0
  hardLimit : InputSel := {}
  deriving DecidableEq, Repr

/-- The SWING role fields (TABLE 8-1). -/
structure SwingParams where
  countsPerRev : Nat := 0
  markAngle : Nat := 0
  markTolerance : Nat := 0
  walkAngle : Nat := 0
  walkWindow : Nat := 0
  deriving DecidableEq, Repr

/-- The WALK role fields (TABLE 9-1). -/
structure WalkParams where
  askWait : Nat := 0
  countsPerRev : Nat := 0
  stowAngle : Nat := 0
  stowWindow : Nat := 0
  camMin : Nat := 0
  camMax : Nat := 0
  stepLimit : Nat := 0
  deriving DecidableEq, Repr

/-- The parameter set of the station's own role (TABLE 12-8); role fields of other roles stay empty. -/
structure Params where
  reserve : Nat := 0
  holdLimit : Nat := 0
  unit0 : CaptureSel := {}
  unit1 : CaptureSel := {}
  brakeInput : InputSel := {}
  drive : DriveParams := {}
  cab : CabParams := {}
  rope : RopeParams := {}
  swing : SwingParams := {}
  walk : WalkParams := {}
  ds : InputSel := {}
  ws : InputSel := {}
  deriving DecidableEq, Repr

/-- The settings image (R187); before it is formed it holds these values (DESIGN CHOICE, log entry 5). -/
structure Settings where
  table : List TableEntry := []
  globals : Globals := {}
  params : Params := {}
  deriving DecidableEq, Repr

/-- Start-up control (R185, R191); halt cause 0 is none. `faultCount` is the place in the FAULT pin's 2 s
code, in 10 µs units; its last unit after full reset is the model's choice (log entry 5). -/
structure StartUp where
  state : StartState := .reset
  station : BitVec 3 := 0
  rate : BitVec 2 := 0
  settings : Settings := {}
  clamped : Bool := false
  signature : Word := 0
  haltCause : Nat := 0
  listenTimer : Nat := 0
  faultCount : Nat := 199999
  deriving DecidableEq, Repr

/-! ### The whole station -/

/-- The events of the table's rows that fall at a cycle start. `State.events` names those the last
command brought about; no block of the station reads them. -/
inductive Event where
  | longCycle | peerSilent | referenceStarved | duplicateStationClear | lineRejoin | pressure
  | askWaitEnd | voluntaryReturn | loanTermEnd | loanGraceEnd | quarantineEnd | stallHeld
  | fieldLinkLost | brakeSet | brakeFeedback | brakeSlip | slackRope | yieldLimit
  | yieldWaitExpiry | askWaitExpiry | transferFailed | contactorDisagree | contactorContrary
  | stepOvertime | flashPhaseInvert | refusalFlashEnd | tablePurge
  deriving DecidableEq, Repr

/-- One WP740 station. -/
structure State where
  line : LineUnit
  time : LineTime
  unit0 : CaptureUnit
  unit1 : CaptureUnit
  picture : Picture
  ring : Ring
  cab : Cab
  drive : Drive
  share : Share
  rope : Rope
  swing : Swing
  walk : Walk
  contactor : Contactor
  alarms : Alarms
  table : MachineTable
  startup : StartUp
  encoder : DWord
  inputs : Inputs
  events : List Event
  pending : List Instr
  deriving DecidableEq, Repr

/-- The station right after full reset (R185 and the reset rule of each chapter). Pin levels and the
samples no chapter gives a reset value are 0 (DESIGN CHOICE, log entry 5). -/
def State.reset : State where
  line := {}
  time := {}
  unit0 := {}
  unit1 := {}
  picture := {}
  ring := {}
  cab := {}
  drive := {}
  share := {}
  rope := {}
  swing := {}
  walk := {}
  contactor := {}
  alarms := {}
  table := {}
  startup := {}
  encoder := 0
  inputs := ⟨0, 0, 0, 0, 0⟩
  events := []
  pending := []

/-- The block stops with no fault: every command answers a next state. -/
inductive Fault where
  deriving DecidableEq, Repr

/-- Why a command has no meaning. -/
inductive Refusal where
  /-- Raised by an arm of `exec` for a command the model gives no meaning (safe). No arm raises it. -/
  | notModelled (mnemonic : String)
  deriving DecidableEq, Repr

/-! ### Updates of one block -/

/-- `s` with its `line` changed. -/
def State.onLine (s : State) (g : LineUnit → LineUnit) : State := { s with line := g s.line }

/-- `s` with its `time` changed. -/
def State.onTime (s : State) (g : LineTime → LineTime) : State := { s with time := g s.time }

/-- `s` with its `unit0` changed. -/
def State.onUnit0 (s : State) (g : CaptureUnit → CaptureUnit) : State := { s with unit0 := g s.unit0 }

/-- `s` with its `unit1` changed. -/
def State.onUnit1 (s : State) (g : CaptureUnit → CaptureUnit) : State := { s with unit1 := g s.unit1 }

/-- `s` with its `picture` changed. -/
def State.onPicture (s : State) (g : Picture → Picture) : State := { s with picture := g s.picture }

/-- `s` with its `ring` changed. -/
def State.onRing (s : State) (g : Ring → Ring) : State := { s with ring := g s.ring }

/-- `s` with its `cab` changed. -/
def State.onCab (s : State) (g : Cab → Cab) : State := { s with cab := g s.cab }

/-- `s` with its `drive` changed. -/
def State.onDrive (s : State) (g : Drive → Drive) : State := { s with drive := g s.drive }

/-- `s` with its `share` changed. -/
def State.onShare (s : State) (g : Share → Share) : State := { s with share := g s.share }

/-- `s` with its `rope` changed. -/
def State.onRope (s : State) (g : Rope → Rope) : State := { s with rope := g s.rope }

/-- `s` with its `swing` changed. -/
def State.onSwing (s : State) (g : Swing → Swing) : State := { s with swing := g s.swing }

/-- `s` with its `walk` changed. -/
def State.onWalk (s : State) (g : Walk → Walk) : State := { s with walk := g s.walk }

/-- `s` with its `contactor` changed. -/
def State.onContactor (s : State) (g : Contactor → Contactor) : State := { s with contactor := g s.contactor }

/-- `s` with its `alarms` changed. -/
def State.onAlarms (s : State) (g : Alarms → Alarms) : State := { s with alarms := g s.alarms }

/-- `s` with its `table` changed. -/
def State.onTable (s : State) (g : MachineTable → MachineTable) : State := { s with table := g s.table }

/-- `s` with its `startup` changed. -/
def State.onStartup (s : State) (g : StartUp → StartUp) : State := { s with startup := g s.startup }

/-- `s` with an event of this command named. -/
def State.note (s : State) (e : Event) : State := { s with events := e :: s.events }

end Sys2Proof.Machine
end

