-- ==== Sys2Proof/Machine/Arith.lean ====
section
/-! DEFINITION. The arithmetic the spec names once (00 "Arithmetic", "Positions and angles", "Counters"):
scaling on the magnitude, clamping, saturating counts, signed differences, angles and stamps. -/

namespace Sys2Proof.Machine

/-- Truncation toward zero on the magnitude, the sign restored; `num` and `den` exact. -/
def scaleTrunc (num den : Int) : Int := num.tdiv den

/-- Clamp to `lo` to `hi`. -/
def clampInt (lo hi x : Int) : Int := if x < lo then lo else if hi < x then hi else x

/-- Clamp to `lo` to `hi`. -/
def clampNat (lo hi x : Nat) : Nat := if x < lo then lo else if hi < x then hi else x

/-- Add to a count that saturates at `top`. -/
def satAdd (top n k : Nat) : Nat := min top (n + k)

/-- Add 1 to a 16-bit statistic counter (00 "Counters"). -/
def bump (n : Nat) : Nat := satAdd Config.counterMax n 1

/-- Add 1 to a count saturating at 255. -/
def bump8 (n : Nat) : Nat := satAdd Config.smallMax n 1

/-- Add 1 modulo 65,536. -/
def inc16 (n : Nat) : Nat := (n + 1) % 65536

/-- The signed difference of two 32-bit numbers modulo 2^32 (R24, R34, R75, R135). -/
def signedDiff (a b : DWord) : Int := (a - b).toInt

/-- Stamps are compared by cycle number and then by offset (R30). -/
def Stamp.le (a b : Stamp) : Bool :=
  decide (a.cycle.toNat < b.cycle.toNat) || (a.cycle == b.cycle && decide (a.offset ≤ b.offset))

/-- Strictly before, as stamps. -/
def Stamp.lt (a b : Stamp) : Bool := !b.le a

/-- A count reduced modulo the counts per revolution (R134). -/
def reduceCount (n : Int) (perRev : Nat) : Nat := (n % (perRev : Int)).toNat

/-- The angle of a reduced count with a base, in tenths of a degree (R134). -/
def angleOf (count perRev base : Nat) : Nat := (count * 3600 / perRev + base) % 3600

/-- The signed shortest angular distance from `a` to `b`, -1800 to +1799 (00 "Positions and angles"). -/
def angleDistance (a b : Int) : Int := (b - a + 1800) % 3600 - 1800

/-- The ceiling of `n` tokens in kW (R76). -/
def ceilingKw (pool n : Nat) : Nat := n * pool / Config.tokens

end Sys2Proof.Machine
end

