-- ==== Sys2Proof/Machine/Settings.lean ====
section
/-! DEFINITION. The settings block (section 12.4): reading the image from the 512 bytes, the tests of
TABLE 11-2 on it, and the two clamping passes of R187. -/

namespace Sys2Proof.Machine

/-- Role codes (TABLE 12-3); none for a code above 5. -/
def Role.ofCode : Nat → Option Role
  | 0 => some .none | 1 => some .cab | 2 => some .hoist | 3 => some .drag | 4 => some .swing
  | 5 => some .walk | _ => none

/-- Role codes (TABLE 12-3). -/
def Role.code : Role → Nat
  | .none => 0 | .cab => 1 | .hoist => 2 | .drag => 3 | .swing => 4 | .walk => 5

/-- The axis roles. -/
def Role.isAxis : Role → Bool
  | .hoist | .drag | .swing | .walk => true
  | .none | .cab => false

/-- Byte `k` of the block. -/
def blockByte (block : List Byte) (k : Nat) : Nat := (block.getD k 0).toNat

/-- The two-byte field at `k`, most significant byte first (R192). -/
def block16 (block : List Byte) (k : Nat) : Nat := blockByte block k * 256 + blockByte block (k + 1)

/-- The four-byte field at `k` (R192). -/
def block32 (block : List Byte) (k : Nat) : Nat := block16 block k * 65536 + block16 block (k + 2)

/-- The check over every byte of the block but the two of its check field (R186). -/
def blockCheck (block : List Byte) : Word := crc16Bytes (block.take 4 ++ block.drop 6)

/-- The header's check field (TABLE 12-6). -/
def headerCheck (block : List Byte) : Word := BitVec.ofNat 16 (block16 block 4)

/-- Role byte of machine table entry `k`. -/
def roleByte (block : List Byte) (k : Nat) : Nat := blockByte block (8 + 8 * k)

/-- Home share of machine table entry `k`, clamped to 0 to 64 (R186, cause 8). -/
def homeByte (block : List Byte) (k : Nat) : Nat := min Config.tokens (blockByte block (9 + 8 * k))

/-- The subscription bits that name a broadcast kind of class 1 or 2; the others are ignored (R187). -/
def subscriptionMask : DWord :=
  Kind.all.foldl (fun m k =>
    if k.isBroadcast && (k.cls == 1 || k.cls == 2) then m ||| (1#32 <<< k.code) else m) 0

/-- The bit of STATUS in a subscription set. -/
def statusBit : DWord := 1#32 <<< Kind.status.code

/-- Roles other than NONE given to two station numbers (TABLE 11-2, cause 6). -/
def duplicateRole (roles : List Nat) : Bool :=
  match roles with
  | [] => false
  | r :: rest => (r != 0 && rest.contains r) || duplicateRole rest

/-- The first condition of TABLE 11-2, from cause 4 on, that the block fails; none when all hold. -/
def settingsCause (block : List Byte) (station : Nat) : Option Nat :=
  let roles := (List.range 8).map (roleByte block)
  if block16 block 0 ≠ Config.formatVersion ∨ block16 block 2 ≠ Config.blockBytes then some 4
  else if blockCheck block ≠ headerCheck block then some 5
  else if roles.any (fun r => decide (5 < r)) || duplicateRole roles then some 6
  else if roleByte block station = 0 then some 7
  else if Config.tokens < ((List.range 8).map (homeByte block)).sum then some 8
  else none

/-- A discrete input field: number in the low 3 bits, active level in bit 3 (section 12.4). -/
def inputSelOf (n : Nat) : InputSel := { number := n % 8, high := n.testBit 3 }

/-- A capture selection field, its fields from the most significant bit downward (TABLE 12-8, R192). -/
def captureSelOf (n : Nat) : CaptureSel :=
  let w := BitVec.ofNat 16 n
  { masterInput := Fin.ofNat 8 (wordField w 0 3), masterRising := wordField w 3 1 == 1,
    slaveSource := wordField w 4 2, slaveInput := Fin.ofNat 8 (wordField w 6 3),
    slaveRising := wordField w 9 1 == 1, lead := wordField w 10 3 }

/-- Machine table entry `k` as stored, its home share clamped and ignored kinds dropped (TABLE 12-6). -/
def tableEntryOf (block : List Byte) (k : Nat) : TableEntry :=
  { role := (Role.ofCode (roleByte block k)).getD .none, homeShare := homeByte block k,
    subs := BitVec.ofNat 32 (block32 block (10 + 8 * k)) &&& subscriptionMask }

/-- Global parameters as stored (TABLE 12-7). -/
def globalsOf (b : List Byte) : Globals :=
  { pacePeriod := block16 b 72, statusPoint := block16 b 74, longLength := block16 b 76,
    staleness := block16 b 78, window := block16 b 80, pool := block16 b 82,
    loanTerm := block16 b 84, highMark := block16 b 86, lowMark := block16 b 88,
    contactorLimit := block16 b 90 }

/-- TABLE 5-1 in its order without the pool, from offset 10 of the set at `o` (TABLE 12-8). -/
def driveParamsOf (b : List Byte) (o : Nat) : DriveParams :=
  { voltageSpan := block16 b (o + 10), currentSpan := block16 b (o + 12),
    countsPerCycle := block32 b (o + 14), ratedPower := block16 b (o + 18),
    accel := block16 b (o + 20), decel := block16 b (o + 22), creep := block16 b (o + 24),
    stallKnee := block16 b (o + 26), stallLimit := block16 b (o + 28),
    tripCurrent := block16 b (o + 30), brakeDelay := block16 b (o + 32),
    brakeCheck := block16 b (o + 34) }

/-- The CAB role fields of the set at `o` (TABLE 12-8): the centre, span and deadband of channel 0, then those of
channel 1, and so on (DEDUCED, log entry 6). -/
def cabParamsOf (b : List Byte) (o : Nat) : CabParams :=
  { handles := (List.range 4).map fun k =>
      { centre := block16 b (o + 36 + 6 * k), span := block16 b (o + 38 + 6 * k),
        deadband := block16 b (o + 40 + 6 * k) },
    lead := block16 b (o + 60), ackInput := inputSelOf (block16 b (o + 62)),
    restartInput := inputSelOf (block16 b (o + 64)),
    walkModeInput := inputSelOf (block16 b (o + 66)),
    emergencyInput := inputSelOf (block16 b (o + 68)) }

/-- The rope fields of the set at `o`: every row of TABLE 7-1 in its order, in both roles' sets (DEDUCED,
log entry 6). -/
def ropeParamsOf (b : List Byte) (o : Nat) : RopeParams :=
  { countsPerMetre := block16 b (o + 36), refPosition := block16 b (o + 38),
    limitIn := block16 b (o + 40), limitOut := block16 b (o + 42), stopMargin := block16 b (o + 44),
    zoneWidth := block16 b (o + 46), loadZero := block16 b (o + 48), loadSpan := block16 b (o + 50),
    clearMark := block16 b (o + 52), groundMark := block16 b (o + 54), maxLoad := block16 b (o + 56),
    slackThreshold := block16 b (o + 58), tightLine := block16 b (o + 60),
    yieldLimit := block16 b (o + 62), hardLimit := inputSelOf (block16 b (o + 64)) }

/-- The SWING role fields of the set at `o` (TABLE 12-8). -/
def swingParamsOf (b : List Byte) (o : Nat) : SwingParams :=
  { countsPerRev := block32 b (o + 36), markAngle := block16 b (o + 40),
    markTolerance := block16 b (o + 42), walkAngle := block16 b (o + 44),
    walkWindow := block16 b (o + 46) }

/-- The WALK role fields of the set at `o` (TABLE 12-8). -/
def walkParamsOf (b : List Byte) (o : Nat) : WalkParams :=
  { askWait := block16 b (o + 40), countsPerRev := block32 b (o + 42),
    stowAngle := block16 b (o + 46), stowWindow := block16 b (o + 48),
    camMin := block32 b (o + 50), camMax := block32 b (o + 54), stepLimit := block16 b (o + 58) }

/-- The parameter set of `role` as stored (TABLE 12-8). -/
def paramsOf (b : List Byte) (role : Role) : Params :=
  let o := 104 + 80 * (role.code - 1)
  let common : Params :=
    { reserve := block16 b o, holdLimit := block16 b (o + 2),
      unit0 := captureSelOf (block16 b (o + 4)), unit1 := captureSelOf (block16 b (o + 6)),
      brakeInput := inputSelOf (block16 b (o + 8)), drive := driveParamsOf b o }
  match role with
  | .none => {}
  | .cab => { common with cab := cabParamsOf b o }
  | .hoist => { common with rope := ropeParamsOf b o }
  | .drag =>
    { common with rope := ropeParamsOf b o, ds := inputSelOf (block16 b (o + 66)),
                  ws := inputSelOf (block16 b (o + 68)) }
  | .swing => { common with swing := swingParamsOf b o }
  | .walk =>
    { common with walk := walkParamsOf b o, ds := inputSelOf (block16 b (o + 36)),
                  ws := inputSelOf (block16 b (o + 38)) }

/-- The image as stored, before any clamping. -/
def rawSettings (b : List Byte) (role : Role) : Settings :=
  { table := (List.range 8).map (tableEntryOf b), globals := globalsOf b, params := paramsOf b role }

/-- First pass on the globals: the fixed ranges of TABLE 12-7. -/
def Globals.clampFixed (g : Globals) : Globals :=
  { pacePeriod := clampNat 5 50 g.pacePeriod, statusPoint := g.statusPoint,
    longLength := clampNat 2 64 g.longLength, staleness := clampNat 2 20 g.staleness,
    window := clampNat 1 32 g.window, pool := clampNat 100 30000 g.pool,
    loanTerm := clampNat 1 255 g.loanTerm, highMark := clampNat 500 1000 g.highMark,
    lowMark := g.lowMark, contactorLimit := clampNat 10 100 g.contactorLimit }

/-- Second pass on the globals (TABLE 11-3). -/
def Globals.clampDependent (g : Globals) : Globals :=
  { g with statusPoint := min g.statusPoint (g.pacePeriod - 1),
           lowMark := min g.lowMark (g.highMark - 100) }

/-- First pass on the drive parameters (TABLE 5-1). -/
def DriveParams.clampFixed (d : DriveParams) : DriveParams :=
  { voltageSpan := clampNat 100 2047 d.voltageSpan, currentSpan := clampNat 100 2047 d.currentSpan,
    countsPerCycle := clampNat 1 65535 d.countsPerCycle,
    ratedPower := clampNat 10 10000 d.ratedPower, accel := clampNat 1 200 d.accel,
    decel := clampNat 1 200 d.decel, creep := min 200 d.creep,
    stallKnee := clampNat 500 1500 d.stallKnee, stallLimit := min 2000 d.stallLimit,
    tripCurrent := clampNat 1000 2500 d.tripCurrent, brakeDelay := min 50 d.brakeDelay,
    brakeCheck := clampNat 5 100 d.brakeCheck }

/-- Second pass on the drive parameters (TABLE 11-3): the trip current is held against the stall limit as the
first pass left it (R187, log entry 51). -/
def DriveParams.clampDependent (d : DriveParams) : DriveParams :=
  { d with stallLimit := max d.stallLimit (d.stallKnee + 50),
           tripCurrent := max d.tripCurrent d.stallLimit }

/-- First pass on the cab parameters (TABLE 4-1, section 4.1.4). -/
def CabParams.clampFixed (c : CabParams) : CabParams :=
  { c with handles := c.handles.map fun h =>
             { centre := clampNat 1024 3072 h.centre, span := clampNat 200 2000 h.span,
               deadband := min 200 h.deadband },
           lead := clampNat 1 32 c.lead }

/-- First pass on the rope parameters of a role; only that role's rows of TABLE 7-1 are clamped. -/
def RopeParams.clampFixed (p : RopeParams) (role : Role) : RopeParams :=
  let shared : RopeParams :=
    { p with countsPerMetre := clampNat 100 20000 p.countsPerMetre,
             limitIn := min 60000 p.limitIn, stopMargin := clampNat 10 1000 p.stopMargin,
             zoneWidth := clampNat 100 10000 p.zoneWidth, loadZero := min 2047 p.loadZero,
             loadSpan := clampNat 100 3695 p.loadSpan,
             slackThreshold := min 500 p.slackThreshold }
  if role = .hoist then
    { shared with clearMark := min 65534 p.clearMark, maxLoad := clampNat 500 2000 p.maxLoad }
  else
    { shared with tightLine := min 1000 p.tightLine, yieldLimit := clampNat 20 1000 p.yieldLimit }

/-- Second pass on the rope parameters (TABLE 11-3): a payout limit raised above 65,535 is held there and
the haul-in limit lowered. -/
def RopeParams.clampDependent (p : RopeParams) (role : Role) (creep : Nat) : RopeParams :=
  let least := p.limitIn + 2 * p.stopMargin
  let limits : RopeParams :=
    if 65535 < least then { p with limitOut := 65535, limitIn := 65535 - 2 * p.stopMargin }
    else { p with limitOut := max p.limitOut least }
  if role = .hoist then { limits with groundMark := max p.groundMark (p.clearMark + 1) }
  else { limits with tightLine := max p.tightLine creep }

/-- First pass on the swing parameters (TABLE 8-1). -/
def SwingParams.clampFixed (p : SwingParams) : SwingParams :=
  { countsPerRev := clampNat 3600 4000000 p.countsPerRev, markAngle := min 3599 p.markAngle,
    markTolerance := clampNat 1 200 p.markTolerance, walkAngle := min 3599 p.walkAngle,
    walkWindow := clampNat 1 300 p.walkWindow }

/-- First pass on the walk parameters (TABLE 9-1). -/
def WalkParams.clampFixed (p : WalkParams) : WalkParams :=
  { askWait := clampNat 20 1000 p.askWait, countsPerRev := clampNat 3600 4000000 p.countsPerRev,
    stowAngle := min 3599 p.stowAngle, stowWindow := clampNat 1 900 p.stowWindow,
    camMin := min 2000000 p.camMin, camMax := min 2000000 p.camMax,
    stepLimit := clampNat 100 10000 p.stepLimit }

/-- A capture selection's slave source lies in 0 to 2 (TABLE 12-8). -/
def CaptureSel.clampFixed (c : CaptureSel) : CaptureSel := { c with slaveSource := min 2 c.slaveSource }

/-- First pass on a role's parameter set (R187). -/
def Params.clampFixed (p : Params) (role : Role) : Params :=
  { p with reserve := min Config.tokens p.reserve, holdLimit := min 20 p.holdLimit,
           unit0 := p.unit0.clampFixed, unit1 := p.unit1.clampFixed,
           drive := p.drive.clampFixed,
           cab := if role = .cab then p.cab.clampFixed else p.cab,
           rope := if role = .hoist ∨ role = .drag then p.rope.clampFixed role else p.rope,
           swing := if role = .swing then p.swing.clampFixed else p.swing,
           walk := if role = .walk then p.walk.clampFixed else p.walk }

/-- Second pass on a role's parameter set, against the globals after theirs (TABLE 11-3). -/
def Params.clampDependent (p : Params) (role : Role) (g : Globals) : Params :=
  let d := p.drive.clampDependent
  { p with drive := d,
           cab := if role = .cab then { p.cab with lead := min p.cab.lead g.window } else p.cab,
           rope := if role = .hoist ∨ role = .drag then p.rope.clampDependent role d.creep
                   else p.rope,
           walk := if role = .walk then { p.walk with camMax := max p.walk.camMax p.walk.camMin }
                   else p.walk }

/-- Both passes of R187; every subscription set is given STATUS. -/
def Settings.clamp (x : Settings) (role : Role) : Settings :=
  let g := x.globals.clampFixed.clampDependent
  { table := x.table.map fun e => { e with subs := e.subs ||| statusBit },
    globals := g, params := (x.params.clampFixed role).clampDependent role g }

end Sys2Proof.Machine
end

