-- ==== Sys2Proof/Machine/Operands.lean ====
section
/-! DEFINITION. The payload layouts of chapter 12, written and read: every field of every bulletin kind
the station sends or acts on. -/

namespace Sys2Proof.Machine

/-- All alarm codes, in the order of the rows of TABLE 10-2. -/
def AlarmCode.all : List AlarmCode :=
  [.stationStarted, .lineAlone, .lineFault, .duplicateStation, .paceJump, .peerSilent,
    .configMismatch, .configClamped, .referenceStarved, .handleFault, .overcurrent, .stallHeld,
    .fieldLinkLost, .brakeFeedback, .brakeSlip, .encoderFault, .zoneOvertravel, .ropeMarkMismatch,
    .overload, .slackRope, .tightLineLimit, .swingMarkMismatch, .swingNotPermitted,
    .shareLoanDropped, .transferRefused, .transferFailed, .contactorDisagree, .walkPermissiveLost,
    .stepOvertime, .camPhase, .restartRefused, .operatorStop]

/-- Alarm codes 1 to 32 (TABLE 12-3). -/
def AlarmCode.number (c : AlarmCode) : Nat := AlarmCode.all.idxOf c + 1

/-- The alarm code of a number; none for 0 and above 32. -/
def AlarmCode.ofNumber (n : Nat) : Option AlarmCode := if n = 0 then none else AlarmCode.all[n - 1]?

/-- Severities (TABLE 10-2). -/
def AlarmCode.severity : AlarmCode → Severity
  | .stationStarted | .overcurrent | .fieldLinkLost | .encoderFault | .zoneOvertravel
  | .contactorDisagree | .restartRefused | .operatorStop => .trip
  | .lineFault | .duplicateStation | .handleFault | .brakeFeedback | .brakeSlip | .transferFailed
  | .walkPermissiveLost => .stop
  | .lineAlone | .paceJump | .peerSilent | .configMismatch | .configClamped | .referenceStarved
  | .stallHeld | .ropeMarkMismatch | .overload | .slackRope | .tightLineLimit | .swingMarkMismatch
  | .swingNotPermitted | .shareLoanDropped | .transferRefused | .stepOvertime | .camPhase => .warn

/-- Severity codes (TABLE 12-3); none is 0. -/
def Severity.code : Severity → Nat
  | .warn => 1 | .stop => 2 | .trip => 3

/-- The code of a severity or of none. -/
def severityCode (s : Option Severity) : Nat := (s.map Severity.code).getD 0

/-- The severity of a 2-bit code. -/
def severityOfCode : Nat → Option Severity
  | 1 => some .warn | 2 => some .stop | 3 => some .trip | _ => none

/-- Alarm state codes (TABLE 12-3); REMOVED is 3. -/
def AlarmState.code : AlarmState → Nat
  | .activeUnack => 0 | .activeAck => 1 | .clearedUnack => 2

/-- The alarm state of a 2-bit code; none is REMOVED. -/
def alarmStateOfCode : Nat → Option AlarmState
  | 0 => some .activeUnack | 1 => some .activeAck | 2 => some .clearedUnack | _ => none

/-- Reported mode codes (TABLE 12-3). -/
def ReportedMode.code : ReportedMode → Nat
  | .fresh => 0 | .run => 1 | .tripped => 2

/-- The reported mode of a 2-bit code; none for 3. -/
def reportedModeOfCode : Nat → Option ReportedMode
  | 0 => some .fresh | 1 => some .run | 2 => some .tripped | _ => none

/-- Bucket class codes (TABLE 12-3). -/
def Bucket.code : Bucket → Nat
  | .unknown => 0 | .grounded => 1 | .low => 2 | .clear => 3

/-- Ownership state codes (TABLE 12-3). -/
def Ownership.code : Ownership → Nat
  | .digging => 0 | .yielding => 1 | .yielded => 2 | .reclaiming => 3

/-- Walk state codes (TABLE 12-3). -/
def WalkState.code : WalkState → Nat
  | .parked => 0 | .asking => 1 | .transferring => 2 | .ready => 3 | .stepping => 4
  | .settling => 5 | .returning => 6 | .faulted => 7

/-- PARKED FOR WALK (TABLE 12-3). -/
def parkedForWalk : Nat := 1

/-- The largest axis state code of a role (TABLE 3-3, TABLE 12-3). -/
def Role.maxAxis : Role → Nat
  | .hoist | .drag => 3
  | .swing => 1
  | .walk => 7
  | .none | .cab => 0

/-- The detail of a record as it travels: present mark and four bits. -/
def detailFields (d : Option Nat) : List (Nat × Nat) := [(1, d.isSome.toNat), (4, d.getD 0)]

/-- A detail as carried: a present mark of 0 makes it absent (R193). -/
def detailOf (present detail : Nat) : Option Nat := if present = 1 then some detail else none

/-- A stamp as carried: 32-bit cycle, 16-bit offset. -/
def Stamp.words (t : Stamp) : List Word := words32 t.cycle ++ [BitVec.ofNat 16 t.offset]

/-- The stamp in payload words `k` to `k + 2`. -/
def stampAt (words : List Word) (k : Nat) : Stamp :=
  ⟨dword (payloadWord words k) (payloadWord words (k + 1)), (payloadWord words (k + 2)).toNat⟩

/-- TRIP payload (TABLE 12-2). -/
def tripWords (code : AlarmCode) (detail : Option Nat) (t : Stamp) : List Word :=
  packWord ((6, code.number) :: detailFields detail) :: t.words

/-- The code and detail of a TRIP payload; none for a code of 0 or above 32 (R193). A code of another severity
is none such (DEDUCED, log entry 56). -/
def tripOf (words : List Word) : Option (AlarmCode × Option Nat × Stamp) :=
  let w := payloadWord words 0
  (AlarmCode.ofNumber (wordField w 0 6)).map fun c =>
    (c, detailOf (wordField w 6 1) (wordField w 7 4), stampAt words 1)

/-- ALARM payload (TABLE 12-2); `removed` sends the state REMOVED (R170). -/
def alarmWords (r : AlarmRecord) (removed refresh : Bool) : List Word :=
  packWord ([(6, r.code.number), (2, r.code.severity.code),
      (2, if removed then 3 else r.state.code), (1, refresh.toNat)] ++ detailFields r.detail)
    :: r.raised.words ++ [packWord [(8, r.repeats)]]

/-- What the machine alarm table merges (R178): `state` none is REMOVED. -/
structure Merge where
  source : Nat
  code : AlarmCode
  detail : Option Nat
  state : Option AlarmState
  raised : Stamp
  refresh : Bool
  deriving DecidableEq, Repr

/-- What an ALARM payload from `source` merges; none when its code is 0 or above 32 or its severity is not
its code's (R193). -/
def mergeOf (source : Nat) (words : List Word) : Option Merge :=
  let w := payloadWord words 0
  match AlarmCode.ofNumber (wordField w 0 6) with
  | none => none
  | some c =>
    if wordField w 6 2 = c.severity.code then
      some { source, code := c, detail := detailOf (wordField w 11 1) (wordField w 12 4),
             state := alarmStateOfCode (wordField w 8 2), raised := stampAt words 1,
             refresh := wordField w 10 1 == 1 }
    else none

/-- STATUS payload (TABLE 12-4). -/
def StatusFields.words (x : StatusFields) : List Word :=
  [packWord [(3, x.role.code), (2, x.mode.code), (3, x.axis), (1, x.calibrated.toNat),
     (1, x.brakeSet.toNat), (1, x.fresh.toNat), (2, severityCode x.severity),
     (1, x.overflow.toNat)],
   BitVec.ofNat 16 x.position, signedWord x.speed, packWord [(7, x.own), (7, x.spare)],
   packWord [(7, x.borrowed), (7, x.lent)], x.signature]

/-- The fields of a STATUS payload as its cells carry them; none where the role or the mode code is none of
TABLE 12-4's. -/
def StatusFields.read (words : List Word) : Option StatusFields :=
  let w := payloadWord words 0
  let t := payloadWord words 3
  let u := payloadWord words 4
  match Role.ofCode (wordField w 0 3), reportedModeOfCode (wordField w 3 2) with
  | some role, some mode =>
    some
      { role, mode, axis := wordField w 5 3, calibrated := wordField w 8 1 == 1,
        brakeSet := wordField w 9 1 == 1, fresh := wordField w 10 1 == 1,
        severity := severityOfCode (wordField w 11 2), overflow := wordField w 13 1 == 1,
        position := (payloadWord words 1).toNat, speed := (payloadWord words 2).toInt,
        own := wordField t 0 7, spare := wordField t 7 7, borrowed := wordField u 0 7,
        lent := wordField u 7 7, signature := payloadWord words 5 }
  | _, _ => none

/-- The fields keep the ranges of R193. -/
def StatusFields.inRange (x : StatusFields) : Bool :=
  decide (x.axis ≤ x.role.maxAxis ∧ -1999 ≤ x.speed ∧ x.speed ≤ 1999 ∧ x.own ≤ Config.tokens
    ∧ x.spare ≤ Config.tokens ∧ x.borrowed ≤ Config.tokens ∧ x.lent ≤ Config.tokens)

/-- The fields of a STATUS payload taken from a peer; none when R193 discards it. -/
def StatusFields.ofWords (words : List Word) : Option StatusFields :=
  (StatusFields.read words).filter StatusFields.inRange

/-- REFERENCE contents (TABLE 4-4). -/
structure ReferenceFields where
  tag : Word
  hoist : Int
  drag : Int
  swing : Int
  walk : Int
  validHoist : Bool
  validDrag : Bool
  validSwing : Bool
  validWalk : Bool
  walkMode : Bool
  deriving DecidableEq, Repr

/-- REFERENCE payload (TABLE 12-2). -/
def ReferenceFields.words (r : ReferenceFields) : List Word :=
  [r.tag, signedWord r.hoist, signedWord r.drag, signedWord r.swing, signedWord r.walk,
   packWord [(1, r.validHoist.toNat), (1, r.validDrag.toNat), (1, r.validSwing.toNat),
     (1, r.validWalk.toNat), (1, r.walkMode.toNat)]]

/-- The fields of a REFERENCE payload. -/
def ReferenceFields.ofWords (words : List Word) : ReferenceFields :=
  let f := payloadWord words 5
  { tag := payloadWord words 0, hoist := (payloadWord words 1).toInt,
    drag := (payloadWord words 2).toInt, swing := (payloadWord words 3).toInt,
    walk := (payloadWord words 4).toInt, validHoist := wordField f 0 1 == 1,
    validDrag := wordField f 1 1 == 1, validSwing := wordField f 2 1 == 1,
    validWalk := wordField f 3 1 == 1, walkMode := wordField f 4 1 == 1 }

/-- The word of a role with its valid bit, and the entry's WALK MODE (R63). -/
def ReferenceFields.entryFor (r : ReferenceFields) (role : Role) : RingEntry :=
  let word : Option Int := match role with
    | .hoist => if r.validHoist then some r.hoist else none
    | .drag => if r.validDrag then some r.drag else none
    | .swing => if r.validSwing then some r.swing else none
    | .walk => if r.validWalk then some r.walk else none
    | .none | .cab => none
  { tag := r.tag, value := word, walkMode := role == .walk && r.walkMode }

/-- A 4-bit reason or cause (TABLE 12-2). -/
def reasonWords (n : Nat) : List Word := [packWord [(4, n)]]

/-- The reason or cause of a payload. -/
def reasonOf (words : List Word) : Nat := wordField (payloadWord words 0) 0 4

/-- A SHARE count (TABLE 12-2). -/
def countWords (n : Nat) : List Word := [packWord [(7, n)]]

/-- A SHARE count with a grant number (TABLE 12-2). -/
def grantWords (n : Nat) (g : Word) : List Word := [packWord [(7, n)], g]

/-- The count of a SHARE payload, 0 to 127. -/
def countOf (words : List Word) : Nat := wordField (payloadWord words 0) 0 7

/-- The grant number of a SHARE payload. -/
def grantOf (words : List Word) : Word := payloadWord words 1

/-- The query a QUERY bulletin asks (TABLE 12-2). -/
def queryOf (b : Bulletin) : Query :=
  let w := payloadWord b.words 0
  { tag := b.sender, item := wordField w 0 4, part := wordField w 4 2, index := wordField w 8 8 }

/-- XFER-REFUSE reasons and the TRANSFER REFUSED detail (TABLE 12-3). -/
def reasonBusy : Nat := 1
def reasonTripped : Nat := 2
def reasonNotStopped : Nat := 3
def detailNoAnswer : Nat := 4

/-- XFER-ABORT causes (TABLE 12-3). -/
def causeWalkModeCleared : Nat := 4
def causeAskWait : Nat := 5

/-- SHARE-REFUSE reasons (TABLE 12-3). -/
def reasonZero : Nat := 1
def reasonFresh : Nat := 2
def reasonNone : Nat := 3

end Sys2Proof.Machine
end

