-- ==== Sys2Proof/Machine/Flags.lean ====
section
/-! DEFINITION. What the state shows without being stored: the station's role and parameters, its line
time, conditions over records, held and spare tokens, contactor reading, owned hook, and the output
pins that follow other state. -/

namespace Sys2Proof.Machine

/-- The entry IN FLIGHT. -/
def flight (q : List Entry) : Option Entry := q.find? fun e => e.inFlight

namespace State

variable (s : State)

/-- The strapped station number (R186). -/
def station : Nat := s.startup.station.toNat

/-- The machine table entry of a station number (TABLE 12-6). -/
def entryOf (n : Nat) : TableEntry := s.startup.settings.table.getD n {}

/-- The role of the settings entry for the station number (R50). -/
def role : Role := (s.entryOf s.station).role

/-- Global parameters. -/
def globals : Globals := s.startup.settings.globals

/-- The parameters of the station's own role. -/
def params : Params := s.startup.settings.params

/-- N, the number of 10 µs units in the pace period (section 2.1). -/
def units : Nat := s.globals.pacePeriod * 100

/-- The offset of the status point (R28). -/
def statusOffset : Nat := s.globals.statusPoint * 100

/-- The line time stamp of this moment (R30). -/
def now : Stamp := ⟨s.time.cycle, s.time.offset⟩

/-- The station has joined and not halted. -/
def joined : Bool := s.startup.state == .joined

/-- The station number the machine table gives a role (R45). -/
def numberOf (r : Role) : Option Nat :=
  (List.range 8).find? fun n => (s.entryOf n).role == r

/-- A peer record by station number (R37). -/
def peer (n : Nat) : PeerRecord := s.picture.peers.getD n {}

/-- HEARD and older than the staleness limit (R44). -/
def isStale (p : PeerRecord) : Bool := p.heard && decide (s.globals.staleness < p.age)

/-- HEARD and within the staleness limit (R44). -/
def isFresh (p : PeerRecord) : Bool := p.heard && decide (p.age ≤ s.globals.staleness)

/-- The record read for a role; ABSENT when the machine table gives no number the role (R45). -/
def roleRecord (r : Role) : PeerRecord :=
  match s.numberOf r with
  | some n => s.peer n
  | none => {}

/-- A role's record is HEARD, not stale, and of that role (R45). -/
def roleHeard (r : Role) : Bool := s.isFresh (s.roleRecord r) && (s.roleRecord r).status.role == r

/-- A role's record meets R45 and reports an axis state code. -/
def roleReports (r : Role) (axis : Nat) : Bool :=
  s.roleHeard r && (s.roleRecord r).status.axis == axis

/-- A discrete input reads its active level (section 12.4). -/
def inputActive (sel : InputSel) : Bool := s.inputs.din.getLsbD sel.number == sel.high

/-- The STOP inhibit holds (R174). -/
def stopInhibit : Bool :=
  s.alarms.list.any fun r => r.code.severity == .stop && r.state != .clearedUnack

/-- The list holds a TRIP-severity record in any state (R175). -/
def tripStands : Bool := s.alarms.list.any fun r => r.code.severity == .trip

/-- The highest severity of the active records (TABLE 3-2). -/
def listSeverity : Option Severity :=
  let has (v : Severity) := s.alarms.list.any fun r => r.code.severity == v && r.state != .clearedUnack
  if has .trip then some .trip else if has .stop then some .stop
  else if has .warn then some .warn else none

/-- The mode as reported in STATUS (section 10.2). -/
def reportedMode : ReportedMode :=
  if s.share.fresh then .fresh else if s.alarms.mode = .run then .run else .tripped

/-- Held tokens (R95). -/
def held : Nat := s.share.own + s.share.borrowed - (s.share.borrowedRecords.map (·.shed)).sum

/-- The ceiling of a token count in kW (R76). -/
def ceiling (n : Nat) : Nat := ceilingKw s.globals.pool n

/-- Spare tokens (R99). -/
def spare : Nat :=
  if s.share.fresh || decide (0 < s.share.borrowed) then 0
  else s.share.own - max s.share.need s.params.reserve - s.share.promised

/-- Contactor contacts read closed at their active levels (R145). -/
def dsClosed : Bool := s.inputActive s.params.ds
def wsClosed : Bool := s.inputActive s.params.ws

/-- DRAG SIDE: drag side closed and walk side open (TABLE 9-2). -/
def dragSide : Bool := s.dsClosed && !s.wsClosed
/-- WALK SIDE (TABLE 9-2). -/
def walkSide : Bool := s.wsClosed && !s.dsClosed
/-- BOTH OPEN (TABLE 9-2). -/
def bothOpen : Bool := !s.dsClosed && !s.wsClosed
/-- BOTH CLOSED (TABLE 9-2). -/
def bothClosed : Bool := s.dsClosed && s.wsClosed

/-- The owned hook (TABLE 5-3, R126, R146). -/
def ownedHook : Bool :=
  match s.role with
  | .drag => s.dragSide && (s.rope.ownership == .digging || s.rope.ownership == .reclaiming)
  | .walk => s.walkSide && (s.walk.state == .ready || s.walk.state == .stepping
      || s.walk.state == .settling)
  | .hoist | .swing => true
  | .none | .cab => false

/-- The brake release output, asserted while the brake command is RELEASED (R90). -/
def brakeRelease : Bool := s.drive.brake == .released

/-- The axis state code of the station's STATUS (TABLE 3-3). -/
def axisCode : Nat :=
  match s.role with
  | .hoist => s.rope.bucket.code
  | .drag => s.rope.ownership.code
  | .swing => s.swing.parked.toNat
  | .walk => s.walk.state.code
  | .none | .cab => 0

/-- The position field of the station's STATUS (TABLE 3-2). -/
def positionField : Nat :=
  match s.role with
  | .hoist | .drag => s.rope.position
  | .swing => s.swing.circle.angle
  | .walk => s.walk.circle.angle
  | .none | .cab => 0

/-- The calibrated field of the station's STATUS (TABLE 3-2): a change between two cycle starts enters it at
the next one (R117, R137). -/
def calibratedField : Bool :=
  match s.role with
  | .hoist | .drag => s.rope.calReport
  | .swing => s.swing.calReport
  | .none | .cab | .walk => false

/-- The fields the station's STATUS gathers at the status point (TABLE 3-2). -/
def statusFields : StatusFields :=
  { role := s.role, mode := s.reportedMode, axis := s.axisCode, calibrated := s.calibratedField,
    brakeSet := s.role.isAxis && s.drive.brakeInput, fresh := s.share.fresh,
    severity := s.listSeverity, overflow := s.alarms.overflow, position := s.positionField,
    speed := if s.role.isAxis then s.drive.speed else 0, own := s.share.own, spare := s.spare,
    borrowed := s.share.borrowed, lent := s.share.lent, signature := s.startup.signature }

/-- The bulletin being sent: the entry IN FLIGHT under the strapped station number, with the sequence its
attempt carries (R4, R5). -/
def sent : Option RawBulletin :=
  (flight s.line.queue).map fun e =>
    .form e.kind s.startup.station e.target s.line.txSeq e.words

/-- The cells the station sends for it (R4). -/
def sentCells : List Bool :=
  match s.sent with
  | some r => r.lineCells
  | none => []

/-- The PROBE of the self-test and the rejoin test (R188): the strapped station number as sender, and the
sequence that held when its attempt began (R5). Its target is the station's own number (DESIGN CHOICE, log
entry 19). -/
def probe : RawBulletin :=
  .form .probe s.startup.station (s.startup.station.setWidth 4) s.line.txSeq probeWords

/-- The cells the test compares agree, from the start cell through the check (R188). -/
def probeReadBack (readBack : List Bool) : Bool :=
  readBack.take s.probe.cells.length == s.probe.cells

/-- The FAULT pin's code: released in slot 2k of the twenty 100 ms slots for each k below the cause
(R191). -/
def faultCodeReleased (cause count : Nat) : Bool :=
  let slot := count / Config.pulseUnits
  slot % 2 == 0 && decide (slot / 2 < cause)

/-- The FAULT pin is asserted (R185, R191). -/
def faultPin : Bool :=
  match s.startup.state with
  | .reset => true
  | .halted => !faultCodeReleased s.startup.haltCause s.startup.faultCount
  | .reading | .selftest | .listen | .joined => false

/-- The table holds an unacked record of a severity (TABLE 10-4). -/
def tableUnacked (v : Severity) : Bool :=
  s.table.records.any fun r => r.severity == v && r.state != .activeAck

/-- The table holds an ACTIVE_ACK record of a severity (TABLE 10-4). -/
def tableAcked (v : Severity) : Bool :=
  s.table.records.any fun r => r.severity == v && r.state == .activeAck

/-- A lamp: flashing while `flash`, steady while an ACTIVE_ACK record stands, off otherwise. -/
def lamp (v : Severity) (flash : Bool) : Bool :=
  if s.tableUnacked v || flash then s.table.flashPhase else s.tableAcked v

/-- The annunciator drives its outputs: at a CAB station from entry to JOINED (R181). -/
def annunciatorOn : Bool := s.role == .cab && s.joined

/-- The first-out copy while the episode shows it (TABLE 10-4). -/
def shownFirstOut : Option FirstOut := if s.table.episode = .closed then none else s.table.firstOut

/-- The eight discrete outputs, horn, trip, stop and warn lamps, three first-out lines and first-out
valid, from bit 0 up (TABLE 10-4; which output carries which is DESIGN CHOICE, log entry 7). -/
def discreteOutputs : Byte :=
  if s.annunciatorOn then
    let out (b : Bool) (k : Nat) : Nat := b.toNat * 2 ^ k
    let source : Nat := ((s.table.firstOut.map (·.source)).getD 0) % 8
    BitVec.ofNat 8 (out (s.table.records.any fun r => r.state != .activeAck) 0
      + out (s.lamp .trip (decide (0 < s.table.refusalFlash))) 1 + out (s.lamp .stop false) 2
      + out (s.lamp .warn false) 3 + source * 16 + out s.shownFirstOut.isSome 7)
  else 0

end State

end Sys2Proof.Machine
end

