-- ==== Sys2Proof/Machine/Ops.lean ====
section
/-! DEFINITION. The operations every block shares: placing bulletins in the transmit queue, re-arm, the
owned-hook watch, the station alarm list and the machine alarm table, the outcomes of bulletins that are
not delivered, entry to TRIPPED, and raising an alarm. Their order keeps the recursion out: a bulletin of
class 1 or 2 evicts only STATUS, REFERENCE, ALARM and REPLY entries, on whose eviction no owner acts, so
only a TRIP can reach `outcomeFailed`. -/

namespace Sys2Proof.Machine

/-! ### Transmit queue (R15, R16) -/

/-- Add 1 to one of the line counters. -/
def State.count (s : State) (g : LineCounters → LineCounters) : State :=
  s.onLine fun l => { l with counters := g l.counters }

/-- The refused counter (R16). -/
def State.countRefused (s : State) : State := s.count fun c => { c with refused := bump c.refused }

/-- The general entries of the queue (R15). -/
def generalEntries (q : List Entry) : List Entry := q.filter fun e => !e.reserved

/-- Stand in the queue: after every entry of an earlier instant and after the entries of this instant
whose rank is not greater (R15). -/
def standIn (e : Entry) : List Entry → List Entry
  | [] => [e]
  | x :: rest => if e.rank < x.rank then e :: x :: rest else x :: standIn e rest

/-- The greatest class above `c` among the WAITING general entries (R16). -/
def worstClass (c : Nat) (q : List Entry) : Option Nat :=
  q.foldl (fun acc e =>
    if !e.inFlight && !e.reserved && decide (c < e.kind.cls) then
      some (max e.kind.cls (acc.getD 0)) else acc) none

/-- The place of the newest-placed WAITING general entry of class `c` (R16). -/
def newestOf (c : Nat) (q : List Entry) : Option Nat :=
  ((List.range q.length).reverse).find? fun k =>
    match q[k]? with
    | some e => !e.inFlight && !e.reserved && e.kind.cls == c
    | none => false

/-- What the line unit rules on a placement (R16). -/
inductive Admission where
  | admitted
  | evicted (e : Entry)
  | refused
  deriving DecidableEq, Repr

/-- Steps 4 and 5 of R16. -/
def admitGeneral (e : Entry) (s : State) : State × Admission :=
  let q := s.line.queue
  if (generalEntries q).length < Config.queueSize then
    (s.onLine fun l => { l with queue := standIn e q }, .admitted)
  else
    match (worstClass e.kind.cls q).bind fun c => newestOf c q with
    | none => (s.countRefused, .refused)
    | some k =>
      let out := q.getD k e
      ((s.onLine fun l => { l with queue := standIn e (q.eraseIdx k) }).count
        fun c => { c with evicted := bump c.evicted }, .evicted out)

/-- Kinds of which a newer bulletin replaces a WAITING one (R16). -/
def isReplacing : Kind → Bool
  | .status | .reference | .pace => true
  | _ => false

/-- The counter of a replaced entry (R16). -/
def countReplaced (k : Kind) (s : State) : State :=
  match k with
  | .status => s.count fun c => { c with statusSuperseded := bump c.statusSuperseded }
  | .reference => s.count fun c => { c with expired := bump c.expired }
  | _ => s

/-- Step 3 of R16: a WAITING entry of the kind is removed and counted; an IN FLIGHT one is to be removed
at the end of its attempt, whether or not the newer bulletin is then admitted (log entry 33). The owners of
these kinds act on neither. -/
def replaceOlder (k : Kind) (s : State) : State :=
  let n := (s.line.queue.filter fun e => e.kind == k && !e.inFlight).length
  let s := s.onLine fun l =>
    { l with queue := (l.queue.filter fun e => !(e.kind == k && !e.inFlight)).map fun e =>
        if e.kind == k then { e with due := some .replaced } else e }
  if 0 < n then countReplaced k s else s

/-- Place a bulletin (R16). The rank is at least the kind code, so that bulletins of one instant stand in
order of kind code unless their owning rule gives an order (R15). -/
def enqueue (e : Entry) (s : State) : State × Admission :=
  let e : Entry := { e with rank := max e.rank e.kind.code }
  if s.line.state ≠ .active then (s.countRefused, .refused)
  else if e.kind = .trip ∧ ¬ s.line.queue.any (·.reserved) then
    (s.onLine fun l => { l with queue := standIn { e with reserved := true } l.queue }, .admitted)
  else if isReplacing e.kind then admitGeneral e (replaceOlder e.kind s)
  else admitGeneral e s

/-- Place a bulletin on whose admission the owner does not act and which evicts none that its owner acts
on (every kind but TRIP). -/
def place (e : Entry) (s : State) : State := (enqueue e s).1

/-- Whether a placement was admitted. -/
def Admission.isIn : Admission → Bool
  | .refused => false
  | _ => true

/-- Once a command's instant is over its bulletins stand where they stand, and the events of the command
before it are forgotten. -/
def begin (s : State) : State :=
  { s.onLine fun l => { l with queue := l.queue.map fun e => { e with rank := 0 } } with events := [] }

/-- The bulletins `p` picks of those placed so far at this instant stand before those placed from here on,
whatever their kinds, where a rule orders the two (R15); they are still of this instant. -/
def settleWhere (p : Entry → Bool) (s : State) : State :=
  s.onLine fun l => { l with queue := l.queue.map fun e => if p e then { e with rank := min e.rank 1 } else e }

/-- Every bulletin placed so far at this instant stands before those placed from here on (R28, R190). -/
def settle (s : State) : State := settleWhere (fun _ => true) s

/-- The entries of a kind in the queue. -/
def State.kindCount (s : State) (k : Kind) : Nat := (s.line.queue.filter fun e => e.kind == k).length

/-- The rank of a bulletin that its owning rule places after those of kind `k` it has placed between `s` and
`s'`: theirs where one was admitted, else that of its own kind (R15, log entry 48). -/
def rankAfter (k : Kind) (s s' : State) : Nat := if s.kindCount k < s'.kindCount k then k.code else 0

/-- The owner no longer acts on the outcome of the entries `p` picks (R101, R112, R131, R151). -/
def muteWhere (p : Entry → Bool) (s : State) : State :=
  s.onLine fun l => { l with queue := l.queue.map fun e => if p e then { e with muted := true } else e }

/-- The owner no longer acts on the outcome of its entries of a kind. -/
def muteEntries (k : Kind) (s : State) : State := muteWhere (fun e => e.kind == k) s

/-! ### The arbitration field and the loopback test (R5, R6, R13, R188) -/

/-- The 10 µs units of the start cell and the arbitration field, 11 cells, at a rate strap code, rounded up
(R1, TABLE 1-3). -/
def arbitrationUnits (rate : BitVec 2) : Nat := if rate = 0 then 9 else if rate = 1 then 5 else 3

/-- `n` 10 µs units of an arbitration field pass (log entry 32). -/
def elapse (n : Nat) (s : State) : State := s.onLine fun l => { l with arbitration := l.arbitration - n }

/-- The transceiver goes into internal loopback, and the PROBE's start cell is sent (R20, R188). -/
def enterLoopback (s : State) : State :=
  s.onLine fun l =>
    { l with loopback := true, txSeq := s.picture.seq, arbitration := arbitrationUnits s.startup.rate }

/-- The transceiver returns to the line in a line state; the PROBE is over (R20, R188). -/
def leaveLoopback (state : LineState) (s : State) : State :=
  s.onLine fun l => { l with state, loopback := false, arbitration := 0 }

/-! ### Re-arm and the owned hook -/

/-- Set re-arm: the current reference is 0 at once (R69). Stations of an axis role keep a ring. -/
def setRearm (s : State) : State :=
  if s.role.isAxis then s.onRing fun r => { r with rearm := true, current := 0 } else s

/-- Send a frame on the field converter link: it awaits an acknowledge (R88, R89). -/
def sendFrame (word : Int) (enable : Bool) (s : State) : State :=
  s.onDrive fun d => { d with frameWord := word, frameEnable := enable, awaiting := true }

/-- A stop frame: field word 0 and drive enable removed (R88, R93). Before the drive chain's first run no
frame has been sent, so none awaits an acknowledge (R89). -/
def stopFrame (s : State) : State :=
  s.onDrive fun d => { d with frameWord := 0, frameEnable := false, awaiting := d.ran }

/-- Watch the owned hook: when it goes false, drive enable, output, field word and ramp state go at once
and a stop frame is sent (R88). -/
def watchOwned (s : State) : State :=
  let hook := s.ownedHook
  let s' :=
    if s.joined && s.role.isAxis && s.drive.ownedSeen && !hook then
      stopFrame (s.onDrive fun d => { d with f := 0, fieldWord := 0, enable := false })
    else s
  s'.onDrive fun d => { d with ownedSeen := s.joined && hook }

/-- The drag enters RECLAIMING, which sets re-arm (R69, R132). -/
def enterReclaiming (s : State) : State :=
  watchOwned (setRearm (s.onRope fun r => { r with ownership := .reclaiming }))

/-- Every change of walk state sets the state count to 0 (R149); an ask left behind is no longer acted
on (R151). -/
def setWalkState (w : WalkState) (s : State) : State :=
  let s := if s.walk.state = .asking then muteEntries .xferAsk s else s
  watchOwned (s.onWalk fun k => { k with state := w, stateCount := 0 })

/-- The coil command, and the coil output of a WALK station (R145). -/
def setCoil (on : Bool) (s : State) : State :=
  s.onWalk fun k => { k with coil := on, coilOut := on && s.role == .walk && s.joined }

/-! ### Machine alarm table (R178 to R180) -/

/-- The table's order: raised time, then source, then entry (R177). -/
def tableBefore (a b : TableRecord) : Bool :=
  a.raised.lt b.raised || (a.raised == b.raised && decide (a.source < b.source))

/-- Place a record after every record it does not stand before. -/
def tableInsert (r : TableRecord) : List TableRecord → List TableRecord
  | [] => [r]
  | x :: rest => if tableBefore r x then r :: x :: rest else x :: tableInsert r rest

/-- The key of a record (R177). -/
def sameKey (source : Nat) (code : AlarmCode) (detail : Option Nat) (r : TableRecord) : Bool :=
  r.source == source && r.code == code && r.detail == detail

/-- The first-out while FLOATING: the earliest TRIP record raised at or after the restart time (R180). -/
def evaluateFirstOut (t : MachineTable) : Option FirstOut :=
  (t.records.find? fun r => r.severity == .trip && t.restartTime.le r.raised).map fun r =>
    ⟨r.source, r.code, r.detail, r.raised⟩

/-- Re-evaluate a floating first-out (R180). -/
def refreshFirstOut (t : MachineTable) : MachineTable :=
  if t.episode = .floating then { t with firstOut := evaluateFirstOut t } else t

/-- Make room in a full table, or lose the record (R178): the records left, or none. -/
def tableRoom (records : List TableRecord) : Option (List TableRecord) :=
  if records.length < Config.tableSize then some records
  else
    match records.findIdx? fun r => r.severity == .warn && r.state == .clearedUnack with
    | some k => some (records.eraseIdx k)
    | none => (records.findIdx? fun r => r.severity == .warn).map records.eraseIdx

/-- Form a record, making room for it; a refresh makes no room and is not counted (R178). -/
def tableForm (r : TableRecord) (refresh : Bool) (t : MachineTable) : MachineTable :=
  if refresh && decide (Config.tableSize ≤ t.records.length) then t
  else
    match tableRoom t.records with
    | some records => { t with records := tableInsert r records }
    | none => { t with lost := bump t.lost }

/-- The records other than those of a key. -/
def tableOthers (source : Nat) (code : AlarmCode) (detail : Option Nat) (l : List TableRecord) :
    List TableRecord := l.filter fun x => !sameKey source code detail x

/-- Update the present record of a key: at its place where its raised time is unchanged (R177), else at its
place by the new one (R178, log entry 22). -/
def tableUpdate (r : TableRecord) (l : List TableRecord) : List TableRecord :=
  if l.any fun x => sameKey r.source r.code r.detail x && x.raised == r.raised then
    l.map fun x => if sameKey r.source r.code r.detail x then r else x
  else tableInsert r (tableOthers r.source r.code r.detail l)

/-- Merge an ALARM's contents into the table (R178). -/
def mergeTable (m : Merge) (t : MachineTable) : MachineTable :=
  refreshFirstOut <|
    match m.state with
    | none => { t with records := tableOthers m.source m.code m.detail t.records }
    | some st =>
      let r : TableRecord :=
        { source := m.source, code := m.code, detail := m.detail, severity := m.code.severity,
          state := st, raised := m.raised, age := 0 }
      if t.records.any (sameKey m.source m.code m.detail) then
        { t with records := tableUpdate r t.records }
      else tableForm r m.refresh t

/-- Merge a TRIP bulletin's contents into the table (R178). -/
def mergeTrip (source : Nat) (code : AlarmCode) (detail : Option Nat) (raised : Stamp)
    (t : MachineTable) : MachineTable :=
  if t.records.any (sameKey source code detail) then refreshFirstOut t
  else
    refreshFirstOut (tableForm
      { source, code, detail, severity := .trip, state := .activeUnack, raised, age := 0 } false t)

/-! ### Station alarm list (R165 to R171) -/

/-- Report a change of the list: one ALARM bulletin, and at the CAB station the merge (R170). -/
def reportAlarm (r : AlarmRecord) (removed refresh : Bool) (s : State) : State :=
  let s := place { kind := .alarm, target := Config.broadcast, words := alarmWords r removed refresh } s
  if s.role = .cab then
    s.onTable (mergeTable
      { source := s.station, code := r.code, detail := r.detail,
        state := if removed then none else some r.state, raised := r.raised, refresh })
  else s

/-- Place a record by its raised time, after those of an equal or earlier one (R165). -/
def alarmInsert (r : AlarmRecord) : List AlarmRecord → List AlarmRecord
  | [] => [r]
  | x :: rest => if r.raised.lt x.raised then r :: x :: rest else x :: alarmInsert r rest

/-- A record is identified by its code and detail (TABLE 10-1). -/
def isRecord (code : AlarmCode) (detail : Option Nat) (r : AlarmRecord) : Bool :=
  r.code == code && r.detail == detail

/-- Set the list; the overflow flag clears when the number of records falls to 19 or fewer (R167). -/
def setAlarmList (l : List AlarmRecord) (s : State) : State :=
  s.onAlarms fun a =>
    { a with list := l,
             overflow := a.overflow && !(decide (l.length ≤ Config.overflowClear)
               && decide (l.length < a.list.length)) }

/-- What a raise came to (R166, R167); `ignored` before entry to JOINED and after HALTED (R165). -/
inductive Occurrence where
  | ignored | fresh | again | lost
  deriving DecidableEq, Repr

/-- Which record gives way to a new one in a full list (R167). -/
def alarmVictim (sev : Severity) (l : List AlarmRecord) : Option Nat :=
  match l.findIdx? fun r => r.state == .clearedUnack with
  | some k => some k
  | none => if sev = .warn then none else l.findIdx? fun r => r.code.severity == .warn

/-- Enter a new record, evicting one from a full list or losing the raise (R166, R167); the ALARM of the eviction
is placed first (log entry 50). -/
def enterRecord (r : AlarmRecord) (s : State) : State × Occurrence :=
  let l := s.alarms.list
  if l.length < Config.alarmListSize then
    (reportAlarm r false false (setAlarmList (alarmInsert r l) s), .fresh)
  else
    match alarmVictim r.code.severity l with
    | none => (s.onAlarms fun a => { a with lost := bump a.lost, overflow := true }, .lost)
    | some k =>
      let s := reportAlarm (l.getD k r) true false (setAlarmList (l.eraseIdx k) s)
      (reportAlarm r false false (setAlarmList (alarmInsert r (l.eraseIdx k)) s), .fresh)

/-- A raise on the list, without what a TRIP severity brings (R166). -/
def raiseRecord (code : AlarmCode) (detail : Option Nat) (s : State) : State × Occurrence :=
  if !s.joined then (s, .ignored)
  else
    let l := s.alarms.list
    match l.find? (isRecord code detail) with
    | none => enterRecord { code, detail, raised := s.now, state := .activeUnack, repeats := 0 } s
    | some r =>
      let r' : AlarmRecord := { r with repeats := bump8 r.repeats }
      if r.state = .clearedUnack then
        let r' : AlarmRecord := { r' with state := .activeUnack, raised := s.now }
        (reportAlarm r' false false
          (setAlarmList (alarmInsert r' (l.filter fun x => !isRecord code detail x)) s), .fresh)
      else
        (reportAlarm r' false false
          (setAlarmList (l.map fun x => if isRecord code detail x then r' else x) s), .again)

/-- A raise of a code of severity WARN or STOP (R166). -/
def raiseQuiet (code : AlarmCode) (detail : Option Nat) (s : State) : State :=
  (raiseRecord code detail s).1

/-- A clear (R168). The clear that ends the STOP inhibit sets re-arm (R174). -/
def clearAlarm (code : AlarmCode) (detail : Option Nat) (s : State) : State :=
  if !s.joined then s
  else
    let l := s.alarms.list
    match l.find? (isRecord code detail) with
    | none => s
    | some r =>
      let s' := match r.state with
        | .clearedUnack => s
        | .activeAck =>
          reportAlarm r true false (setAlarmList (l.filter fun x => !isRecord code detail x) s)
        | .activeUnack =>
          let r' : AlarmRecord := { r with state := .clearedUnack }
          reportAlarm r' false false
            (setAlarmList (l.map fun x => if isRecord code detail x then r' else x) s)
      if s.stopInhibit && !s'.stopInhibit then setRearm s' else s'

/-- A raise of a WARN code and its clear at the same moment (R168). -/
def raiseAndClear (code : AlarmCode) (detail : Option Nat) (s : State) : State :=
  clearAlarm code detail (raiseQuiet code detail s)

/-- Apply an ALARM-ACK's press time to one record of the list (R169). -/
def ackRecord (t : Stamp) (s : State) (r : AlarmRecord) : State :=
  if r.raised.le t then
    match r.state with
    | .activeAck => s
    | .activeUnack =>
      let r' : AlarmRecord := { r with state := .activeAck }
      reportAlarm r' false false (setAlarmList
        (s.alarms.list.map fun x => if isRecord r.code r.detail x then r' else x) s)
    | .clearedUnack =>
      reportAlarm r true false (setAlarmList
        (s.alarms.list.filter fun x => !isRecord r.code r.detail x) s)
  else s

/-- Apply an ALARM-ACK to the station alarm list, in list order (R169, R170). -/
def ackList (t : Stamp) (s : State) : State :=
  if s.joined then s.alarms.list.foldl (ackRecord t) s else s

/-! ### Outcomes of bulletins that are not delivered (TABLE 1-7) -/

/-- SHARE LOAN DROPPED: raised and cleared at once (R108). -/
def loanDropped (lender : Nat) (s : State) : State :=
  raiseAndClear .shareLoanDropped (some lender) s

/-- The borrowed record whose return in flight is this one. -/
def isReturnOf (peer : Nat) (ret : Nat × Word) (r : BorrowedRecord) : Bool :=
  r.peer == peer && r.inFlight == some ret

/-- Back to HOLDING with the shed and the return in flight cleared (R108). -/
def BorrowedRecord.settle (r : BorrowedRecord) : BorrowedRecord :=
  { r with state := .holding, shed := 0, shedWait := 0, inFlight := none }

/-- A SHARE-RETURN not delivered, at the borrower (R105, R108). -/
def returnFailed (peer : Nat) (ret : Nat × Word) (muted : Bool) (s : State) : State :=
  let s := match s.share.borrowedRecords.find? (isReturnOf peer ret) with
    | none => s
    | some r =>
      if r.grantNumber = ret.2 then
        s.onShare fun h =>
          { h with borrowed := h.borrowed - r.count,
                   borrowedRecords := h.borrowedRecords.filter fun x => !isReturnOf peer ret x }
      else
        s.onShare fun h =>
          { h with borrowedRecords := h.borrowedRecords.map fun x =>
              if isReturnOf peer ret x then x.settle else x }
  if muted then s else loanDropped peer s

/-- TRANSFER REFUSED is raised and cleared at once, and the walk returns to PARKED (R151). -/
def transferRefused (reason : Nat) (s : State) : State :=
  setWalkState .parked (raiseAndClear .transferRefused (some reason) s)

/-- What the owner does when its bulletin ends other than delivered: SHARE-ASK (R101), SHARE-GRANT (R103),
SHARE-RETURN (R108), XFER-ASK (R151), XFER-YIELD (R130). No other owner acts. -/
def outcomeFailed (e : Entry) (s : State) : State :=
  match e.kind with
  | .shareAsk => if e.muted then s else s.onShare fun h => { h with ask := none }
  | .shareGrant => s.onShare fun h => { h with promised := h.promised - countOf e.words }
  | .shareReturn => returnFailed e.target.toNat (countOf e.words, grantOf e.words) e.muted s
  | .xferAsk => if s.walk.state = .asking ∧ !e.muted then transferRefused detailNoAnswer s else s
  | .xferYield =>
    if s.rope.ownership = .yielding ∧ s.rope.yieldSent ∧ !e.muted then enterReclaiming s else s
  | _ => s

/-! ### Entry to TRIPPED and raises (R93, R163, R173, R180) -/

/-- The walk station enters FAULTED: coil off, XFER-ABORT with the detail as its cause, TRANSFER FAILED
(R155). -/
def enterFaulted (detail : Nat) (s : State) : State :=
  let s := setWalkState .faulted (setCoil false s)
  let s := place { kind := .xferAbort, target := Config.broadcast, words := reasonWords detail } s
  raiseQuiet .transferFailed (some detail) s

/-- The drive chain at entry to TRIPPED (R93); the demand measured stands until the next cycle start measures it
anew (R76, R111, log entry 52). -/
def driveTripped (s : State) : State :=
  if s.role.isAxis then
    stopFrame (s.onDrive fun d =>
      { d with f := 0, fieldWord := 0, enable := false, brake := .set, delay := 0 })
  else s

/-- The walk axis function at entry to TRIPPED (R163). -/
def walkTripped (s : State) : State :=
  if s.role = .walk then
    match s.walk.state with
    | .asking | .transferring => enterFaulted 3 s
    | .stepping | .settling =>
      clearAlarm .stepOvertime none
        (setWalkState .ready (s.onWalk fun k => { k with stepCount := 0 }))
    | .parked | .ready | .returning | .faulted => s
  else s

/-- The cab's trip episode at entry to TRIPPED from RUN (R180). -/
def openEpisode (wasRun : Bool) (s : State) : State :=
  if s.role = .cab ∧ wasRun then
    s.onTable fun t => refreshFirstOut { t with episode := .floating }
  else s

/-- The station enters TRIPPED, from either mode (R173). -/
def enterTripped (s : State) : State :=
  let wasRun := s.alarms.mode == .run
  openEpisode wasRun (walkTripped (driveTripped (s.onAlarms fun a => { a with mode := .tripped })))

/-- Place a TRIP bulletin; one it evicts is reported to its owner (R16, R173). -/
def placeTrip (code : AlarmCode) (detail : Option Nat) (t : Stamp) (s : State) : State :=
  match enqueue { kind := .trip, target := Config.broadcast, words := tripWords code detail t } s with
  | (s', .evicted e) => outcomeFailed e s'
  | (s', _) => s'

/-- Raise an alarm (R166); a TRIP severity enters TRIPPED, and a new occurrence or a lost raise of it
sends a TRIP bulletin (R173). Its ALARM is placed first, then what the entry to TRIPPED places, then the TRIP
(log entry 50). -/
def raise (code : AlarmCode) (detail : Option Nat) (s : State) : State :=
  let t := s.now
  match raiseRecord code detail s with
  | (s', occ) =>
    if code.severity = .trip ∧ occ ≠ .ignored then
      let s' := enterTripped s'
      if occ = .again then s' else placeTrip code detail t s'
    else s'

/-- A raise and its clear at the same moment (R119, R120, R176). -/
def raiseThenClear (code : AlarmCode) (detail : Option Nat) (s : State) : State :=
  clearAlarm code detail (raise code detail s)

/-! ### Sampled inputs -/

/-- The cab's emergency input at a 10 µs sample (R184). -/
def emergencySample (s : State) : State :=
  if s.role = .cab ∧ s.joined then
    let active := s.inputActive s.params.cab.emergencyInput
    let prev := s.cab.emergency
    let s := s.onCab fun c => { c with emergency := some active }
    if active ∧ prev ≠ some true then raise .operatorStop none s
    else if !active ∧ prev = some true then clearAlarm .operatorStop none s
    else s
  else s

end Sys2Proof.Machine
end

