-- ==== Sys2Proof/Machine/Cab.lean ====
section
/-! DEFINITION. The cab function (section 4.1), the operator's presses at the cab's alarm unit (section
10.3.3), and the annunciator's counts (R181). -/

namespace Sys2Proof.Machine

/-- A channel reading in range (R57). -/
def handleInRange (x : Nat) : Bool := decide (100 ≤ x ∧ x ≤ 3995)

/-- Scale a reading in range (R56). -/
def scaleHandle (p : HandleParams) (x : Nat) : Int :=
  let d : Int := (x : Int) - p.centre
  if d.natAbs ≤ p.deadband then 0 else clampInt (-1000) 1000 (scaleTrunc (d * 1000) p.span)

/-- The reference of a channel: 0 in fault (R57). -/
def handleReference (p : HandleParams) (x : Nat) : Int :=
  if handleInRange x then scaleHandle p x else 0

/-- The button states of TABLE 4-3. -/
def Button.step (b : Button) (pressed : Bool) : Button :=
  match b, pressed with
  | .up, true => .edge
  | .edge, true => .down
  | .down, true => .down
  | _, false => .up

/-- A press is recognised when a button goes from EDGE to DOWN (R58). -/
def Button.recognised (b : Button) (pressed : Bool) : Bool := b == .edge && pressed

/-- The reading of handle channel `k`. -/
def Inputs.channel (i : Inputs) (k : Nat) : Nat :=
  match k with
  | 0 => i.ch0.toNat
  | 1 => i.ch1.toNat
  | 2 => i.ch2.toNat
  | _ => i.ch3.toNat

/-- Judge handle channel `k` (R57). -/
def judgeHandle (s : State) (k : Nat) : State :=
  let fault := !handleInRange (Inputs.channel s.inputs k)
  let was := s.cab.handleFault.getD k false
  let s := s.onCab fun c => { c with handleFault := c.handleFault.set k fault }
  if fault && !was then raiseQuiet .handleFault (some k) s
  else if !fault && was then clearAlarm .handleFault (some k) s
  else s

/-- The WALK MODE switch at a sample (R59). -/
def sampleWalkMode (set : Bool) (c : Cab) : Cab :=
  { c with walkMode := if set && c.walkSample then true
             else if !set && !c.walkSample then false else c.walkMode,
           walkSample := set }

/-- An ACK press at the cab's alarm unit (R182). -/
def ackPress (t : Stamp) (s : State) : State :=
  place { kind := .alarmAck, target := Config.broadcast, words := t.words } s

/-- A peer that is HEARD and not stale carries the fresh flag; the cab's own record is none of them, its own flag
being judged by itself (R183; DEDUCED, log entry 55). -/
def peerFresh (s : State) : Bool :=
  (List.range 8).any fun n => n != s.station && s.isFresh (s.peer n) && (s.peer n).status.fresh

/-- A RESTART press at the cab's alarm unit (R183). -/
def restartPress (s : State) : State :=
  if (s.table.records.any fun r => r.severity == .trip) || peerFresh s || s.share.fresh then
    s.onTable fun t => { t with refusalFlash := Config.refusalFlash }
  else place { kind := .restart, target := Config.broadcast, words := [] } s

/-- The two buttons at a sample, each recognised press handed to the alarm unit with its stamp (R58). -/
def sampleButtons (s : State) : State :=
  let ack := s.inputActive s.params.cab.ackInput
  let restart := s.inputActive s.params.cab.restartInput
  let ackHit := s.cab.ackButton.recognised ack
  let restartHit := s.cab.restartButton.recognised restart
  let s := s.onCab fun c =>
    { c with ackButton := c.ackButton.step ack, restartButton := c.restartButton.step restart }
  let s := if restartHit then restartPress s else s
  if ackHit then ackPress ⟨s.time.cycle, 0⟩ s else s

/-- The contents of the cycle's REFERENCE (TABLE 4-4, R60). -/
def referenceFields (s : State) : ReferenceFields :=
  let p (k : Nat) : HandleParams := s.params.cab.handles.getD k {}
  let x (k : Nat) : Nat := Inputs.channel s.inputs k
  { tag := s.time.cycle.setWidth 16 + BitVec.ofNat 16 s.params.cab.lead,
    hoist := handleReference (p 0) (x 0), drag := handleReference (p 1) (x 1),
    swing := handleReference (p 2) (x 2), walk := handleReference (p 3) (x 3),
    validHoist := handleInRange (x 0), validDrag := handleInRange (x 1),
    validSwing := handleInRange (x 2), validWalk := handleInRange (x 3),
    walkMode := s.cab.walkMode }

/-- Compose and place the cycle's REFERENCE (R60). -/
def placeReference (rank : Nat) (s : State) : State :=
  let r := referenceFields s
  place { kind := .reference, target := Config.broadcast, words := r.words, tag := some r.tag, rank } s

/-- The cab function at a cycle start (R55): the handles, the switch, the buttons and the REFERENCE, in this
order (log entry 36). The REFERENCE stands after the ALARM bulletins of the judged handles (R15, R55, log
entry 48). -/
def cabCycle (s : State) : State :=
  if s.role = .cab ∧ s.joined then
    let judged := (List.range 4).foldl judgeHandle s
    placeReference (rankAfter .alarm s judged)
      (sampleButtons (judged.onCab (sampleWalkMode (s.inputActive s.params.cab.walkModeInput))))
  else s

/-- The annunciator's counts at a cycle start of the cab, in LISTEN too (R27, R181). -/
def annunciatorCycle (s : State) : State :=
  if s.role = .cab then
    let turn := decide (Config.flashHalf ≤ s.table.flashCount + 1)
    let last := s.table.refusalFlash == 1
    let s := s.onTable fun t =>
      { t with flashPhase := if turn then !t.flashPhase else t.flashPhase,
               flashCount := if turn then 0 else t.flashCount + 1,
               refusalFlash := t.refusalFlash - 1 }
    let s := if turn then s.note .flashPhaseInvert else s
    if last then s.note .refusalFlashEnd else s
  else s

end Sys2Proof.Machine
end

