-- ==== Sys2Proof/Machine/Drive.lean ====
section
/-! DEFINITION. The drive chain's own parts (chapter 5): measurement, checks, the stages as functions of
values, the brake logic and the outputs. -/

namespace Sys2Proof.Machine

/-! ### Measurement (R73 to R76) -/

/-- A channel reading scaled into per mille by a span (R74). -/
def scaleChannel (x : BitVec 12) (span : Nat) : Int := scaleTrunc (((x.toNat : Int) - 2048) * 1000) span

/-- Measured armature voltage (R74). -/
def measuredVoltage (x : BitVec 12) (span : Nat) : Int := clampInt (-1500) 1500 (scaleChannel x span)

/-- Measured armature current (R74). -/
def measuredCurrent (x : BitVec 12) (span : Nat) : Int := clampInt (-2500) 2500 (scaleChannel x span)

/-- Roles whose speed reverses the sign of the count change (R75). -/
def Role.isRope (r : Role) : Bool := r == .hoist || r == .drag

/-- Measured speed from the count change (R75). -/
def measuredSpeed (role : Role) (delta : Int) (countsPerCycle : Nat) : Int :=
  let d := if role.isRope then -delta else delta
  clampInt (-1999) 1999 (scaleTrunc (d * 1000) countsPerCycle)

/-- Demand in kW, 0 unless motoring (R76). -/
def demandOf (v i : Int) (rated : Nat) : Nat :=
  if 0 < v * i then v.natAbs * i.natAbs * rated / 1000000 else 0

/-- The measurement of a cycle start (R73 to R76). -/
def measure (s : State) : State :=
  let p := s.params.drive
  s.onDrive fun d =>
    let delta := match d.prevEncoder with
      | none => 0
      | some e => signedDiff s.encoder e
    let v := measuredVoltage s.inputs.ch0 p.voltageSpan
    let i := measuredCurrent s.inputs.ch1 p.currentSpan
    { d with v, i, delta, prevEncoder := some s.encoder,
             speed := measuredSpeed s.role delta p.countsPerCycle,
             demand := demandOf v i p.ratedPower,
             brakeInput := s.inputActive s.params.brakeInput }

/-! ### Checks (R77, R89, R91, R92) -/

/-- Overcurrent (R77). -/
def checkCurrent (s : State) : State :=
  let tooHigh := decide ((s.params.drive.tripCurrent : Int) ≤ s.drive.i.natAbs)
  let was := s.drive.overcurrent
  let s := s.onDrive fun d => { d with overcurrent := tooHigh }
  if tooHigh && !was then raise .overcurrent none s
  else if !tooHigh && was then clearAlarm .overcurrent none s
  else s

/-- The field converter link: the check is not made at the first run (R89). A stop frame sent earlier at this
same cycle start is the most recent frame (log entry 39). -/
def checkLink (s : State) : State :=
  if !s.drive.ran then s
  else if s.drive.awaiting then
    let n := bump8 s.drive.missing
    let was := s.drive.missing
    let s := s.onDrive fun d => { d with missing := n }
    if was < Config.linkLimit ∧ n = Config.linkLimit then
      (raise .fieldLinkLost none s).note .fieldLinkLost
    else s
  else clearAlarm .fieldLinkLost none (s.onDrive fun d => { d with missing := 0 })

/-- The brake-set input disagrees with the command (R91). -/
def brakeDisagrees (d : Drive) : Bool := (d.brake == .set) != d.brakeInput

/-- The brake feedback check, on the command as the cycle start finds it (R78, R91, log entry 38). -/
def checkBrake (s : State) : State :=
  if brakeDisagrees s.drive then
    let n := bump8 s.drive.disagree
    let was := s.drive.disagree
    let s := s.onDrive fun d => { d with disagree := n }
    if was ≤ s.params.drive.brakeCheck ∧ s.params.drive.brakeCheck < n then
      (raise .brakeFeedback none s).note .brakeFeedback
    else s
  else clearAlarm .brakeFeedback none (s.onDrive fun d => { d with disagree := 0 })

/-- Slip is present (R92). -/
def slips (d : Drive) : Bool :=
  d.brake == .set && d.brakeInput && decide (Config.slipSpeed < d.speed.natAbs)

/-- The slip check (R92). -/
def checkSlip (s : State) : State :=
  if slips s.drive then
    let n := bump8 s.drive.slip
    let s := s.onDrive fun d => { d with slip := n }
    if n = Config.slipLimit then (raise .brakeSlip none s).note .brakeSlip else s
  else clearAlarm .brakeSlip none (s.onDrive fun d => { d with slip := 0 })

/-- The checks of a cycle start, in the order of R78. -/
def driveChecks (s : State) : State := checkSlip (checkBrake (checkLink (checkCurrent s)))

/-! ### Bounds and the stages (R79 to R88) -/

/-- A pair of target bounds and a pair of hard bounds (TABLE 5-3). -/
structure Bounds where
  targetLo : Int := -1000
  targetHi : Int := 1000
  hardLo : Int := -1000
  hardHi : Int := 1000
  deriving DecidableEq, Repr

/-- Several limits in force at once: the greatest lower bound and the least upper bound (R81). -/
def Bounds.meet (a b : Bounds) : Bounds :=
  { targetLo := max a.targetLo b.targetLo, targetHi := min a.targetHi b.targetHi,
    hardLo := max a.hardLo b.hardLo, hardHi := min a.hardHi b.hardHi }

/-- Target bounds of plus and minus a creep (R81). -/
def creepTarget (creep : Nat) : Bounds := { targetLo := -(creep : Int), targetHi := creep }

/-- Target and hard bounds of plus and minus a creep (TABLE 8-2). -/
def creepBoth (creep : Nat) : Bounds :=
  { targetLo := -(creep : Int), targetHi := creep, hardLo := -(creep : Int), hardHi := creep }

/-- What the axis function supplies for a cycle start (TABLE 5-3). -/
structure Hooks where
  permissive : Bool := true
  bounds : Bounds := {}
  deriving DecidableEq, Repr

/-- Stage 1 (R79). -/
def stageReference (r : Int) : Int := clampInt (-1000) 1000 r

/-- Stage 2, the post-inhibit target (R80). -/
def stageInhibits (permissive : Bool) (s : State) (target : Int) : Int :=
  if s.alarms.mode ≠ .run ∨ s.stopInhibit ∨ !permissive ∨ !s.ownedHook then 0 else target

/-- Stage 3 (R81). -/
def stageBounds (b : Bounds) (target : Int) : Int := clampInt b.targetLo b.targetHi target

/-- The distance to the limit that a value of this sign moves toward (R82, R84). -/
def limitDistance (p : RopeParams) (position : Nat) (x : Int) : Int :=
  if 0 < x then (position : Int) - p.limitIn else (p.limitOut : Int) - position

/-- The magnitude the zone allows at a distance (R82). -/
def zoneAllowed (p : RopeParams) (creep : Nat) (d : Int) : Int :=
  if d ≤ p.stopMargin then 0
  else min 1000 (max (creep : Int) (scaleTrunc (1000 * (d - p.stopMargin)) p.zoneWidth))

/-- Replace a magnitude above `top` by `top`, with the sign of `x`. -/
def capMagnitude (x top : Int) : Int :=
  if top < (x.natAbs : Int) then (if 0 < x then top else -top) else x

/-- Stage 4, the zone, at a calibrated rope (R82). -/
def stageZone (p : RopeParams) (creep position : Nat) (target : Int) : Int :=
  if target = 0 then 0
  else capMagnitude target (zoneAllowed p creep (limitDistance p position target))

/-- Stage 5, the ramp, from the ramp state `s` toward the target `t` (R83). -/
def stageRamp (accel decel : Nat) (s t : Int) : Int :=
  if s = 0 then capMagnitude t accel
  else if 0 < s * t then
    if s.natAbs < t.natAbs then
      s + s.sign * min ((t.natAbs : Int) - s.natAbs) accel
    else s - s.sign * min ((s.natAbs : Int) - t.natAbs) decel
  else s - s.sign * min (s.natAbs : Int) decel

/-- The hard bounds after the ramp (R84). -/
def stageHard (b : Bounds) (u : Int) : Int := clampInt b.hardLo b.hardHi u

/-- The zone stop, at a calibrated rope (R84). -/
def zoneStop (p : RopeParams) (position : Nat) (u : Int) : Int :=
  if u ≠ 0 ∧ limitDistance p position u ≤ p.stopMargin then 0 else u

/-- Multiply by a factor in thousandths, on the magnitude (R85, R86). -/
def applyFactor (x : Int) (factor : Nat) : Int := scaleTrunc (x * factor) 1000

/-- The ceiling factor (R85). -/
def ceilingFactor (pool held demand : Nat) : Nat :=
  if held = 0 then 0
  else if demand = 0 then 1000
  else min 1000 (1000 * held * pool / (64 * demand))

/-- The stall stage applies to a value (R86). -/
def stallApplies (x i : Int) : Bool := decide (0 < x * i)

/-- The stall factor (R86). -/
def stallFactor (knee limit : Nat) (i : Int) : Nat :=
  if i.natAbs ≤ knee then 1000
  else if i.natAbs < limit then 1000 * (limit - i.natAbs) / (limit - knee)
  else 0

/-- Stage 7 (R86). -/
def stageStall (knee limit : Nat) (i x : Int) : Int :=
  if stallApplies x i then applyFactor x (stallFactor knee limit i) else x

/-- The stall count and STALL HELD (R87). -/
def countStall (held : Bool) (s : State) : State :=
  let was := s.drive.stall
  let n := if held then bump8 was else 0
  let s := s.onDrive fun d => { d with stall := n }
  if was < Config.stallLimit ∧ n = Config.stallLimit then
    (raise .stallHeld none s).note .stallHeld
  else if n = 0 ∧ Config.stallLimit ≤ was then clearAlarm .stallHeld none s
  else s

/-- The field word of a final output (R88). -/
def fieldWordOf (f : Int) : Int := scaleTrunc (f * 2047) 1000

/-- The value leaving stage 5's clamps for the axis roles: hard bounds, then the zone stop (R84). -/
def afterRamp (s : State) (b : Bounds) (u : Int) : Int :=
  let u := stageHard b u
  if s.role.isRope && s.rope.calibrated then zoneStop s.params.rope s.rope.position u else u

/-- The value leaving stage 4 (R82). -/
def afterZone (s : State) (target : Int) : Int :=
  if s.role.isRope && s.rope.calibrated then
    stageZone s.params.rope s.params.drive.creep s.rope.position target
  else target

/-- The value entering stage 7 (R79 to R85), given the post-inhibit target. -/
def beforeStall (s : State) (b : Bounds) (post : Int) : Int :=
  let p := s.params.drive
  let u := stageRamp p.accel p.decel s.drive.f (afterZone s (stageBounds b post))
  applyFactor (afterRamp s b u) (ceilingFactor s.globals.pool s.held s.drive.demand)

/-- The final output of stage 8; 0 while the station is TRIPPED (R88, R93). -/
def finalOutput (s : State) (b : Bounds) (post : Int) : Int :=
  if s.alarms.mode = .run then
    stageStall s.params.drive.stallKnee s.params.drive.stallLimit s.drive.i (beforeStall s b post)
  else 0

/-- The stall stage applies with a factor of 0 at this cycle start (R87). -/
def stalled (s : State) (b : Bounds) (post : Int) : Bool :=
  s.alarms.mode == .run && stallApplies (beforeStall s b post) s.drive.i
    && stallFactor s.params.drive.stallKnee s.params.drive.stallLimit s.drive.i == 0

/-- The brake logic on a target (R90); in TRIPPED the command is SET (R93). -/
def brakeLogic (target : Int) (s : State) : State :=
  let still := decide ((s.drive.speed.natAbs : Int) ≤ Config.stillSpeed)
  if s.alarms.mode ≠ .run then s.onDrive fun d => { d with brake := .set, delay := 0 }
  else match s.drive.brake with
    | .set =>
      if target ≠ 0 then s.onDrive fun d => { d with brake := .released, delay := 0 }
      else s
    | .released =>
      if target ≠ 0 ∨ !still then s.onDrive fun d => { d with delay := 0 }
      else
        let n := s.drive.delay + 1
        if s.params.drive.brakeDelay ≤ n then
          (s.onDrive fun d => { d with brake := .set, delay := n }).note .brakeSet
        else s.onDrive fun d => { d with delay := n }

/-- Drive enable and the cycle's frame (R88). -/
def driveOutputs (s : State) : State :=
  let on := s.alarms.mode == .run && s.ownedHook && (s.drive.f != 0 || s.brakeRelease)
  sendFrame s.drive.fieldWord on (s.onDrive fun d => { d with enable := on })

/-- The drive chain at entry to HALTED (R94). -/
def driveHalted (s : State) : State :=
  s.onDrive fun d => { d with f := 0, fieldWord := 0, enable := false, brake := .set }

end Sys2Proof.Machine
end

