-- ==== Sys2Proof/Machine/Picture.lean ====
section
/-! DEFINITION. The machine picture: ageing (R44), taking a STATUS (R39 to R43), composing the station's own
(R46 to R48). The share unit's act on a fresh flag (R112) stands here, since it is the last step of taking
a STATUS. -/

namespace Sys2Proof.Machine

/-- Change one peer record. -/
def setPeer (n : Nat) (g : PeerRecord → PeerRecord) (s : State) : State :=
  s.onPicture fun p => { p with peers := p.peers.set n (g (s.peer n)) }

/-- Age one record by a cycle start (R44). -/
def ageRecord (p : PeerRecord) : PeerRecord := if p.heard then { p with age := bump8 p.age } else p

/-- The peer records, not the own one, that go from fresh to stale at this ageing (R44). -/
def goingStale (s : State) : List Nat :=
  (List.range 8).filter fun n =>
    n != s.station && s.isFresh (s.peer n) && s.isStale (ageRecord (s.peer n))

/-- Ageing at a cycle start: every HEARD record ages, and PEER SILENT is raised for a peer's record that
goes stale (R44), in rising station number (log entry 34). -/
def pictureCycle (s : State) : State :=
  let stale := goingStale s
  let s := s.onPicture fun p => { p with peers := p.peers.map ageRecord }
  let s := stale.foldl (fun s n => raiseQuiet .peerSilent (some n) s) s
  if stale.isEmpty then s else s.note .peerSilent

/-- The missed STATUS bulletins of R40. -/
def missedStatus (p : PeerRecord) (seq : Byte) (fresh : Bool) : Nat :=
  if !p.heard || (fresh && seq == 1#8) then 0
  else
    let n := (seq - p.lastSeq - 1#8).toNat
    if n = 255 then 0 else n

/-- Compare the signature carried with the station's own (R41). -/
def compareSignature (n : Nat) (carried : Word) (s : State) : State :=
  let differs := carried != s.startup.signature
  let flagged := (s.peer n).foreign
  if differs && !flagged then
    raiseQuiet .configMismatch (some n) (setPeer n (fun p => { p with foreign := true }) s)
  else if !differs && flagged then
    clearAlarm .configMismatch (some n) (setPeer n (fun p => { p with foreign := false }) s)
  else s

/-- A fresh flag from a peer ends the loans between the two (R112): lent records are reinstated, borrowed
ones dropped, and a return still in flight for a dropped record is no longer acted on. -/
def freshPeer (n : Nat) (s : State) : State :=
  let h := s.share
  let back := ((h.lentRecords.filter fun r => r.peer == n).map (·.count)).sum
  let gone := h.borrowedRecords.filter fun r => r.peer == n
  let s := s.onShare fun h =>
    { h with own := h.own + back, lent := h.lent - back,
             lentRecords := h.lentRecords.filter fun r => r.peer != n,
             borrowed := h.borrowed - (gone.map (·.count)).sum,
             borrowedRecords := h.borrowedRecords.filter fun r => r.peer != n }
  muteWhere (fun e => e.kind == .shareReturn && e.target == BitVec.ofNat 4 n
    && gone.any fun r => r.inFlight == some (countOf e.words, grantOf e.words)) s

/-- Take a STATUS (R39); one that R193 discards changes nothing here. -/
def takeStatus (b : Bulletin) (s : State) : State :=
  match StatusFields.ofWords b.words with
  | none => s
  | some x =>
    let n := b.sender.toNat
    let missed := missedStatus (s.peer n) b.seq x.fresh
    let s := setPeer n (fun p => { p with gaps := satAdd Config.counterMax p.gaps missed }) s
    let s := s.count fun c =>
      { c with sequenceGaps := satAdd Config.counterMax c.sequenceGaps missed }
    let s := compareSignature n x.signature s
    let s := setPeer n (fun p =>
      { p with status := x, lastSeq := b.seq, heard := true, age := 0 }) s
    let s := clearAlarm .peerSilent (some n) s
    if x.fresh then freshPeer n s else s

/-- The own STATUS delivered is copied into the own record, every field as sent (R47): R193 judges only the
STATUS of a peer (log entry 41). -/
def statusDelivered (e : Entry) (s : State) : State :=
  match StatusFields.read e.words with
  | none => s
  | some x => setPeer s.station (fun p =>
      { p with status := x, lastSeq := e.seq, heard := true, age := 0 }) s

/-- A bulletin whose arbitration is not yet over has not begun its attempt, so it carries the new sequence
number, unless it is a STATUS; the PROBE of a loopback test among them (R5, R13). -/
def reSequence (seq : Byte) (s : State) : State :=
  if 0 < s.line.arbitration ∧
      (s.line.loopback || (flight s.line.queue).any fun e => e.kind != .status) then
    s.onLine fun l => { l with txSeq := seq }
  else s

/-- Compose and place the STATUS of a status point; before entry to JOINED none is composed (R46, R48). -/
def composeStatus (s : State) : State :=
  if s.joined then
    let seq := s.picture.seq + 1#8
    let s := reSequence seq (s.onPicture fun p => { p with seq })
    place { kind := .status, target := Config.broadcast, words := s.statusFields.words, seq } s
  else s

/-- The status point: at most once for each cycle start, while the timer runs (R28); the units up to its offset
have passed (log entries 4 and 32). -/
def statusPointNow (s : State) : State :=
  if s.time.running && !s.time.statusDone then
    composeStatus ((elapse (s.statusOffset - s.time.offset) s).onTime fun t =>
      { t with offset := s.statusOffset, statusDone := true })
  else s

end Sys2Proof.Machine
end

