-- ==== Sys2Proof/Machine/Share.lean ====
section
/-! DEFINITION. The share unit (chapter 6): quarantine, need and spare, asking, granting, returning, recall
and shedding, and the terms. -/

namespace Sys2Proof.Machine

/-- The target field of a directed bulletin to a station number. -/
def toStation (n : Nat) : BitVec 4 := BitVec.ofNat 4 n

/-- A count carried is 1 to 64 (R103, R108). -/
def countInRange (k : Nat) : Bool := decide (1 ≤ k ∧ k ≤ Config.tokens)

/-! ### Need (R99) -/

/-- The tokens whose ceiling would place the demand at the low mark, rounded up, at most 64 (R99). -/
def needFor (g : Globals) (demand : Nat) : Nat :=
  if demand = 0 then 0
  else if g.pool * g.lowMark = 0 then Config.tokens
  else min Config.tokens
    ((demand * 64 * 1000 + g.pool * g.lowMark - 1) / (g.pool * g.lowMark))

/-- The demand of the cycle as the share unit has it: 0 where no drive chain runs (R99). -/
def shareDemand (s : State) : Nat := if s.role.isAxis then s.drive.demand else 0

/-- Form need from the demand of the cycle (R99). -/
def shareNeed (s : State) : State :=
  s.onShare fun h => { h with need := needFor s.globals (shareDemand s) }

/-! ### Granting (R102 to R104) -/

/-- Place a SHARE-GRANT with the next grant number; an admitted one is promised (R102). -/
def placeGrant (peer count : Nat) (s : State) : State × Admission :=
  let g := s.share.grantNumber
  let s := s.onShare fun h => { h with grantNumber := h.grantNumber + 1 }
  match enqueue { kind := .shareGrant, target := toStation peer, words := grantWords count g } s with
  | (s', .refused) => (s', .refused)
  | (s', a) => (s'.onShare fun h => { h with promised := h.promised + count }, a)

/-- Answer a SHARE-ASK (TABLE 6-3). -/
def answerAsk (b : Bulletin) (s : State) : State :=
  let count := min Config.tokens (countOf b.words)
  let refuse (reason : Nat) : State :=
    place { kind := .shareRefuse, target := toStation b.sender.toNat, words := reasonWords reason } s
  if count = 0 then refuse reasonZero
  else if s.share.fresh then refuse reasonFresh
  else if s.spare = 0 then refuse reasonNone
  else (placeGrant b.sender.toNat (min count s.spare) s).1

/-- The axis function's request to grant a named peer (R104). -/
def requestGrant (peer count : Nat) (s : State) : State :=
  let k := min count s.spare
  if k = 0 ∨ s.share.fresh then s else (placeGrant peer k s).1

/-- Book a lent record at the delivery of a SHARE-GRANT (R103). -/
def bookLent (peer k : Nat) (g : Word) (term : Nat) (h : Share) : Share :=
  let records :=
    if h.lentRecords.any fun r => r.peer == peer then
      h.lentRecords.map fun r =>
        if r.peer == peer then { r with count := r.count + k, term, grace := none, grantNumber := g }
        else r
    else h.lentRecords ++ [{ peer, count := k, term, grace := none, grantNumber := g }]
  { h with own := h.own - k, lent := h.lent + k, lentRecords := records, promised := h.promised - k }

/-- The lender at the slot of its delivered SHARE-GRANT (R103). -/
def grantDelivered (e : Entry) (s : State) : State :=
  let k := countOf e.words
  if countInRange k then
    s.onShare (bookLent e.target.toNat k (grantOf e.words) s.globals.loanTerm)
  else s

/-- Book a borrowed record (R103), without bound (log entry 41). -/
def bookBorrowed (peer k : Nat) (g : Word) (term : Nat) (h : Share) : Share :=
  let records :=
    if h.borrowedRecords.any fun r => r.peer == peer then
      h.borrowedRecords.map fun r =>
        if r.peer == peer then { r with count := r.count + k, term, grantNumber := g } else r
    else h.borrowedRecords ++
      [{ peer, count := k, term, grantNumber := g, state := .holding, shed := 0, shedWait := 0,
         inFlight := none }]
  { h with borrowed := h.borrowed + k, borrowedRecords := records }

/-- The pending ask ends; its SHARE-ASK, if still queued, is no longer acted on (R101). -/
def endAsk (s : State) : State :=
  muteEntries .shareAsk (s.onShare fun h => { h with ask := none })

/-- End the pending ask when its asked peer answers (R101). -/
def answerFrom (peer : Nat) (s : State) : State :=
  if s.share.ask.any fun a => a.peer == peer then endAsk s else s

/-- A SHARE-GRANT taken (R97, R101, R103). -/
def takeGrant (b : Bulletin) (s : State) : State :=
  let peer := b.sender.toNat
  let k := countOf b.words
  let s := answerFrom peer s
  if !s.share.fresh && countInRange k then
    s.onShare (bookBorrowed peer k (grantOf b.words) s.globals.loanTerm)
  else s

/-- A SHARE-REFUSE taken (R97, R101); the reason is not read (R193). -/
def takeRefuse (b : Bulletin) (s : State) : State :=
  if s.share.fresh then s else answerFrom b.sender.toNat s

/-! ### Returning (R104, R107, R108) -/

/-- Place a SHARE-RETURN; one refused at placement is a failed return (R105, R107). -/
def sendReturn (peer k : Nat) (g : Word) (s : State) : State :=
  match enqueue { kind := .shareReturn, target := toStation peer, words := grantWords k g } s with
  | (s', .refused) => returnFailed peer (k, g) false s'
  | (s', _) => s'

/-- Place a return of `k` tokens for a record: it goes to RETURNING with the return in flight (R107); of a count
above 127, log entry 41. -/
def returnRecord (peer k : Nat) (s : State) : State :=
  match s.share.borrowedRecords.find? fun r => r.peer == peer with
  | none => s
  | some r =>
    let s := s.onShare fun h =>
      { h with borrowedRecords := h.borrowedRecords.map fun x =>
          if x.peer == peer then
            { x with state := .returning, inFlight := some (k, x.grantNumber) } else x }
    sendReturn peer k r.grantNumber s

/-- The axis function's request to return every borrowed loan (R104), in the order of the borrowed list (log
entry 47). -/
def returnAll (s : State) : State :=
  (s.share.borrowedRecords.filter fun r => r.state != .returning).foldl
    (fun s r => returnRecord r.peer r.count s) s

/-- A SHARE-RETURN taken at the lender (R108). -/
def takeReturn (b : Bulletin) (s : State) : State :=
  let peer := b.sender.toNat
  let k := countOf b.words
  let g := grantOf b.words
  if s.share.fresh || !countInRange k then s
  else
    match s.share.lentRecords.find? fun r => r.peer == peer && r.grantNumber == g with
    | none => s
    | some r =>
      let m := min k r.count
      s.onShare fun h =>
        { h with own := h.own + m, lent := h.lent - m,
                 lentRecords := (h.lentRecords.map fun x =>
                   if x.peer == peer then { x with count := x.count - m } else x).filter
                     fun x => decide (0 < x.count) }

/-- A SHARE-RETURN delivered, at the borrower (R105, R108). -/
def returnDelivered (e : Entry) (s : State) : State :=
  let peer := e.target.toNat
  let ret := (countOf e.words, grantOf e.words)
  match s.share.borrowedRecords.find? (isReturnOf peer ret) with
  | none => s
  | some r =>
    let m := if r.grantNumber = ret.2 then min ret.1 r.count else 0
    s.onShare fun h =>
      { h with borrowed := h.borrowed - m,
               borrowedRecords := (h.borrowedRecords.map fun x =>
                 if isReturnOf peer ret x then { x.settle with count := x.count - m } else x).filter
                   fun x => decide (0 < x.count) }

/-! ### Recall and shedding (R109 to R111) -/

/-- A SHARE-RECALL taken (TABLE 6-4). -/
def takeRecall (b : Bulletin) (s : State) : State :=
  let peer := b.sender.toNat
  let c := clampNat 1 Config.tokens (countOf b.words)
  if s.share.fresh then s
  else
    s.onShare fun h => { h with borrowedRecords := h.borrowedRecords.map fun r =>
      if r.peer == peer then
        match r.state with
        | .holding => { r with state := .shedding, shed := min c r.count, shedWait := 0 }
        | .shedding => { r with shed := max r.shed (min c r.count) }
        | .returning => r
      else r }

/-- The lent record to recall: the greatest count not in grace, the earliest of equals (R109). -/
def recallChoice (records : List LentRecord) : Option LentRecord :=
  (records.filter fun r => r.grace.isNone).foldl (fun acc r =>
    match acc with
    | none => some r
    | some x => if x.count < r.count then some r else some x) none

/-- The peer to ask: HEARD, not stale, fresh flag clear and spare above 0; the greatest spare, the lower
number of equals (R101). -/
def askChoice (s : State) : Option Nat :=
  ((List.range 8).filter fun n =>
      n != s.station && s.isFresh (s.peer n) && !(s.peer n).status.fresh
        && decide (0 < (s.peer n).status.spare)).foldl (fun acc n =>
    match acc with
    | none => some n
    | some m => if (s.peer m).status.spare < (s.peer n).status.spare then some n else some m) none

/-- Need less held, at least 1 and at most `top` (R101, R109). -/
def shortfall (top : Nat) (s : State) : Nat := min top (max 1 (s.share.need - s.held))

/-- Recall (R109); admitted, it sets the pressure count to 0 (R100). -/
def placeRecall (r : LentRecord) (s : State) : State :=
  match enqueue { kind := .shareRecall, target := toStation r.peer,
                  words := countWords (shortfall r.count s) } s with
  | (s', .refused) => s'
  | (s', _) => s'.onShare fun h => { h with pressure := 0 }

/-- Ask (R101); admitted, it is pending and sets the pressure count to 0 (R100). -/
def placeAsk (peer : Nat) (s : State) : State :=
  match enqueue { kind := .shareAsk, target := toStation peer,
                  words := countWords (shortfall Config.tokens s) } s with
  | (s', .refused) => s'
  | (s', _) => s'.onShare fun h => { h with ask := some ⟨peer, 0⟩, pressure := 0 }

/-- What the share unit does while the pressure count stands at 5 (R100). A fresh station places neither
(R97). -/
def pressureAct (s : State) : State :=
  if s.share.fresh then s
  else
    match recallChoice s.share.lentRecords with
    | some r => (placeRecall r s).note .pressure
    | none =>
      if s.share.ask.isSome then s
      else match askChoice s with
        | none => s
        | some n => (placeAsk n s).note .pressure

/-- Overdrawn at this cycle start (R100). -/
def overdrawn (s : State) : Bool :=
  let held := s.held
  let demand := shareDemand s
  if 0 < held then
    decide (0 < demand) && decide (s.globals.highMark * s.ceiling held / 1000 ≤ demand)
  else s.role.isAxis && s.drive.postTarget != 0

/-- The pressure count and its act (R100). -/
def pressureCycle (s : State) : State :=
  let s := s.onShare fun h =>
    { h with pressure := if overdrawn s then satAdd Config.pressureLimit h.pressure 1 else 0 }
  if s.share.pressure = Config.pressureLimit then pressureAct s else s

/-- The ask-wait count (R101). -/
def askWaitCycle (s : State) : State :=
  match s.share.ask with
  | none => s
  | some a =>
    if Config.shareWait ≤ a.wait + 1 then (endAsk s).note .askWaitEnd
    else s.onShare fun h => { h with ask := some { a with wait := a.wait + 1 } }

/-- The voluntary return condition against the oldest HOLDING record (R107). -/
def voluntaryHolds (s : State) (r : BorrowedRecord) : Bool :=
  decide (shareDemand s ≤ s.globals.lowMark * s.ceiling (s.held - r.count) / 1000)

/-- The voluntary-return count and the return it places (R107). -/
def voluntaryCycle (s : State) : State :=
  match s.share.borrowedRecords.find? fun r => r.state == .holding with
  | none => s.onShare fun h => { h with voluntary := 0 }
  | some r =>
    if !voluntaryHolds s r then s.onShare fun h => { h with voluntary := 0 }
    else if Config.shareWait ≤ s.share.voluntary + 1 then
      (returnRecord r.peer r.count (s.onShare fun h => { h with voluntary := 0 })).note .voluntaryReturn
    else s.onShare fun h => { h with voluntary := h.voluntary + 1 }

/-- The shed wait of every SHEDDING record, and the shed returns that fall due, all judged against held as it
stands before the first of them (R111, log entry 42). -/
def shedCycle (s : State) : State :=
  let s := s.onShare fun h => { h with borrowedRecords := h.borrowedRecords.map fun r =>
    if r.state == .shedding then { r with shedWait := min Config.shareWait (r.shedWait + 1) } else r }
  let fits := decide (shareDemand s ≤ s.ceiling s.held)
  (s.share.borrowedRecords.filter fun r =>
      r.state == .shedding && (fits || decide (Config.shareWait ≤ r.shedWait))).foldl
    (fun s r => returnRecord r.peer r.shed s) s

/-- The share unit's counts at a cycle start, after the drive chain (R100, R101, R107, R111). -/
def shareCycle (s : State) : State :=
  if s.joined then shedCycle (voluntaryCycle (pressureCycle (askWaitCycle s))) else s

/-! ### Terms and quarantine at a long cycle (R97, R98, R105, R106) -/

/-- A borrowed record's term runs out: it is removed, and a full return placed unless one is in flight
(R105). -/
def borrowedTermOut (s : State) (r : BorrowedRecord) : State :=
  let s := (s.onShare fun h =>
    { h with borrowed := h.borrowed - r.count,
             borrowedRecords := h.borrowedRecords.filter fun x => x.peer != r.peer }).note .loanTermEnd
  if r.state = .returning then s else sendReturn r.peer r.count r.grantNumber s

/-- The terms of the borrowed records (R105), their returns placed in the order of the list (log entry 47). -/
def borrowedTerms (s : State) : State :=
  let s := s.onShare fun h =>
    { h with borrowedRecords := h.borrowedRecords.map fun r => { r with term := r.term - 1 } }
  (s.share.borrowedRecords.filter fun r => r.term == 0).foldl borrowedTermOut s

/-- One lent record at a long cycle: its term, then its grace (R106). -/
def LentRecord.tick (r : LentRecord) : LentRecord :=
  match r.grace with
  | some g => { r with grace := some (g - 1) }
  | none =>
    if r.term ≤ 1 then { r with term := 0, grace := some Config.graceTerm }
    else { r with term := r.term - 1 }

/-- The terms and grace of the lent records; those whose grace runs out are reinstated (R106). -/
def lentTerms (s : State) : State :=
  let h := s.share
  let ticked := h.lentRecords.map LentRecord.tick
  let back := ticked.filter fun r => r.grace == some 0
  let n := (back.map (·.count)).sum
  let turned := h.lentRecords.any (fun r => r.grace.isNone && decide (r.term ≤ 1)) || !back.isEmpty
  let s := s.onShare fun h =>
    { h with own := h.own + n, lent := h.lent - n,
             lentRecords := ticked.filter fun r => r.grace != some 0 }
  if turned then s.note .loanGraceEnd else s

/-- The quarantine count, and the examination of the picture, its raises in rising station number (R97, R98, log
entry 34). -/
def quarantineStep (s : State) : State :=
  let s := s.onShare fun h => { h with quarantine := min 257 (h.quarantine + 1) }
  if s.share.fresh ∧ s.globals.loanTerm + 2 ≤ s.share.quarantine then
    let foreign := (List.range 8).filter fun n => n != s.station && (s.peer n).foreign
    if foreign.isEmpty then
      (clearAlarm .stationStarted none (s.onShare fun h =>
        { h with own := (s.entryOf s.station).homeShare, fresh := false })).note .quarantineEnd
    else foreign.foldl (fun s n => raiseQuiet .configMismatch (some n) s) s
  else s

/-- The share unit at a long cycle. -/
def shareLongCycle (s : State) : State :=
  if s.joined then quarantineStep (lentTerms (borrowedTerms s)) else s

/-- The quarantine starts at entry to JOINED (R97). -/
def startQuarantine (s : State) : State :=
  s.onShare fun h =>
    { h with quarantine := 0, own := 0, borrowed := 0, lent := 0, lentRecords := [],
             borrowedRecords := [], fresh := true }

/-- The share unit at entry to HALTED (R113). -/
def shareHalted (s : State) : State :=
  s.onShare fun h => { h with borrowed := 0, borrowedRecords := [] }

end Sys2Proof.Machine
end

