-- ==== Sys2Proof/Machine/Rope.lean ====
section
/-! DEFINITION. The HOIST and DRAG axis functions (chapter 7): position, load, calibration, the limits, the
bucket class, and the ownership of the drag motors. -/

namespace Sys2Proof.Machine

/-! ### Position, load and calibration (R115 to R118) -/

/-- A count in centimetres, before any base (R115, R117). -/
def ropeLength (count : DWord) (countsPerMetre : Nat) : Int :=
  scaleTrunc (count.toInt * 100) countsPerMetre

/-- The rope position (R115). -/
def ropePosition (count : DWord) (countsPerMetre : Nat) (base : Int) : Nat :=
  (clampInt 0 65535 (ropeLength count countsPerMetre + base)).toNat

/-- The rope load (R116). -/
def ropeLoad (x : BitVec 12) (loadZero span : Nat) : Nat :=
  (clampInt 0 2500 (scaleTrunc (((x.toNat : Int) - loadZero) * 1000) span)).toNat

/-- Form p and the load of the cycle (R115, R116). -/
def ropeMeasure (s : State) : State :=
  let p := s.params.rope
  s.onRope fun r =>
    { r with position := ropePosition s.encoder p.countsPerMetre r.base,
             load := ropeLoad s.inputs.ch2 p.loadZero p.loadSpan }

/-- A unit 0 result at a rope station: the correction and the base (R117). -/
def ropeResult (snapshot : DWord) (s : State) : State :=
  let p := s.params.rope
  let q := ropeLength snapshot p.countsPerMetre
  let e : Int := (p.refPosition : Int) - (q + s.rope.base)
  let calibrate (s : State) : State :=
    s.onRope fun r => { r with base := (p.refPosition : Int) - q, calibrated := true }
  if !s.rope.calibrated then calibrate s
  else if (e.natAbs : Int) ≤ Config.ropeTolerance then clearAlarm .ropeMarkMismatch none (calibrate s)
  else raiseQuiet .ropeMarkMismatch none s

/-- A count change that cannot have come from rope motion (R118). -/
def countImplausible (s : State) : Bool :=
  decide (3 * s.params.drive.countsPerCycle < s.drive.delta.natAbs)

/-- The encoder check (R118). -/
def ropeEncoder (s : State) : State :=
  let bad := countImplausible s
  let was := s.rope.encoderFault
  let s := s.onRope fun r => { r with encoderFault := bad }
  if bad && !was then
    raise .encoderFault none (s.onRope fun r => { r with calibrated := false })
  else if !bad && was then clearAlarm .encoderFault none s
  else s

/-! ### Overtravel (R119, R120) -/

/-- Below L_in less half of M, or above L_out plus half of M (R119). -/
def beyondHaulIn (p : RopeParams) (position : Nat) : Bool :=
  decide ((position : Int) < (p.limitIn : Int) - (p.stopMargin / 2 : Nat))
def beyondPayout (p : RopeParams) (position : Nat) : Bool :=
  decide (p.limitOut + p.stopMargin / 2 < position)

/-- The two position sides (R119). -/
def ropeOvertravel (s : State) : State :=
  let inNow := s.rope.calibrated && beyondHaulIn s.params.rope s.rope.position
  let outNow := s.rope.calibrated && beyondPayout s.params.rope s.rope.position
  let inWas := s.rope.beyondIn
  let outWas := s.rope.beyondOut
  let s := s.onRope fun r => { r with beyondIn := inNow, beyondOut := outNow }
  let s := if inNow && !inWas then raiseThenClear .zoneOvertravel (some 1) s else s
  if outNow && !outWas then raiseThenClear .zoneOvertravel (some 2) s else s

/-- The hardware limit input reads active (R120). -/
def hardLimitActive (s : State) : Bool := s.inputActive s.params.rope.hardLimit

/-- The hardware limit (R120). -/
def ropeHardLimit (s : State) : State :=
  let active := hardLimitActive s
  let was := s.rope.limitPrev
  let s := s.onRope fun r => { r with limitPrev := some active }
  if active ∧ was ≠ some true then raiseThenClear .zoneOvertravel (some 3) s else s

/-! ### The hoist (R121 to R123) -/

/-- The bucket class: the first row of TABLE 7-4 that holds (R121). -/
def bucketClass (p : RopeParams) (r : Rope) : Bucket :=
  if !r.calibrated then .unknown
  else if r.position ≤ p.clearMark then .clear
  else if p.groundMark ≤ r.position ∧ r.load < p.slackThreshold then .grounded
  else .low

/-- Classify the bucket (R121). -/
def hoistClass (s : State) : State :=
  s.onRope fun r => { r with bucket := bucketClass s.params.rope r }

/-- Overload (R122). -/
def hoistOverload (s : State) : State :=
  let high := decide (s.params.rope.maxLoad < s.rope.load)
  let was := s.rope.overload
  let s := s.onRope fun r => { r with overload := high }
  if high && !was then raiseQuiet .overload none s
  else if !high && was then clearAlarm .overload none s
  else s

/-- The slack count and SLACK ROPE (R123). -/
def hoistSlack (s : State) : State :=
  let was := s.rope.slack
  let n := if s.rope.bucket = .low ∧ s.rope.load < s.params.rope.slackThreshold then bump8 was else 0
  let s := s.onRope fun r => { r with slack := n }
  if was < Config.slackLimit ∧ n = Config.slackLimit then
    (raiseQuiet .slackRope none s).note .slackRope
  else if n = 0 then clearAlarm .slackRope none s
  else s

/-- The slack-rope limit is in force (R123). -/
def slackLimitOn (s : State) : Bool := s.role == .hoist && decide (Config.slackLimit ≤ s.rope.slack)

/-- The AXIS item's creep-limit state: the uncalibrated creep or the slack-rope limit in force (R123). -/
def ropeCreepLimit (s : State) : Bool := !s.rope.calibrated || slackLimitOn s

/-! ### The drag's guard (R124, R125) -/

/-- The tight-line guard is in force (R124). -/
def tightGuard (s : State) : Bool :=
  (s.roleReports .hoist Bucket.low.code || s.roleReports .hoist Bucket.clear.code)
    && decide (s.rope.load < s.params.rope.slackThreshold)

/-- The guard bites on a target entering stage 3 (R124). -/
def tightBite (s : State) : State :=
  let bites := tightGuard s && decide (s.drive.postTarget < -(s.params.rope.tightLine : Int))
  let was := s.rope.tightLine
  let s := s.onRope fun r => { r with tightLine := bites }
  if bites && !was then raiseQuiet .tightLineLimit none s
  else if !bites && was then clearAlarm .tightLineLimit none s
  else s

/-! ### Limits (TABLE 7-3) -/

/-- A limit that holds only while `on`. -/
def boundIf (on : Bool) (b : Bounds) : Bounds := if on then b else {}

/-- Every limit of TABLE 7-3 in force at a rope station. -/
def ropeBounds (s : State) : Bounds :=
  let creep : Int := s.params.drive.creep
  let hoist := s.role == .hoist
  let drag := s.role == .drag
  ((((boundIf (!s.rope.calibrated) (creepTarget s.params.drive.creep)).meet
    (boundIf (hardLimitActive s) { targetHi := 0, hardHi := 0 })).meet
    (boundIf (hoist && s.rope.overload) { targetHi := 0 })).meet
    (boundIf (slackLimitOn s) { targetLo := -creep })).meet
    ((boundIf (drag && tightGuard s) { targetLo := -(s.params.rope.tightLine : Int) }).meet
      (boundIf (drag && !s.roleHeard .hoist) { targetLo := -creep }))

/-! ### Ownership of the drag motors (R126 to R133) -/

/-- A change of ownership state, which the owned hook follows (R126). -/
def setOwnership (o : Ownership) (s : State) : State :=
  watchOwned (s.onRope fun r => { r with ownership := o })

/-- The drag leaves YIELDING by another way than its XFER-YIELD's outcome, which is then ignored (R130,
TABLE 7-7). -/
def ignoreYield (s : State) : State := muteEntries .xferYield s

/-- Ownership judged at entry to JOINED (R127). -/
def dragJoin (s : State) : State :=
  if s.dragSide then setOwnership .digging s
  else s.onRope fun r => { r with walkSeen := s.walkSide }

/-- The station whose XFER bulletins the drag acts on (R128, R131). -/
def fromWalk (b : Bulletin) (s : State) : Bool := s.numberOf .walk == some b.sender.toNat

/-- A directed bulletin to the WALK station of the machine table. -/
def toRole (r : Role) (s : State) : BitVec 4 := toStation ((s.numberOf r).getD 0)

/-- Answer an XFER-ASK (TABLE 7-6). -/
def dragAsk (b : Bulletin) (s : State) : State :=
  let refuse (reason : Nat) : State :=
    place { kind := .xferRefuse, target := toRole .walk s, words := reasonWords reason } s
  if !fromWalk b s then s
  else if s.rope.ownership ≠ .digging then refuse reasonBusy
  else if s.alarms.mode ≠ .run then refuse reasonTripped
  else setOwnership .yielding (s.onRope fun r => { r with yieldCount := 0, yieldSent := false })

/-- An XFER-ABORT (TABLE 7-7). -/
def dragAbort (b : Bulletin) (s : State) : State :=
  if !fromWalk b s then s
  else match s.rope.ownership with
    | .yielding => enterReclaiming (ignoreYield s)
    | .yielded => s.onRope fun r => { r with reclaimPending := true }
    | .digging | .reclaiming => s

/-- An XFER-RELEASE (TABLE 7-7). -/
def dragRelease (b : Bulletin) (s : State) : State :=
  if fromWalk b s ∧ s.rope.ownership = .yielded then
    s.onRope fun r => { r with reclaimPending := true }
  else s

/-- The XFER-YIELD delivered (R130). -/
def yieldDelivered (e : Entry) (s : State) : State :=
  if s.rope.ownership = .yielding ∧ s.rope.yieldSent ∧ !e.muted then
    setOwnership .yielded (s.onRope fun r =>
      { r with walkSeen := false, reclaimPending := false, yieldWait := 0 })
  else s

/-- The walk side read closed and the drag side open while the drag believes itself owner (R132). -/
def dragToYielded (s : State) : State :=
  setOwnership .yielded ((ignoreYield s).onRope fun r => { r with walkSeen := true })

/-- A cycle start in YIELDED (R130). -/
def yieldedCycle (s : State) : State :=
  if s.walkSide then s.onRope fun r => { r with walkSeen := true }
  else if s.dragSide then
    if s.rope.walkSeen || s.rope.reclaimPending then enterReclaiming s
    else
      let n := satAdd 1000 s.rope.yieldWait 1
      let s := s.onRope fun r => { r with yieldWait := n }
      if s.params.rope.yieldLimit ≤ n then (enterReclaiming s).note .yieldWaitExpiry else s
  else s

/-- The ownership state at a cycle start, after the ring's consumption (R130, R132). -/
def ownershipCycle (s : State) : State :=
  match s.rope.ownership with
  | .yielded => yieldedCycle s
  | .digging => if s.walkSide then dragToYielded s else s
  | .yielding => if s.walkSide then dragToYielded s else s
  | .reclaiming =>
    if s.walkSide then dragToYielded s
    else if !s.ring.rearm then setOwnership .digging s
    else s

/-- The grant and the XFER-YIELD of a stopped drag, an admitted grant standing first (R129, log entry 48). -/
def sendYield (s : State) : State :=
  let count := s.share.own - s.params.reserve
  let walk := (s.numberOf .walk).getD 0
  let granted := if 0 < count then requestGrant walk count s else s
  let e : Entry :=
    { kind := .xferYield, target := toStation walk, words := [], rank := rankAfter .shareGrant s granted }
  match enqueue e (granted.onRope fun r => { r with yieldSent := true }) with
  | (s', .refused) => outcomeFailed e s'
  | (s', _) => s'

/-- The drag has stopped and its brake is set (R129). -/
def dragStopped (s : State) : Bool :=
  s.drive.brakeInput && s.drive.brake == .set
    && decide ((s.drive.speed.natAbs : Int) ≤ Config.stillSpeed)

/-- The yield judged at a cycle start in YIELDING, after the brake logic (R129). -/
def yieldJudge (s : State) : State :=
  if s.role = .drag ∧ s.rope.ownership = .yielding ∧ !s.rope.yieldSent then
    let n := s.rope.yieldCount + 1
    let s := s.onRope fun r => { r with yieldCount := n }
    if dragStopped s then sendYield s
    else if s.params.rope.yieldLimit ≤ n then
      (setOwnership .digging (place
        { kind := .xferRefuse, target := toRole .walk s, words := reasonWords reasonNotStopped }
        s)).note .yieldLimit
    else s
  else s

/-- The calibrated state of this cycle start, for the STATUS (R117). -/
def ropeReport (s : State) : State := s.onRope fun r => { r with calReport := r.calibrated }

/-- The rope axis function in step 2 of R78: the encoder check, the overtravel check, the hardware limit's,
then the hoist's overload and slack, or the drag's ownership (log entry 44). -/
def ropeStep (s : State) : State :=
  let s := ropeReport (ropeHardLimit (ropeOvertravel (ropeEncoder (ropeMeasure s))))
  match s.role with
  | .hoist => hoistSlack (hoistOverload (hoistClass s))
  | .drag => ownershipCycle s
  | .none | .cab | .swing | .walk => s

end Sys2Proof.Machine
end

