-- ==== Sys2Proof/Machine/Swing.lean ====
section
/-! DEFINITION. The SWING axis function (chapter 8), and the circle arithmetic the walk cam shares with it
(R134, R135, R157). -/

namespace Sys2Proof.Machine

/-! ### The circle (R134, R135) -/

/-- The count of a circle at a cycle start: set from the first sample, then moved by Δ (R134). -/
def circleCount (c : Circle) (sample : DWord) (delta : Int) (perRev : Nat) : Nat :=
  match c.sample with
  | none => reduceCount sample.toInt perRev
  | some _ => reduceCount (c.count + delta) perRev

/-- A circle at a cycle start at which the drive chain runs (R134, R157). -/
def circleCycle (sample : DWord) (delta : Int) (perRev : Nat) (c : Circle) : Circle :=
  let n := circleCount c sample delta perRev
  { c with count := n, sample := some sample, angle := angleOf n perRev c.base }

/-- A snapshot reduced onto the circle (R135). -/
def reduceSnapshot (c : Circle) (snapshot : DWord) (perRev : Nat) : Nat :=
  match c.sample with
  | none => reduceCount snapshot.toInt perRev
  | some e => reduceCount (c.count + signedDiff snapshot e) perRev

/-- The snapshot angle (R135). -/
def snapshotAngle (c : Circle) (snapshot : DWord) (perRev : Nat) : Nat :=
  angleOf (reduceSnapshot c snapshot perRev) perRev c.base

/-- A base moved by a correction, modulo 3600 (R137). -/
def moveBase (base : Nat) (e : Int) : Nat := (((base : Int) + e) % 3600).toNat

/-! ### Correction from the swing mark (R136, R137) -/

/-- The snapshot a result corrects against: present, and passed clockwise (R136). -/
def swingUsable (r : CaptureResult) : Option DWord :=
  match r.slave with
  | none => none
  | some m => if 0 < signedDiff r.masterSnapshot m.snapshot then some m.snapshot else none

/-- The mark error of a slave snapshot (R137). -/
def swingError (s : State) (snapshot : DWord) : Int :=
  angleDistance (snapshotAngle s.swing.circle snapshot s.params.swing.countsPerRev)
    s.params.swing.markAngle

/-- A unit 0 result at the SWING station (R136, R137). -/
def swingResult (r : CaptureResult) (s : State) : State :=
  match swingUsable r with
  | none => s
  | some snapshot =>
    let e := swingError s snapshot
    let was := s.swing.calibrated
    let s := s.onSwing fun w => { w with markError := e }
    if was ∧ s.params.swing.markTolerance < e.natAbs then raiseQuiet .swingMarkMismatch none s
    else
      let s := s.onSwing fun w =>
        { w with circle := { w.circle with base := moveBase w.circle.base e }, calibrated := true }
      if was then clearAlarm .swingMarkMismatch none s else s

/-! ### Limits (R138 to R141) -/

/-- The bucket limit is in force (R139). -/
def bucketLimit (s : State) : Bool := !s.roleReports .hoist Bucket.clear.code

/-- The walk limit is in force (R140). -/
def walkLimit (s : State) : Bool :=
  let r := s.roleRecord .walk
  r.heard && (r.status.role != .walk || r.status.axis != WalkState.parked.code)

/-- The bounds of the bucket and walk limits alone (R141, TABLE 8-2). -/
def swingRefusalBounds (s : State) : Bounds :=
  let creep := s.params.drive.creep
  (boundIf (bucketLimit s) (creepBoth creep)).meet
    (boundIf (walkLimit s) { creepBoth creep with targetLo := 0, targetHi := 0 })

/-- Every limit of TABLE 8-2 in force. -/
def swingBounds (s : State) : Bounds :=
  (boundIf (!s.swing.calibrated) (creepTarget s.params.drive.creep)).meet (swingRefusalBounds s)

/-- The refusal of the operator's reference, judged on the target entering stage 3 (R141). -/
def swingRefusal (s : State) : State :=
  let b := swingRefusalBounds s
  let refused := decide (s.drive.postTarget < b.targetLo) || decide (b.targetHi < s.drive.postTarget)
  let was := s.swing.notPermitted
  let s := s.onSwing fun w => { w with notPermitted := refused }
  if refused && !was then raiseQuiet .swingNotPermitted none s
  else if !refused && was then clearAlarm .swingNotPermitted none s
  else s

/-! ### Parked for walk (R142) -/

/-- The parked-for-walk report (R142). -/
def swingParked (s : State) : Bool :=
  s.swing.calibrated
    && decide ((angleDistance s.swing.circle.angle s.params.swing.walkAngle).natAbs
        ≤ s.params.swing.walkWindow)
    && s.drive.brakeInput
    && decide ((s.drive.speed.natAbs : Int) ≤ Config.stillSpeed)

/-- The swing axis function in step 2 of R78; the STATUS reports the calibrated state of this cycle start
(R137). -/
def swingStep (s : State) : State :=
  let s := s.onSwing fun w =>
    { w with circle := circleCycle s.encoder s.drive.delta s.params.swing.countsPerRev w.circle }
  s.onSwing fun w => { w with parked := swingParked s, calReport := w.calibrated }

end Sys2Proof.Machine
end

