-- ==== Sys2Proof/Machine/Walk.lean ====
section
/-! DEFINITION. The WALK axis function (chapter 9), and the contactor checks of the DRAG and WALK stations
(R147, R148). -/

namespace Sys2Proof.Machine

/-! ### Contactor checks (R147, R148) -/

/-- The cycle starts of a disagreeing reading that are allowed (R147). -/
def contactorAllowance (s : State) : Nat :=
  let travelling := match s.role with
    | .walk => s.walk.state == .transferring || s.walk.state == .returning
    | .drag => s.rope.ownership == .yielded
    | .none | .cab | .hoist | .swing => false
  if s.bothOpen && travelling then s.globals.contactorLimit else Config.disagreeAllowance

/-- The disagreement check (R147). -/
def checkDisagree (s : State) : State :=
  if s.dragSide || s.walkSide then
    clearAlarm .contactorDisagree (some 2) (clearAlarm .contactorDisagree (some 1)
      (s.onContactor fun c => { c with disagree := 0, raised := false }))
  else
    let n := bump8 s.contactor.disagree
    let first := decide (contactorAllowance s < n) && !s.contactor.raised
    let s := s.onContactor fun c => { c with disagree := n, raised := c.raised || first }
    if first then
      (raise .contactorDisagree (some (if s.bothClosed then 1 else 2)) s).note .contactorDisagree
    else s

/-- The reading is contrary to the coil command (R148). -/
def isContrary (s : State) : Bool := if s.walk.coil then s.dragSide else s.walkSide

/-- The contrary check of the WALK station (R148). -/
def checkContrary (s : State) : State :=
  if isContrary s then
    let was := s.contactor.contrary
    let n := bump8 was
    let s := s.onContactor fun c => { c with contrary := n }
    if was ≤ s.globals.contactorLimit ∧ s.globals.contactorLimit < n then
      (raise .contactorDisagree (some 3) s).note .contactorContrary
    else s
  else clearAlarm .contactorDisagree (some 3) (s.onContactor fun c => { c with contrary := 0 })

/-- The contactor checks of a cycle start, after the state changes of that cycle start (R147, R148, log
entry 49). -/
def contactorChecks (s : State) : State :=
  match s.role with
  | .drag => checkDisagree s
  | .walk => checkContrary (checkDisagree s)
  | .none | .cab | .hoist | .swing => s

/-! ### Permissive and bounds (R161, R162) -/

/-- READY, STEPPING or SETTLING. -/
def walkOwning (s : State) : Bool :=
  s.walk.state == .ready || s.walk.state == .stepping || s.walk.state == .settling

/-- STEPPING or SETTLING. -/
def walkInStep (s : State) : Bool := s.walk.state == .stepping || s.walk.state == .settling

/-- The walk permissive (R161). -/
def walkPermissive (s : State) : Bool :=
  walkOwning s && s.roleReports .hoist Bucket.grounded.code && s.roleReports .swing parkedForWalk
    && s.roleReports .drag Ownership.yielded.code

/-- The bounds of the walk: 0 and 0 while the permissive is false (R161). -/
def walkBounds (s : State) : Bounds :=
  if walkPermissive s then {} else { targetLo := 0, targetHi := 0, hardLo := 0, hardHi := 0 }

/-- WALK PERMISSIVE LOST (R162). -/
def permissiveCycle (s : State) : State :=
  if walkPermissive s then
    clearAlarm .walkPermissiveLost none (s.onWalk fun k => { k with permissiveLost := false })
  else if walkInStep s && !s.walk.permissiveLost then
    raiseQuiet .walkPermissiveLost none (s.onWalk fun k => { k with permissiveLost := true })
  else s

/-! ### The walk states (R149 to R155) -/

/-- The ring's current WALK MODE is SET (R71). -/
def walkModeSet (s : State) : Bool := s.ring.currentWalkMode

/-- The conditions of R150. -/
def mayAsk (s : State) : Bool :=
  walkModeSet s && s.alarms.mode == .run && s.dragSide
    && s.roleReports .hoist Bucket.grounded.code && s.roleReports .swing parkedForWalk
    && s.roleReports .drag Ownership.digging.code
    && decide (((s.roleRecord .drag).status.speed.natAbs : Int) ≤ Config.stillSpeed)

/-- PARKED at a cycle start: ask for the drag motors (R150). -/
def parkedCycle (s : State) : State :=
  if mayAsk s then
    match enqueue { kind := .xferAsk, target := toRole .drag s, words := [] } s with
    | (_, .refused) => s.countRefused
    | (s', _) => setWalkState .asking (s'.onWalk fun k => { k with askWait := 0 })
  else s

/-- An XFER-ABORT of the walk (TABLE 9-4). -/
def placeAbort (cause : Nat) (s : State) : State :=
  place { kind := .xferAbort, target := Config.broadcast, words := reasonWords cause } s

/-- ASKING at a cycle start (R151). -/
def askingCycle (s : State) : State :=
  let n := s.walk.askWait + 1
  let s := s.onWalk fun k => { k with askWait := n }
  if !walkModeSet s then setWalkState .parked (placeAbort causeWalkModeCleared s)
  else if s.params.walk.askWait ≤ n then
    (transferRefused detailNoAnswer (placeAbort causeAskWait s)).note .askWaitExpiry
  else s

/-- The step counter as XFER-DONE and XFER-RELEASE carry it. -/
def stepWords (s : State) : List Word := [BitVec.ofNat 16 s.walk.stepCounter]

/-- Entry to READY from TRANSFERRING (R153). -/
def enterReady (s : State) : State :=
  setRearm (place { kind := .xferDone, target := Config.broadcast, words := stepWords s }
    (setWalkState .ready s))

/-- TRANSFERRING at a cycle start (R152). -/
def transferringCycle (s : State) : State :=
  if s.walkSide then enterReady s
  else if s.globals.contactorLimit ≤ s.walk.stateCount then (enterFaulted 1 s).note .transferFailed
  else s

/-- The cam stands at its stow position (R153). -/
def camStowed (s : State) : Bool :=
  s.walk.referenced && decide ((angleDistance s.walk.circle.angle s.params.walk.stowAngle).natAbs
    ≤ s.params.walk.stowWindow)

/-- READY at a cycle start, in step 2 of R78: return the motors (R153, R154, R162). -/
def readyCycle (s : State) : State :=
  if !walkModeSet s && camStowed s && s.drive.brakeInput
      && decide ((s.drive.speed.natAbs : Int) ≤ Config.stillSpeed) then
    clearAlarm .walkPermissiveLost none (setWalkState .returning (setCoil false s))
  else s

/-- RETURNING at a cycle start (R154). The admitted returns stand before the XFER-RELEASE (log entry 48). -/
def returningCycle (s : State) : State :=
  if s.dragSide then
    let returned := returnAll s
    setWalkState .parked (place
      { kind := .xferRelease, target := toRole .drag s, words := stepWords s,
        rank := rankAfter .shareReturn s returned } returned)
  else if s.globals.contactorLimit ≤ s.walk.stateCount then (enterFaulted 2 s).note .transferFailed
  else s

/-- FAULTED at a cycle start (R155); the clears come in rising detail (log entry 49). -/
def faultedCycle (s : State) : State :=
  if !walkModeSet s && s.dragSide then
    [1, 2, 3].foldl (fun s d => clearAlarm .transferFailed (some d) s) (setWalkState .parked s)
  else s

/-- The transition of a cycle start, judged in the state found there. -/
def walkTransition (s : State) : State :=
  match s.walk.state with
  | .parked => parkedCycle s
  | .asking => askingCycle s
  | .transferring => transferringCycle s
  | .ready => readyCycle s
  | .stepping => s
  | .settling => s
  | .returning => returningCycle s
  | .faulted => faultedCycle s

/-- The step cycle count and STEP OVERTIME (R160). -/
def stepCycle (s : State) : State :=
  if walkInStep s then
    let was := s.walk.stepCount
    let n := satAdd Config.counterMax was 1
    let s := s.onWalk fun k => { k with stepCount := n }
    if was < s.params.walk.stepLimit ∧ s.params.walk.stepLimit ≤ n then
      (raiseQuiet .stepOvertime none s).note .stepOvertime
    else s
  else s

/-- The walk axis function in step 2 of R78: the cam, the counts, the state, the permissive (log entry 49). -/
def walkStep (s : State) : State :=
  let s := s.onWalk fun k =>
    { k with circle := circleCycle s.encoder s.drive.delta s.params.walk.countsPerRev k.circle,
             stateCount := satAdd Config.counterMax k.stateCount 1 }
  permissiveCycle (walkTransition (stepCycle s))

/-- READY to STEPPING, after stage 8 (R153). -/
def walkStart (s : State) : State :=
  if s.role = .walk ∧ s.walk.state = .ready ∧ s.drive.postTarget ≠ 0 then
    setWalkState .stepping (s.onWalk fun k => { k with stepCount := 0 })
  else s

/-! ### XFER bulletins taken (R149, R151, R152) -/

/-- The sender is the station number the machine table gives the DRAG role (R149). -/
def fromDrag (b : Bulletin) (s : State) : Bool := s.numberOf .drag == some b.sender.toNat

/-- An XFER-YIELD (R151, R152). -/
def walkYield (b : Bulletin) (s : State) : State :=
  if fromDrag b s ∧ s.walk.state = .asking then setWalkState .transferring (setCoil true s) else s

/-- An XFER-REFUSE (R151, R193). -/
def walkRefuse (b : Bulletin) (s : State) : State :=
  if fromDrag b s ∧ s.walk.state = .asking then transferRefused (reasonOf b.words) s else s

/-! ### Mark capture results (R157 to R159) -/

/-- The cam phase difference is in window (R158). -/
def phaseInWindow (p : WalkParams) (d : Option Int) : Bool :=
  d.any fun x => decide ((p.camMin : Int) ≤ x ∧ x ≤ p.camMax)

/-- A unit 0 result: the cam base, the step counter, the cam phase, and STEPPING to SETTLING (R157,
R158). -/
def walkTopCentre (r : CaptureResult) (s : State) : State :=
  let a := snapshotAngle s.walk.circle r.masterSnapshot s.params.walk.countsPerRev
  let phase := r.slave.map (·.difference)
  let s := s.onWalk fun k =>
    { k with circle := { k.circle with base := moveBase k.circle.base (-(a : Int)) },
             referenced := true, stepCounter := bump k.stepCounter, camPhase := phase }
  let s := if phaseInWindow s.params.walk phase then clearAlarm .camPhase none s
    else raiseQuiet .camPhase none s
  if s.walk.state = .stepping then setWalkState .settling s else s

/-- A unit 1 result: the end of a step (R159, R160). -/
def walkTubRest (s : State) : State :=
  if s.walk.state = .settling then
    let again := s.drive.postTarget != 0
    let s := s.onWalk fun k => { k with stepCount := if again then 0 else k.stepCount }
    clearAlarm .stepOvertime none (setWalkState (if again then .stepping else .ready) s)
  else s

end Sys2Proof.Machine
end

