-- ==== Sys2Proof/Machine/Capture.lean ====
section
/-! DEFINITION. The mark capture units (sections 2.7 and 2.8), the delivery of their results (TABLE 2-4), and
the 10 µs sample that finds their edges. -/

namespace Sys2Proof.Machine

/-- The selections of a unit (R31). -/
def captureSel (u : UnitIndex) (p : Params) : CaptureSel :=
  match u with
  | .unit0 => p.unit0
  | .unit1 => p.unit1

/-- A unit. -/
def State.captureUnit (u : UnitIndex) (s : State) : CaptureUnit :=
  match u with
  | .unit0 => s.unit0
  | .unit1 => s.unit1

/-- Change a unit. -/
def State.onUnit (u : UnitIndex) (s : State) (g : CaptureUnit → CaptureUnit) : State :=
  match u with
  | .unit0 => s.onUnit0 g
  | .unit1 => s.onUnit1 g

/-- Push a slave edge onto the front of the queue of 8 (R32). -/
def pushSlave (e : SlaveEdge) (c : CaptureUnit) : CaptureUnit :=
  { c with slaveQueue := (e :: c.slaveQueue).take Config.slaveQueueSize,
           slaveCount := inc16 c.slaveCount }

/-- The difference of two stamps in 10 µs units, clamped (R34). -/
def stampDifference (master slave : Stamp) (n : Nat) : Int :=
  clampInt (-2147483647) 2147483647
    (signedDiff master.cycle slave.cycle * n + ((master.offset : Int) - slave.offset))

/-- The matched slave edge of a master edge (R33). -/
def matchSlave (sel : CaptureSel) (c : CaptureUnit) (t : Stamp) (n : Nat) : Option SlaveMatch :=
  if sel.slaveSource = 0 then none
  else (c.slaveQueue[sel.lead]?).map fun e => ⟨e.time, e.snapshot, stampDifference t e.time n⟩

/-- The result record of a master edge (R33). -/
def captureResult (sel : CaptureSel) (c : CaptureUnit) (t : Stamp) (snapshot : DWord) (n : Nat) :
    CaptureResult :=
  { masterTime := t, masterSnapshot := snapshot, masterCount := inc16 c.masterCount,
    slave := matchSlave sel c t n,
    slaveEdges := (c.slaveCount + 65536 - c.recordedSlave) % 65536 }

/-- A unit after a master edge (R33). -/
def recordResult (r : CaptureResult) (c : CaptureUnit) : CaptureUnit :=
  { c with masterCount := r.masterCount, recordedSlave := c.slaveCount, lastResult := some r }

/-- Deliver a result to the role's axis function (R35, TABLE 2-4). -/
def deliverResult (u : UnitIndex) (r : CaptureResult) (s : State) : State :=
  match u with
  | .unit0 =>
    match s.role with
    | .hoist | .drag => ropeResult r.masterSnapshot s
    | .swing => swingResult r s
    | .walk => walkTopCentre r s
    | .none | .cab => s
  | .unit1 =>
    match s.role with
    | .walk => walkTubRest s
    | .none | .cab | .hoist | .drag | .swing => s

/-- A slave edge (R32); units capture from entry to JOINED to entry to HALTED (R31). -/
def slaveEdgeAt (u : UnitIndex) (s : State) : State :=
  if s.joined ∧ (captureSel u s.params).slaveSource ≠ 0 then
    s.onUnit u (pushSlave ⟨s.now, s.encoder⟩)
  else s

/-- A master edge (R33 to R35). -/
def masterEdgeAt (u : UnitIndex) (s : State) : State :=
  if s.joined then
    let r := captureResult (captureSel u s.params) (s.captureUnit u) s.now s.encoder s.units
    deliverResult u r (s.onUnit u (recordResult r))
  else s

/-! ### The 10 µs sample (R31, R88, R184) -/

/-- A change of sampled level in the selected direction, between two consecutive samples (R31). -/
def isEdge (rising before now : Bool) : Bool := before != now && now == rising

/-- A sample shows a unit's slave edge: on its discrete input, or on the encoder index, `index` being the
direction in which the index changed, if it did (R31). -/
def showsSlave (sel : CaptureSel) (before now : Byte) (index : Option Bool) : Bool :=
  if sel.slaveSource = 0 then false
  else if sel.slaveSource = 1 then
    isEdge sel.slaveRising (before.getLsbD sel.slaveInput) (now.getLsbD sel.slaveInput)
  else index == some sel.slaveRising

/-- A sample shows a unit's master edge (R31). -/
def showsMaster (sel : CaptureSel) (before now : Byte) : Bool :=
  isEdge sel.masterRising (before.getLsbD sel.masterInput) (now.getLsbD sel.masterInput)

/-- One unit at a sample: its slave edge is handled before its master edge (R31). -/
def captureAt (u : UnitIndex) (before : Byte) (index : Option Bool) (s : State) : State :=
  let sel := captureSel u s.params
  let s' := if showsSlave sel before s.inputs.din index then slaveEdgeAt u s else s
  if showsMaster sel before s.inputs.din then masterEdgeAt u s' else s'

/-- Both units at a sample, unit 0 first (log entry 45). -/
def captureEdges (before : Byte) (index : Option Bool) (s : State) : State :=
  captureAt .unit1 before index (captureAt .unit0 before index s)

/-- A sample of the inputs, `before` being the discrete inputs of the sample before it: the owned hook (R88),
the emergency input (R184), then the captured edges (log entry 45). -/
def sampleAfter (before : Byte) (index : Option Bool) (i : Inputs) (s : State) : State :=
  captureEdges before index (emergencySample (watchOwned { s with inputs := i }))

/-- A sample of the inputs after the one the state holds, the encoder index standing. -/
def sampleInputs (i : Inputs) (s : State) : State := sampleAfter s.inputs.din none i s

/-- A sample of the discrete inputs, the analogue channels standing. -/
def sampleDiscrete (din : Byte) (s : State) : State := sampleInputs { s.inputs with din } s

/-- The discrete inputs with input `k` at a level. -/
def withInput (din : Byte) (k : Fin 8) (level : Bool) : Byte :=
  if level then din ||| 1#8 <<< k.val else din &&& ~~~(1#8 <<< k.val)

/-- The sample at which input `k` has changed to a level, every other input standing. -/
def inputChange (k : Fin 8) (level : Bool) (s : State) : State :=
  sampleAfter (withInput s.inputs.din k !level) none
    { s.inputs with din := withInput s.inputs.din k level } s

/-- A slave edge of a unit on the line of its source: its input, or the encoder index (R31, R32). -/
def slaveEdge (u : UnitIndex) (s : State) : State :=
  let sel := captureSel u s.params
  if !s.joined || sel.slaveSource == 0 then s
  else if sel.slaveSource = 1 then inputChange sel.slaveInput sel.slaveRising s
  else sampleAfter s.inputs.din (some sel.slaveRising) s.inputs s

/-- A master edge of a unit on its input (R31, R33). -/
def masterEdge (u : UnitIndex) (s : State) : State :=
  let sel := captureSel u s.params
  if s.joined then inputChange sel.masterInput sel.masterRising s else s

end Sys2Proof.Machine
end

