-- ==== Sys2Proof/Machine/Chain.lean ====
section
/-! DEFINITION. The drive chain and the axis function together at a cycle start (R78), from entry to JOINED
to entry to HALTED. -/

namespace Sys2Proof.Machine

/-- The axis function in step 2 of R78. -/
def axisStep (s : State) : State :=
  match s.role with
  | .hoist | .drag => ropeStep s
  | .swing => swingStep s
  | .walk => walkStep s
  | .none | .cab => s

/-- The permissive hook (TABLE 5-3). -/
def axisPermissive (s : State) : Bool :=
  match s.role with
  | .walk => walkPermissive s
  | .none | .cab | .hoist | .drag | .swing => true

/-- The target and hard bounds the axis function supplies (TABLE 5-3). -/
def axisBounds (s : State) : Bounds :=
  match s.role with
  | .hoist | .drag => ropeBounds s
  | .swing => swingBounds s
  | .walk => walkBounds s
  | .none | .cab => {}

/-- What the axis function judges on the target entering stage 3 (R124, R141). -/
def axisJudge (s : State) : State :=
  match s.role with
  | .drag => tightBite s
  | .swing => swingRefusal s
  | .none | .cab | .hoist | .walk => s

/-- Steps 1 and 2 of R78; the demand goes to the share unit (R76). -/
def chainInputs (s : State) : State := axisStep (driveChecks (shareNeed (measure s)))

/-- The post-inhibit target of the cycle (R79, R80). -/
def chainTarget (s : State) : State :=
  s.onDrive fun d =>
    { d with postTarget := stageInhibits (axisPermissive s) s (stageReference s.ring.current) }

/-- The stages 3 to 8 (R81 to R88), from the post-inhibit target held. -/
def chainStages (s : State) : State :=
  let b := axisBounds s
  let f := finalOutput s b s.drive.postTarget
  let held := stalled s b s.drive.postTarget
  countStall held (s.onDrive fun d => { d with f, fieldWord := fieldWordOf f })

/-- The target the brake logic reads: the post-inhibit target (R90), and 0 at a swing under the walk limit,
whatever its handle (R140 and its worked sequence, log entry 40). -/
def brakeTarget (s : State) : Int :=
  if s.role = .swing ∧ walkLimit s then 0 else s.drive.postTarget

/-- Steps 3 to 5 of R78. -/
def chainOutputs (s : State) : State :=
  let s := chainStages (axisJudge (chainTarget s))
  driveOutputs (brakeLogic (brakeTarget s) s)

/-- What follows the frame: the drag's yield (R129), the walk's step (R153), the contactor checks (R147,
R148). -/
def chainAfter (s : State) : State :=
  (contactorChecks (walkStart (yieldJudge s))).onDrive fun d => { d with ran := true }

/-- The drive chain and the axis function at a cycle start (R78). -/
def chainCycle (s : State) : State :=
  if s.joined && s.role.isAxis then chainAfter (chainOutputs (chainInputs s)) else s

end Sys2Proof.Machine
end

