-- ==== Sys2Proof/Machine/Query.lean ====
section
/-! DEFINITION. The REPLY to a query (R49 to R54, TABLE 12-5). An item is answered with its item flag and its
content words, trailing words of 0 left out, or with none where the reply status is NONE. -/

namespace Sys2Proof.Machine

/-- A word of a number. -/
def natWord (n : Nat) : Word := BitVec.ofNat 16 n

/-- IDENTITY (R50). -/
def identityItem (s : State) : List Word :=
  [natWord Config.vendorCode, natWord Config.partCode,
   packWord [(8, Config.revision), (3, s.station), (3, s.role.code)], s.startup.signature]

/-- COUNTERS (R50, TABLE 1-11). -/
def countersItem (s : State) (group : Nat) : Option (List Word) :=
  let c := s.line.counters
  match group with
  | 0 => some ([c.sent, c.arbitrationLosses, c.bitErrors, c.checkErrors, c.formatErrors].map natWord)
  | 1 => some ([c.noTaker, c.expired, c.evicted, c.refused, c.statusSuperseded].map natWord)
  | 2 => some ([c.sequenceGaps, c.lateReferences, c.outOfWindow, s.time.paceJumps].map natWord ++
      [packWord [(1, s.time.alone.toNat), (7, min 127 s.alarms.lost),
        (8, if s.role = .cab then min 255 s.table.lost else 0)]])
  | _ => none

/-- PEER (R51): an ABSENT record answers age 255 and every other field 0. -/
def peerItem (s : State) (n : Nat) : Option (List Word) :=
  if 8 ≤ n then none
  else
    let p := s.peer n
    let x := p.status
    if p.heard then
      some [packWord [(1, 1), (8, p.age), (3, x.role.code), (2, x.mode.code), (2, severityCode x.severity)],
        packWord [(8, p.lastSeq.toNat), (3, x.axis), (1, x.calibrated.toNat), (1, x.brakeSet.toNat),
          (1, x.fresh.toNat), (1, x.overflow.toNat), (1, p.foreign.toNat)],
        natWord p.gaps, natWord x.position, signedWord x.speed]
    else some [packWord [(1, 0), (8, 255)]]

/-- ALARM (R51). -/
def alarmItem (s : State) (n : Nat) : Option (List Word) :=
  (s.alarms.list[n]?).map fun r =>
    packWord ([(6, r.code.number), (2, r.code.severity.code), (2, r.state.code)] ++ detailFields r.detail)
      :: r.raised.words ++ [packWord [(8, r.repeats)]]

/-- A loan record as 24 bits (TABLE 12-5). -/
def loanBits (borrowed : Bool) (peer count term : Nat) : Nat :=
  2 ^ 19 + borrowed.toNat * 2 ^ 18 + (peer % 8) * 2 ^ 15 + (count % 128) * 2 ^ 8 + term % 256

/-- The combined loan list (R52). -/
def loanList (h : Share) : List Nat :=
  (h.lentRecords.map fun r => loanBits false r.peer r.count r.term) ++
    h.borrowedRecords.map fun r => loanBits true r.peer r.count r.term

/-- LOANS (R52). -/
def loansItem (s : State) (i : Nat) : Option (List Word) :=
  let h := s.share
  let l := loanList h
  if i = 0 ∨ 2 * i < l.length then
    let a := l.getD (2 * i) 0
    let b := l.getD (2 * i + 1) 0
    some [packWord [(7, h.own), (7, h.borrowed)], packWord [(7, h.lent)], natWord (a / 256),
      natWord (a % 256 * 256 + b / 65536), natWord (b % 65536)]
  else none

/-- RING (R52). -/
def ringItem (s : State) : Option (List Word) :=
  if s.role.isAxis then
    some [packWord [(7, s.ring.slots.length), (5, s.ring.hold), (1, s.ring.starved.toNat),
        (1, s.ring.rearm.toNat)], signedWord s.ring.last, natWord s.ring.rewritten]
  else none

/-- A unit's part 0 (R53). -/
def capturePart0 (c : CaptureUnit) : List Word :=
  [natWord c.masterCount, natWord c.slaveCount,
   packWord [(4, c.slaveQueue.length), (1, c.lastResult.isSome.toNat)],
   natWord ((c.lastResult.map (·.slaveEdges)).getD 0)]

/-- A unit's part 1 (R53). -/
def capturePart1 (c : CaptureUnit) : List Word :=
  match c.lastResult with
  | none => []
  | some r => r.masterTime.words ++ words32 r.masterSnapshot

/-- A unit's part 2: the slave fields under one present-mark, the item flag (R53). -/
def capturePart2 (c : CaptureUnit) : Bool × List Word :=
  match c.lastResult.bind (·.slave) with
  | none => (false, [])
  | some m =>
    (true, packWord [(3, m.time.cycle.toNat % 8), (13, m.time.offset)] ::
      (words32 m.snapshot ++ words32 (signedDWord m.difference)))

/-- CAPTURE (R53). -/
def captureItem (s : State) (i part : Nat) : Option (Bool × List Word) :=
  let unit : Option CaptureUnit := match i with
    | 0 => some s.unit0
    | 1 => some s.unit1
    | _ => none
  unit.bind fun c =>
    match part with
    | 0 => some (false, capturePart0 c)
    | 1 => some (false, capturePart1 c)
    | 2 => some (capturePart2 c)
    | _ => none

/-- AXIS at HOIST (R54). -/
def axisHoist (s : State) : List Word :=
  natWord s.rope.position :: words32 (signedDWord s.rope.base) ++
    [packWord [(1, s.rope.calibrated.toNat), (2, s.rope.bucket.code), (1, (ropeCreepLimit s).toNat),
       (1, s.rope.overload.toNat)], natWord s.rope.load]

/-- AXIS at DRAG (R54). -/
def axisDrag (s : State) : List Word :=
  natWord s.rope.position :: words32 (signedDWord s.rope.base) ++
    [packWord [(1, s.rope.calibrated.toNat), (2, s.rope.ownership.code), (1, s.rope.tightLine.toNat)],
     natWord s.rope.load]

/-- AXIS at SWING (R54, R144). -/
def axisSwing (s : State) : List Word :=
  [natWord s.swing.circle.angle, natWord s.swing.circle.base,
   packWord [(1, s.swing.calibrated.toNat), (1, s.swing.parked.toNat)], signedWord s.swing.markError]

/-- AXIS at WALK (R54). -/
def axisWalk (s : State) (part : Nat) : Option (Bool × List Word) :=
  match part with
  | 0 => some (false,
      [packWord [(3, s.walk.state.code), (1, s.dsClosed.toNat), (1, s.wsClosed.toNat),
         (1, s.walk.coil.toNat), (1, s.walk.referenced.toNat)],
       natWord s.walk.stepCounter, natWord s.walk.circle.angle])
  | 1 => some (s.walk.camPhase.isSome,
      [natWord s.walk.stateCount, natWord s.walk.stepCount] ++
        words32 (signedDWord (s.walk.camPhase.getD 0)))
  | _ => none

/-- AXIS at CAB: a kept bulletin (R54), its payload words as they came (log entry 54). -/
def axisCab (o : Option Overheard) (part : Nat) : Option (Bool × List Word) :=
  o.bind fun b =>
    match part with
    | 0 => some (false, [packWord [(3, b.sender.toNat), (4, b.target.toNat), (5, b.kind.code),
        (1, b.delivered.toNat)], payloadWord b.words 0, payloadWord b.words 1])
    | 1 => some (false, b.words.drop 2)
    | _ => none

/-- AXIS (R54, TABLE 3-6). -/
def axisItem (s : State) (i part : Nat) : Option (Bool × List Word) :=
  match s.role with
  | .hoist => if i = 0 ∧ part = 0 then some (false, axisHoist s) else none
  | .drag => if i = 0 ∧ part = 0 then some (false, axisDrag s) else none
  | .swing => if i = 0 ∧ part = 0 then some (false, axisSwing s) else none
  | .walk => if i = 0 then axisWalk s part else none
  | .cab =>
    match i with
    | 0 => axisCab s.cab.xferHeard part
    | 1 => axisCab s.cab.shareHeard part
    | _ => none
  | .none => none

/-- An item that has only part 0 and no item flag. -/
def plainItem (part : Nat) (words : Option (List Word)) : Option (Bool × List Word) :=
  if part = 0 then words.map fun w => (false, w) else none

/-- The item flag and contents of a query, or none (TABLE 3-5). -/
def itemContents (s : State) (q : Query) : Option (Bool × List Word) :=
  match q.item with
  | 0 => plainItem q.part (if q.index = 0 then some (identityItem s) else none)
  | 1 => plainItem q.part (countersItem s q.index)
  | 2 => plainItem q.part (peerItem s q.index)
  | 3 => plainItem q.part (alarmItem s q.index)
  | 4 => plainItem q.part (loansItem s q.index)
  | 5 => plainItem q.part (if q.index = 0 then ringItem s else none)
  | 6 => captureItem s q.index q.part
  | 7 => axisItem s q.index q.part
  | _ => none

/-- The payload of the REPLY to a query (R49). -/
def replyWords (s : State) (q : Query) : List Word :=
  let header (none flag : Bool) : Word :=
    packWord [(4, q.item), (2, q.part), (1, none.toNat), (1, flag.toNat), (8, q.index)]
  match itemContents s q with
  | none => header true false :: List.replicate 5 0
  | some (flag, words) => header false flag :: (words ++ List.replicate 5 0).take 5

/-- Answer the oldest query at a cycle start; one whose REPLY is refused stays at the head (R18). -/
def answerQuery (s : State) : State :=
  match s.line.queries with
  | [] => s
  | q :: rest =>
    match enqueue { kind := .reply, target := q.tag.setWidth 4, words := replyWords s q } s with
    | (s', .refused) => s'
    | (s', _) => s'.onLine fun l => { l with queries := rest }

end Sys2Proof.Machine
end

