-- ==== Sys2Proof/Machine/Ring.lean ====
section
/-! DEFINITION. The reference ring (section 4.2). -/

namespace Sys2Proof.Machine

/-- The slot of a tag (R64). -/
def slotOf (tag : Word) : Nat := tag.toNat % Config.ringSize

/-- The entry a slot holds. -/
def slotEntry (n : Nat) (slots : List RingEntry) : Option RingEntry :=
  slots.find? fun e => slotOf e.tag == n

/-- The slots with slot `n` emptied. -/
def emptySlot (n : Nat) (slots : List RingEntry) : List RingEntry :=
  slots.filter fun e => slotOf e.tag != n

/-- Put an entry among entries of other slots, in rising slot number. -/
def putSorted (e : RingEntry) : List RingEntry → List RingEntry
  | [] => [e]
  | x :: rest => if slotOf e.tag < slotOf x.tag then e :: x :: rest else x :: putSorted e rest

/-- Write an entry to its slot, replacing whatever the slot held (R64). -/
def writeSlot (e : RingEntry) (slots : List RingEntry) : List RingEntry :=
  putSorted e (emptySlot (slotOf e.tag) slots)

/-- The filled slots stand in rising slot number: the list's canonical form. -/
def Ring.wf (slots : List RingEntry) : Bool :=
  decide (slots.Pairwise fun a b => slotOf a.tag < slotOf b.tag)

/-- The low 16 bits of a cycle number. -/
def low16 (c : DWord) : Word := c.setWidth 16

/-- The distance of a tag ahead of a cycle number, modulo 65,536 (R64). -/
def tagDistance (tag : Word) (c : DWord) : Nat := (tag - low16 c).toNat

/-- Store an entry within the window, counting a rewrite (R64). -/
def storeEntry (e : RingEntry) (r : Ring) : Ring :=
  { r with slots := writeSlot e r.slots,
           rewritten := if (slotEntry (slotOf e.tag) r.slots).any fun x => x.tag == e.tag then
             bump r.rewritten else r.rewritten }

/-- Rule on an arriving REFERENCE (TABLE 4-6). -/
def ruleReference (e : RingEntry) (s : State) : State :=
  let d := tagDistance e.tag s.time.cycle
  if d = 0 ∨ 32768 ≤ d then s.count fun c => { c with lateReferences := bump c.lateReferences }
  else if d ≤ s.globals.window then s.onRing (storeEntry e)
  else s.count fun c => { c with outOfWindow := bump c.outOfWindow }

/-- A REFERENCE at the ring: only while the timer runs, and only from the CAB station (R63, R70). -/
def takeReference (b : Bulletin) (s : State) : State :=
  if s.role.isAxis ∧ s.time.running ∧ s.numberOf .cab = some b.sender.toNat then
    ruleReference ((ReferenceFields.ofWords b.words).entryFor s.role) s
  else s

/-- Consume the entry of the cycle that begins (R65, R68, R69). -/
def consumeEntry (e : RingEntry) (r : Ring) : Ring :=
  let r : Ring :=
    { r with hold := 0, starved := false, currentWalkMode := e.walkMode, lastWalkMode := e.walkMode }
  match e.value with
  | some v =>
    if r.rearm then { r with last := v, current := 0, rearm := v != 0 }
    else { r with last := v, current := v }
  | none => { r with last := 0, current := 0, rearm := true }

/-- A cycle that misses (R66): held, or 0 and starved at the hold limit. -/
def missEntry (limit : Nat) (r : Ring) : Ring :=
  let r : Ring := { r with currentWalkMode := r.lastWalkMode }
  if r.hold < limit then
    { r with hold := r.hold + 1, current := if r.rearm then 0 else r.last }
  else { r with current := 0, starved := true }

/-- Empty every slot whose tag does not lie 1 to W ahead (R67). -/
def emptyOutside (c : DWord) (window : Nat) (slots : List RingEntry) : List RingEntry :=
  slots.filter fun e => decide (1 ≤ tagDistance e.tag c ∧ tagDistance e.tag c ≤ window)

/-- The ring at a cycle start, for the cycle that begins (R65 to R68). Re-arm set by an invalid entry has
already zeroed the current reference. Through LISTEN the current reference is 0, also where R68 has cleared
re-arm there (R70, log entry 37). -/
def ringCycle (s : State) : State :=
  if s.role.isAxis then
    let c := s.time.cycle
    let n := slotOf (low16 c)
    let found := (slotEntry n s.ring.slots).filter fun e => e.tag == low16 c
    let was := s.ring.starved
    let s := s.onRing fun r =>
      let r := match found with
        | some e => consumeEntry e r
        | none => missEntry s.params.holdLimit r
      { r with slots := emptyOutside c s.globals.window (emptySlot n r.slots),
               current := if s.joined then r.current else 0 }
    if was ∧ !s.ring.starved then clearAlarm .referenceStarved none s
    else if !was ∧ s.ring.starved then (raiseQuiet .referenceStarved none s).note .referenceStarved
    else s
  else s

end Sys2Proof.Machine
end

