-- ==== Sys2Proof/Machine/CycleStart.lean ====
section
/-! DEFINITION. The cycle start (R23, TABLE 2-6a): the work of every block, and the cycle timer's expiry. -/

namespace Sys2Proof.Machine

/-! ### Line unit (R11, R17, R20) -/

/-- A REFERENCE whose slot cycle has begun or passed (R17). -/
def slotPassed (c : DWord) (tag : Word) : Bool :=
  let d := tagDistance tag c
  d == 0 || decide (32768 ≤ d)

/-- The wait of an entry has run out at this cycle start (R17). -/
def waitOut (c : DWord) (e : Entry) : Bool :=
  match e.kind with
  | .reference => e.tag.any (slotPassed c)
  | .status | .pace => false
  | _ => decide (Config.waitLimit ≤ e.waited)

/-- Add 1 to an entry's count, unless it was placed at this instant, the 10 µs unit of this cycle start (R17,
log entry 27). -/
def Entry.aged (e : Entry) : Entry := if e.rank = 0 then { e with waited := e.waited + 1 } else e

/-- An IN FLIGHT entry whose wait runs out is removed at the end of its attempt (R15). -/
def Entry.markExpired (c : DWord) (e : Entry) : Entry :=
  if waitOut c e ∧ e.due = none then { e with due := some .expired } else e

/-- An entry is removed by ageing at this cycle start. -/
def expiresNow (c : DWord) (e : Entry) : Bool := !e.inFlight && e.rank == 0 && waitOut c e

/-- An entry expires: counted, its owner told (R17). -/
def entryExpired (s : State) (e : Entry) : State :=
  outcomeFailed e (s.count fun k => { k with expired := bump k.expired })

/-- Age the transmit queue (R17); the owners of the entries that expire are told in queue order (log
entry 46). -/
def ageQueue (s : State) : State :=
  let c := s.time.cycle
  let q := s.line.queue.map Entry.aged
  let gone := q.filter (expiresNow c)
  let left := (q.filter fun e => !expiresNow c e).map fun e =>
    if e.inFlight then e.markExpired c else e
  gone.foldl entryExpired (s.onLine fun l => { l with queue := left })

/-- The count toward clearing DUPLICATE STATION; its end drops a raise still held (R11, log entry 31). -/
def duplicateCycle (s : State) : State :=
  if !s.line.dupCounting then s
  else if Config.duplicateStarts ≤ s.line.dupCount + 1 then
    (clearAlarm .duplicateStation none (s.onLine fun l =>
      { l with dupCount := 0, dupCounting := false, dupHeld := false })).note .duplicateStationClear
  else s.onLine fun l => { l with dupCount := l.dupCount + 1 }

/-- The count toward the line rejoin (R20). -/
def faultCycle (s : State) : State :=
  if s.line.state = .lineFault then
    let n := s.line.faultStarts + 1
    let s := s.onLine fun l => { l with faultStarts := n }
    if Config.rejoinStarts ≤ n then
      (enterLoopback (s.onLine fun l => { l with state := .rejoining })).note .lineRejoin
    else s
  else s

/-- The line unit at a cycle start. -/
def lineCycle (s : State) : State := faultCycle (duplicateCycle (ageQueue s))

/-! ### Long cycle (R29, R171, R179) -/

/-- The long-cycle count; an event is noted where this cycle start is a long cycle (R29). -/
def isLongCycle (s : State) : Bool := decide (s.globals.longLength ≤ s.time.longCount + 1)

/-- Advance the long-cycle counter (R29). -/
def countLong (s : State) : State :=
  s.onTime fun t => { t with longCount := if isLongCycle s then 0 else t.longCount + 1 }

/-- One step of the refresh round (R171); the position goes from 23 to 0 (R165, log entry 43). -/
def refreshRound (s : State) : State :=
  let n := s.alarms.list.length
  if s.joined ∧ 0 < n then
    let k := if s.alarms.refresh < n then s.alarms.refresh else 0
    let s' := match s.alarms.list[k]? with
      | some r => reportAlarm r false true s
      | none => s
    s'.onAlarms fun a =>
      { a with refresh := if k + 1 < Config.alarmListSize then k + 1 else 0 }
  else s

/-- Age the machine alarm table and purge it (R179). -/
def ageTable (t : MachineTable) : MachineTable :=
  refreshFirstOut { t with records :=
    (t.records.map fun r => { r with age := r.age + 1 }).filter fun r => decide (r.age < Config.purgeAge) }

/-- The machine alarm table at a long cycle of the CAB station (R179). -/
def tableLongCycle (s : State) : State :=
  if s.role = .cab then
    let purged := s.table.records.any fun r => decide (Config.purgeAge ≤ r.age + 1)
    let s := s.onTable ageTable
    if purged then s.note .tablePurge else s
  else s

/-- The work of a long cycle. -/
def longCycleWork (s : State) : State :=
  (tableLongCycle (refreshRound (shareLongCycle s))).note .longCycle

/-! ### The cycle start -/

/-- The status point of a cycle with O = 0, after the rest of that cycle start's work (R28). -/
def statusPointAtStart (s : State) : State :=
  if s.statusOffset = 0 then statusPointNow (settle s) else s

/-- The line unit, the picture and, at a long cycle, its work: the first part of a cycle start. -/
def cycleCounts (s : State) : State :=
  let long := isLongCycle s
  let s := pictureCycle (countLong (lineCycle s))
  if long then longCycleWork s else s

/-- The ring, the cab, the drive chain and the share unit: the second part of a cycle start. -/
def cycleControl (s : State) : State :=
  shareCycle (chainCycle (cabCycle (annunciatorCycle (ringCycle s))))

/-- The work of every block at a cycle start whose cycle number and offset stand set (R23, TABLE 2-6a). The
order among the blocks is log entry 3. -/
def cycleWork (s : State) : State :=
  statusPointAtStart (answerQuery (cycleControl (cycleCounts s)))

/-- A cycle start for cycle `c`: offset 0, the inputs sampled, the work done. -/
def cycleStartFor (c : DWord) (i : Inputs) (s : State) : State :=
  cycleWork (sampleInputs i (s.onTime fun t =>
    { t with cycle := c, offset := 0, running := true, statusDone := false }))

/-- Place the PACE of the present cycle; it stands before what the cycle start's work places (R15, R23). -/
def placePace (s : State) : State :=
  settleWhere (fun e => e.kind == .pace)
    (place { kind := .pace, target := Config.broadcast, words := words32 s.time.cycle } s)

/-- The cycle timer expires: the next cycle, its PACE, and its cycle start (R23); the units up to its last have
passed (log entries 4 and 32). -/
def timerExpiry (i : Inputs) (s : State) : State :=
  if s.time.running then
    let c := s.time.cycle + 1
    let s := (elapse (s.units - 1 - s.time.offset) s).onTime fun t =>
      { t with cycle := c, offset := 0, statusDone := false }
    cycleStartFor c i (placePace s)
  else s

end Sys2Proof.Machine
end

