-- ==== Sys2Proof/Machine/Line.lean ====
section
/-! DEFINITION. The line unit's sending side (R5 to R7, R13 to R15, R19): the offer, the end of an attempt,
the outcomes and what their owners do, and the RESTART rule that a delivered RESTART of the cab shares
with a taken one. -/

namespace Sys2Proof.Machine

/-! ### RESTART (R175, R176) -/

/-- The first condition of R175 that fails. -/
def restartFailure (s : State) : Option Nat :=
  if s.tripStands then some 1
  else if s.share.fresh then some 2
  else if s.role.isAxis && !s.drive.brakeInput then some 3
  else none

/-- A RESTART is accepted (R175, R180). -/
def acceptRestart (s : State) : State :=
  let s := setRearm (s.onAlarms fun a => { a with mode := .run })
  if s.role = .cab then
    s.onTable fun t => { t with episode := .closed, firstOut := none, restartTime := s.now }
  else s

/-- A RESTART at the alarm unit (R165, R175, R176). -/
def applyRestart (s : State) : State :=
  if !s.joined || s.alarms.mode == .run then s
  else match restartFailure s with
    | some d => raiseThenClear .restartRefused (some d) s
    | none => acceptRestart s

/-! ### The cab's ALARM-ACK delivered (R169, R179, R180) -/

/-- Apply an ack to a table record: none when it is removed. -/
def ackTableRecord (t : Stamp) (r : TableRecord) : Option TableRecord :=
  if r.raised.le t then
    match r.state with
    | .activeUnack => some { r with state := .activeAck }
    | .activeAck => some r
    | .clearedUnack => none
  else some r

/-- The first-out names a record that this ack removes. -/
def ackRemoves (t : Stamp) (records : List TableRecord) (f : FirstOut) : Bool :=
  records.any fun r => sameKey f.source f.code f.detail r && (ackTableRecord t r).isNone

/-- Apply an ack to the table and freeze a floating episode, whenever the ack was placed. The copy holds even when
the record it names is removed by that ack (R180, log entry 12). -/
def ackTable (t : Stamp) (m : MachineTable) : MachineTable :=
  let m' := { m with records := m.records.filterMap (ackTableRecord t) }
  if m.episode = .floating then
    { m' with episode := .frozen,
              firstOut := if m.firstOut.any (ackRemoves t m.records) then m.firstOut
                else evaluateFirstOut m' }
  else m'

/-- The cab's own ALARM-ACK at its delivery (R179). -/
def ackDelivered (t : Stamp) (s : State) : State :=
  if s.role = .cab then ackList t (s.onTable (ackTable t)) else s

/-! ### In-step count (R25) -/

/-- A PACE in step, taken or delivered (R25). -/
def inStepPace (s : State) : State :=
  let n := bump8 s.time.inStep
  let s := s.onTime fun t => { t with inStep := n }
  if n = Config.inStepClear then clearAlarm .paceJump none s else s

/-! ### Attempts (R13 to R15, R19) -/

/-- Take the IN FLIGHT entry out of the queue. -/
def dropFlight (s : State) : State :=
  s.onLine fun l => { l with queue := l.queue.filter fun e => !e.inFlight, arbitration := 0 }

/-- The IN FLIGHT entry is WAITING again, changed by `g`. -/
def landFlight (g : Entry → Entry) (s : State) : State :=
  s.onLine fun l =>
    { l with queue := l.queue.map fun e => if e.inFlight then { g e with inFlight := false } else e,
             arbitration := 0 }

/-- The lowest class among the WAITING entries. -/
def lowestClass (q : List Entry) : Option Nat :=
  q.foldl (fun acc e => if e.inFlight then acc else some (min e.kind.cls (acc.getD 3))) none

/-- The place of the entry to offer: the lowest class, and in it the earliest placed (R15). -/
def offerPlace (q : List Entry) : Option Nat :=
  (lowestClass q).bind fun c => q.findIdx? fun e => !e.inFlight && e.kind.cls == c

/-- Offer an entry at an idle in ACTIVE (R15). A STATUS carries its own sequence number; any other kind
carries the number that holds when its attempt begins, past the arbitration field (R5, R13). -/
def offer (s : State) : State :=
  if s.line.state = .active ∧ (flight s.line.queue).isNone then
    match offerPlace s.line.queue with
    | none => s
    | some k =>
      s.onLine fun l =>
        { l with queue := l.queue.modify k fun e => { e with inFlight := true },
                 arbitration := arbitrationUnits s.startup.rate,
                 txSeq := match l.queue[k]? with
                   | some e => if e.kind = .status then e.seq else s.picture.seq
                   | none => l.txSeq }
  else s

/-- A removal that fell due in flight, once the attempt has not delivered it (R15). -/
def applyDue (e : Entry) (d : Due) (s : State) : State :=
  match d with
  | .replaced => countReplaced e.kind s
  | .expired => entryExpired s e

/-- The entry IN FLIGHT goes back to waiting, or leaves where a removal has fallen due. -/
def flightEnds (e : Entry) (g : Entry → Entry) (s : State) : State :=
  match e.due with
  | none => landFlight g s
  | some d => applyDue e d (dropFlight s)

/-- A broadcast ends "no taker" (R14). -/
def broadcastLost (s : State) : State :=
  let n := satAdd Config.aloneCount s.line.noTakerRun 1
  let s := s.onLine fun l => { l with noTakerRun := n }
  if Config.aloneCount ≤ n then
    raiseQuiet .lineAlone none (s.onTime fun t => { t with alone := true })
  else s

/-- A broadcast is delivered (R14). -/
def broadcastDelivered (s : State) : State :=
  let was := s.time.alone
  let s := (s.onLine fun l => { l with noTakerRun := 0 }).onTime fun t => { t with alone := false }
  if was then clearAlarm .lineAlone none s else s

/-- The fourth attempt ends without delivery (R13). -/
def noTaker (e : Entry) (s : State) : State :=
  let s := (dropFlight s).count fun c => { c with noTaker := bump c.noTaker }
  outcomeFailed e (if e.kind.isBroadcast then broadcastLost s else s)

/-- An attempt ends with no acknowledge or with a bit error (R13). -/
def attemptFails (e : Entry) (s : State) : State :=
  if Config.attempts ≤ e.attempts + 1 then noTaker e s
  else flightEnds e (fun e => { e with attempts := e.attempts + 1 }) s

/-- What the owner does at a delivery (R12, TABLE 1-7). -/
def outcomeDelivered (e : Entry) (s : State) : State :=
  match e.kind with
  | .pace => inStepPace s
  | .status => statusDelivered e s
  | .shareGrant => grantDelivered e s
  | .shareReturn => returnDelivered e s
  | .xferYield => yieldDelivered e s
  | .alarmAck => ackDelivered (stampAt e.words 0) s
  | .restart => applyRestart s
  | _ => s

/-- An attempt ends delivered: LINE ALONE clears before LINE FAULT, and the owner acts last (R13, R14, R20, log
entry 46). -/
def attemptDelivered (e : Entry) (s : State) : State :=
  let s := (dropFlight s).count fun c => { c with sent := bump c.sent }
  let s := if e.kind.isBroadcast then broadcastDelivered s else s
  outcomeDelivered e (clearAlarm .lineFault none s)

/-- An entry is flushed at entry to LINE FAULT (R19). -/
def flushEntry (s : State) (e : Entry) : State := outcomeFailed e s.countRefused

/-- Entry to LINE FAULT (R19); the owners of the flushed entries are told in queue order (log entry 46). -/
def enterLineFault (s : State) : State :=
  let q := s.line.queue
  let s := s.onLine fun l =>
    { l with state := .lineFault, queue := [], queries := [], bitErrorRun := 0, faultStarts := 0 }
  raiseQuiet .lineFault none (q.foldl flushEntry s)

/-- A bit error ends the attempt, and a sixteenth in a row then enters LINE FAULT (R7, R19, log entry 46). -/
def bitErrorEnds (e : Entry) (s : State) : State :=
  let n := s.line.bitErrorRun + 1
  let s := (s.onLine fun l => { l with bitErrorRun := n }).count fun c =>
    { c with bitErrors := bump c.bitErrors }
  let s := attemptFails e s
  if Config.bitErrorLimit ≤ n then enterLineFault s else s

/-! ### The commands -/

/-- LINE_IDLE_OFFER (R15). -/
def execLineIdleOffer (s : State) : Host.Outcome State Fault Refusal := .next (offer (begin s))

/-- ARBITRATION_LOSS (R6); without an entry IN FLIGHT nothing was lost. -/
def execArbitrationLoss (s : State) : Host.Outcome State Fault Refusal :=
  let s := begin s
  match flight s.line.queue with
  | none => .next s
  | some e => .next (flightEnds e id
      (s.count fun c => { c with arbitrationLosses := bump c.arbitrationLosses }))

/-- BIT_ERROR (R7). -/
def execBitError (s : State) : Host.Outcome State Fault Refusal :=
  let s := begin s
  match flight s.line.queue with
  | none => .next s
  | some e => .next (bitErrorEnds e s)

/-- ATTEMPT_END (R13): the acknowledge slot read. -/
def execAttemptEnd (acked : Bool) (s : State) : Host.Outcome State Fault Refusal :=
  let s := begin s
  match flight s.line.queue with
  | none => .next s
  | some e =>
    let s := s.onLine fun l => { l with bitErrorRun := 0 }
    .next (if acked then attemptDelivered e s else attemptFails e s)

end Sys2Proof.Machine
end

