-- ==== Sys2Proof/Machine/Receive.lean ====
section
/-! DEFINITION. The line unit's receiving side (R8 to R12, R18, R24): judging a bulletin, the filter, the
acknowledge slot, and what the owning block does with each kind. -/

namespace Sys2Proof.Machine

/-! ### Taking (R8 to R11) -/

/-- The line unit reads the line: not in QUIET, REJOINING or HALTED (TABLE 1-1). -/
def reads (s : State) : Bool :=
  s.line.state == .listening || s.line.state == .active || s.line.state == .lineFault

/-- Kinds every broadcast filter passes (R10). -/
def alwaysPasses : Kind → Bool
  | .trip | .restart | .pace | .alarmAck => true
  | _ => false

/-- A kind is in the subscription set of a machine table entry. -/
def subscribes (e : TableEntry) (k : Kind) : Bool := e.subs.getLsbD k.code

/-- A role handles a directed kind (TABLE 1-6). -/
def Role.handles (r : Role) (k : Kind) : Bool :=
  match k with
  | .shareAsk | .shareGrant | .shareRefuse | .shareReturn | .shareRecall | .query => r != .none
  | .xferAsk | .xferRelease => r == .drag
  | .xferYield | .xferRefuse => r == .walk
  | _ => false

/-- The subscription filter (R10). -/
def filterPasses (k : Kind) (b : Bulletin) (s : State) : Bool :=
  if k.isBroadcast then
    alwaysPasses k || s.role == .cab || subscribes (s.entryOf s.station) k
  else b.target.toNat == s.station && s.role.handles k

/-- The query queue takes a QUERY only while it holds fewer than 4 (R9, R18). -/
def hasRoom (k : Kind) (s : State) : Bool :=
  k != .query || decide (s.line.queries.length < Config.querySize)

/-- A bulletin bearing this station's own number (R11). -/
def duplicateHeard (s : State) : State :=
  let s := s.onLine fun l => { l with dupCount := 0, dupCounting := true }
  if s.line.state = .listening then s.onLine fun l => { l with dupHeld := true }
  else raiseQuiet .duplicateStation none s

/-- The cab function keeps a bulletin as its most recent of its group (R10, R156), with its payload words as they
came (DEDUCED, log entry 54). -/
def keepAtCab (k : Kind) (b : Bulletin) (delivered : Bool) (s : State) : State :=
  let o : Overheard := { sender := b.sender, target := b.target, kind := k, words := b.words, delivered }
  if k.isXfer then s.onCab fun c => { c with xferHeard := some o }
  else if k.isShare then s.onCab fun c => { c with shareHeard := some o }
  else s

/-- The CAB station overhears a directed bulletin to another station (R10). -/
def overhears (k : Kind) (b : Bulletin) (s : State) : Bool :=
  s.role == .cab && s.joined && s.line.state == .active && !k.isBroadcast
    && b.target.toNat != s.station && (k.isXfer || k.isShare)

/-- Drive or leave the acknowledge slot of the bulletin read. -/
def setAck (on : Bool) (s : State) : State := s.onLine fun l => { l with ackSlot := on }

/-- A bulletin whose format and check hold and whose sender is another party (R9, R10): taken and
acknowledged in ACTIVE, in the other reading states passed on where it is a broadcast. -/
def judge (k : Kind) (b : Bulletin) (act : State → State) (s : State) : State :=
  if filterPasses k b s && hasRoom k s then
    if s.line.state = .active then act (setAck true s)
    else if k.isBroadcast then act s
    else s
  else if overhears k b s then keepAtCab k b b.otherAck s
  else s

/-- A bulletin of a known kind read from the line (R8, R11). -/
def receive (k : Kind) (b : Bulletin) (act : State → State) (s : State) : State :=
  let s := setAck false s
  if !reads s then s
  else if !formatHolds k b.target b.words.length then
    s.count fun c => { c with formatErrors := bump c.formatErrors }
  else if k != .query && b.sender.toNat == s.station then duplicateHeard s
  else judge k b act s

/-! ### What the owning blocks do -/

/-- A TRIP bulletin (R165, R173, R178, R193). -/
def takeTrip (b : Bulletin) (s : State) : State :=
  if s.joined then
    let s := enterTripped s
    if s.role = .cab then
      match tripOf b.words with
      | none => s
      | some (code, detail, raised) => s.onTable (mergeTrip b.sender.toNat code detail raised)
    else s
  else s

/-- The step error of a PACE (section 2.2). -/
def stepError (c own : DWord) : Int := (c - own - 1#32).toInt

/-- Withdraw this station's waiting PACE, with no counter changed (R17). -/
def withdrawPace (s : State) : State :=
  s.onLine fun l => { l with queue := l.queue.filter fun e => !(e.kind == .pace && !e.inFlight) }

/-- A jump (R25). -/
def paceJump (c : DWord) (s : State) : State :=
  raiseQuiet .paceJump none (s.onTime fun t =>
    { t with cycle := c, offset := 0, paceJumps := bump t.paceJumps, inStep := 0 })

/-- A PACE at the line time unit (TABLE 2-1, R25). The in-step count and a clear of PACE JUMP come before the
work of the cycle start that the same PACE brings (log entry 35). -/
def takePace (b : Bulletin) (i : Inputs) (s : State) : State :=
  let s := withdrawPace s
  let c := dword (payloadWord b.words 0) (payloadWord b.words 1)
  if !s.time.running then
    if s.startup.state = .listen then cycleStartFor c i s else s
  else
    let e := stepError c s.time.cycle
    if e = -1 then inStepPace (s.onTime fun t => { t with offset := 0 })
    else if e = 0 ∨ e = 1 then
      cycleStartFor c i (inStepPace (s.onTime fun t => { t with cycle := c, offset := 0 }))
    else cycleStartFor c i (paceJump c s)

/-- An ALARM-ACK at the alarm unit (R165, R169). -/
def takeAlarmAck (b : Bulletin) (s : State) : State := ackList (stampAt b.words 0) s

/-- An ALARM at the CAB station's table; at the other roles it has no effect (R170, R178). -/
def takeAlarm (b : Bulletin) (s : State) : State :=
  if s.role = .cab then
    match mergeOf b.sender.toNat b.words with
    | none => s
    | some m => s.onTable (mergeTable m)
  else s

/-- A broadcast XFER bulletin: acted on by the drag, kept by the cab (R131, R156). -/
def takeXferBroadcast (k : Kind) (b : Bulletin) (atDrag : State → State) (s : State) : State :=
  if !s.joined then s
  else match s.role with
    | .drag => atDrag s
    | .cab => keepAtCab k b true s
    | .none | .hoist | .swing | .walk => s

/-- A QUERY goes to the back of the query queue (R18). -/
def takeQuery (b : Bulletin) (s : State) : State :=
  s.onLine fun l => { l with queries := l.queries ++ [queryOf b] }

/-! ### The commands -/

/-- BULLETIN_DISCARD (R8): a format error, otherwise a check error; cells that meet both are no discard. -/
def execBulletinDiscard (r : RawBulletin) (s : State) : Host.Outcome State Fault Refusal :=
  let s := setAck false (begin s)
  if !reads s then .next s
  else if !r.formatHolds then .next (s.count fun c => { c with formatErrors := bump c.formatErrors })
  else if r.check ≠ r.computedCheck then
    .next (s.count fun c => { c with checkErrors := bump c.checkErrors })
  else .next s

/-- TRIP (R173). -/
def execTrip (b : Bulletin) (s : State) : Host.Outcome State Fault Refusal :=
  .next (receive .trip b (takeTrip b) (begin s))

/-- PACE (R24, R25). -/
def execPace (b : Bulletin) (i : Inputs) (s : State) : Host.Outcome State Fault Refusal :=
  .next (receive .pace b (takePace b i) (begin s))

/-- RESTART (R175, R176). -/
def execRestart (b : Bulletin) (s : State) : Host.Outcome State Fault Refusal :=
  .next (receive .restart b applyRestart (begin s))

/-- ALARM_ACK (R169). -/
def execAlarmAck (b : Bulletin) (s : State) : Host.Outcome State Fault Refusal :=
  .next (receive .alarmAck b (takeAlarmAck b) (begin s))

/-- XFER_ASK (R128). -/
def execXferAsk (b : Bulletin) (s : State) : Host.Outcome State Fault Refusal :=
  .next (receive .xferAsk b (dragAsk b) (begin s))

/-- XFER_YIELD (R151, R152). -/
def execXferYield (b : Bulletin) (s : State) : Host.Outcome State Fault Refusal :=
  .next (receive .xferYield b (walkYield b) (begin s))

/-- XFER_REFUSE (R151). -/
def execXferRefuse (b : Bulletin) (s : State) : Host.Outcome State Fault Refusal :=
  .next (receive .xferRefuse b (walkRefuse b) (begin s))

/-- XFER_DONE (R156). -/
def execXferDone (b : Bulletin) (s : State) : Host.Outcome State Fault Refusal :=
  .next (receive .xferDone b (takeXferBroadcast .xferDone b id) (begin s))

/-- XFER_ABORT (R131, R156). -/
def execXferAbort (b : Bulletin) (s : State) : Host.Outcome State Fault Refusal :=
  .next (receive .xferAbort b (takeXferBroadcast .xferAbort b (dragAbort b)) (begin s))

/-- XFER_RELEASE (R131). -/
def execXferRelease (b : Bulletin) (s : State) : Host.Outcome State Fault Refusal :=
  .next (receive .xferRelease b (dragRelease b) (begin s))

/-- SHARE_ASK (R102). -/
def execShareAsk (b : Bulletin) (s : State) : Host.Outcome State Fault Refusal :=
  .next (receive .shareAsk b (answerAsk b) (begin s))

/-- SHARE_GRANT (R103). -/
def execShareGrant (b : Bulletin) (s : State) : Host.Outcome State Fault Refusal :=
  .next (receive .shareGrant b (takeGrant b) (begin s))

/-- SHARE_REFUSE (R101). -/
def execShareRefuse (b : Bulletin) (s : State) : Host.Outcome State Fault Refusal :=
  .next (receive .shareRefuse b (takeRefuse b) (begin s))

/-- SHARE_RETURN (R108). -/
def execShareReturn (b : Bulletin) (s : State) : Host.Outcome State Fault Refusal :=
  .next (receive .shareReturn b (takeReturn b) (begin s))

/-- SHARE_RECALL (R110). -/
def execShareRecall (b : Bulletin) (s : State) : Host.Outcome State Fault Refusal :=
  .next (receive .shareRecall b (takeRecall b) (begin s))

/-- STATUS (R39 to R43). -/
def execStatus (b : Bulletin) (s : State) : Host.Outcome State Fault Refusal :=
  .next (receive .status b (takeStatus b) (begin s))

/-- REFERENCE (R64). -/
def execReference (b : Bulletin) (s : State) : Host.Outcome State Fault Refusal :=
  .next (receive .reference b (takeReference b) (begin s))

/-- ALARM (R178). -/
def execAlarm (b : Bulletin) (s : State) : Host.Outcome State Fault Refusal :=
  .next (receive .alarm b (takeAlarm b) (begin s))

/-- QUERY (R18). -/
def execQuery (b : Bulletin) (s : State) : Host.Outcome State Fault Refusal :=
  .next (receive .query b (takeQuery b) (begin s))

/-- REPLY (R10): no role handles it; at the cab it is read and dropped. -/
def execReply (b : Bulletin) (s : State) : Host.Outcome State Fault Refusal :=
  .next (receive .reply b id (begin s))

end Sys2Proof.Machine
end

