-- ==== Sys2Proof/Machine/StartUp.lean ====
section
/-! DEFINITION. Start-up control (chapter 11): full reset, READING, SELFTEST, LISTEN, the join, the line
rejoin's end and HALTED. -/

namespace Sys2Proof.Machine

/-! ### HALTED (R191) -/

/-- Entry to HALTED with a cause: the line unit, the timer, the drive, the coil and the share unit stop
(R22, R27, R94, R113, R145, R191). -/
def halt (cause : Nat) (s : State) : State :=
  let s := s.onStartup fun u =>
    { u with state := .halted, haltCause := cause, faultCount := Config.codeUnits - 1 }
  let s := s.onLine fun l => { l with state := .halted, loopback := false, ackSlot := false }
  let s := s.onTime fun t => { t with running := false, offset := 0 }
  shareHalted ((driveHalted s).onWalk fun k => { k with coilOut := false })

/-! ### READING (R186, R187) -/

/-- Entry to READING: the straps, then the conditions of causes 1 and 2 (R186). -/
def enterReading (p : Straps) (s : State) : State :=
  let s := s.onStartup fun u => { u with state := .reading, station := p.station, rate := p.rate }
  if !p.memoryPresent then halt 1 s
  else if p.rate = 3 then halt 2 s
  else s

/-- Form the settings image and enter SELFTEST (R187, R188). -/
def formImage (block : List Byte) (s : State) : State :=
  let role := (Role.ofCode (roleByte block s.station)).getD .none
  let raw := rawSettings block role
  let held := raw.clamp role
  enterLoopback (s.onStartup fun u =>
    { u with state := .selftest, settings := held, clamped := held != raw,
             signature := headerCheck block })

/-- The whole block has been read (R186, R187). -/
def imageComplete (block : List Byte) (s : State) : State :=
  match settingsCause block s.station with
  | some cause => halt cause s
  | none => formImage block s

/-! ### LISTEN and the join (R189, R190) -/

/-- Entry to LISTEN (R189). -/
def enterListen (s : State) : State :=
  leaveLoopback .listening (s.onStartup fun u => { u with state := .listen, listenTimer := 0 })

/-- The station numbers other than its own. -/
def peerNumbers (s : State) : List Nat := (List.range 8).filter fun n => n != s.station

/-- The held raises, in the order of R190, step 5; several of one code in rising station number (R43, log
entry 34). -/
def heldRaises (s : State) : State :=
  let s := if s.startup.clamped then raiseAndClear .configClamped none s else s
  let s := if s.line.dupHeld then
    (raiseQuiet .duplicateStation none s).onLine fun l => { l with dupHeld := false } else s
  let s := ((peerNumbers s).filter fun n => (s.peer n).foreign).foldl
    (fun s n => raiseQuiet .configMismatch (some n) s) s
  let s := ((peerNumbers s).filter fun n => s.isStale (s.peer n)).foldl
    (fun s n => raiseQuiet .peerSilent (some n) s) s
  if s.role.isAxis && s.ring.starved then raiseQuiet .referenceStarved none s else s

/-- The blocks that begin at the join (R127, R149, R184, R190). The first sample of the cab's emergency input is
taken at the entry itself, after the axis functions have begun (DESIGN CHOICE, log entry 53). -/
def beginBlocks (s : State) : State :=
  let s := match s.role with
    | .drag => dragJoin s
    | .walk => setWalkState .parked s
    | .none | .cab | .hoist | .swing => s
  emergencySample (watchOwned s)

/-- Steps 1 to 4 of R190: the line unit, the timer, the quarantine, STATION STARTED. -/
def joinStart (s : State) : State :=
  let s := s.onLine fun l => { l with state := .active }
  let s := if s.time.running then s else s.onTime fun t => { t with cycle := 0, offset := 0, running := true }
  raise .stationStarted none ((startQuarantine s).onStartup fun u => { u with state := .joined })

/-- The entry to JOINED (R190): the bulletins of its steps stand in the order of the steps (R15). -/
def join (i : Inputs) (s : State) : State :=
  let fresh := !s.time.running
  let s := beginBlocks (settle (heldRaises (settle (joinStart { s with inputs := i }))))
  if fresh then cycleStartFor 0 i (settle s) else s

/-! ### The commands -/

/-- FULL_RESET (R185): every block holds its reset values; the pins and the waiting commands stand. -/
def execFullReset (s : State) : Host.Outcome State Fault Refusal :=
  .next { State.reset with inputs := s.inputs, pending := s.pending }

/-- READING_ENTRY (R185, R186): from RESET. -/
def execReadingEntry (p : Straps) (s : State) : Host.Outcome State Fault Refusal :=
  let s := begin s
  .next (if s.startup.state = .reset then enterReading p s else s)

/-- SETTINGS_BYTE_TIMEOUT (R186): in READING. -/
def execSettingsByteTimeout (s : State) : Host.Outcome State Fault Refusal :=
  let s := begin s
  .next (if s.startup.state = .reading then halt 3 s else s)

/-- SETTINGS_IMAGE_COMPLETE (R187): in READING. -/
def execSettingsImageComplete (block : List Byte) (s : State) : Host.Outcome State Fault Refusal :=
  let s := begin s
  .next (if s.startup.state = .reading then imageComplete block s else s)

/-- SELFTEST_END (R188): in SELFTEST, the cells read back judged against the PROBE sent. -/
def execSelftestEnd (readBack : List Bool) (s : State) : Host.Outcome State Fault Refusal :=
  let s := begin s
  .next (if s.startup.state = .selftest then
    (if s.probeReadBack readBack then enterListen s else halt 9 s)
    else s)

/-- The listen timer stops at its expiry (R189). -/
def listenExpires (i : Inputs) (s : State) : State :=
  join i (s.onStartup fun u => { u with listenTimer := 2 * s.units })

/-- LISTEN_TIMER_EXPIRY (R190): in LISTEN. -/
def execListenTimerExpiry (i : Inputs) (s : State) : Host.Outcome State Fault Refusal :=
  let s := begin s
  .next (if s.startup.state = .listen then listenExpires i s else s)

/-- REJOIN_TEST_END (R20): in REJOINING, by the same test as SELFTEST's (R188). -/
def execRejoinTestEnd (readBack : List Bool) (s : State) : Host.Outcome State Fault Refusal :=
  let s := begin s
  .next (if s.line.state = .rejoining then
    (if s.probeReadBack readBack then leaveLoopback .active s else halt 9 s)
    else s)

/-- One 10 µs unit of the FAULT pin's code (R191). -/
def faultTick (s : State) : State :=
  s.onStartup fun u => { u with faultCount := (u.faultCount + 1) % Config.codeUnits }

/-- FAULT_PIN_PULSE (R191): in HALTED, the code stands at its next 100 ms slot. -/
def execFaultPinPulse (s : State) : Host.Outcome State Fault Refusal :=
  let s := begin s
  .next (if s.startup.state = .halted then
    s.onStartup fun u =>
      { u with faultCount :=
          (u.faultCount / Config.pulseUnits + 1) * Config.pulseUnits % Config.codeUnits }
    else s)

end Sys2Proof.Machine
end

