-- ==== Sys2Proof/Machine/Pins.lean ====
section
/-! DEFINITION. The commands of the pins and of the line time: captured edges, the encoder, the contactor
feedback, the emergency input, the field link, the status point and the cycle start. -/

namespace Sys2Proof.Machine

/-- CYCLE_START (R23): the cycle timer expires. -/
def execCycleStart (i : Inputs) (s : State) : Host.Outcome State Fault Refusal :=
  .next (timerExpiry i (begin s))

/-- STATUS_POINT (R28). -/
def execStatusPoint (s : State) : Host.Outcome State Fault Refusal := .next (statusPointNow (begin s))

/-- SLAVE_EDGE (R32): the sample at which the slave source of a unit shows its edge (log entry 45). -/
def execSlaveEdge (u : UnitIndex) (s : State) : Host.Outcome State Fault Refusal :=
  .next (slaveEdge u (begin s))

/-- MASTER_EDGE (R33): the sample at which the master source of a unit shows its edge (log entry 45). -/
def execMasterEdge (u : UnitIndex) (s : State) : Host.Outcome State Fault Refusal :=
  .next (masterEdge u (begin s))

/-- OWNED_HOOK_LOSS (R88): a 10 µs sample of the discrete inputs, the contactor feedback among them. -/
def execOwnedHookLoss (din : Byte) (s : State) : Host.Outcome State Fault Refusal :=
  .next (sampleDiscrete din (begin s))

/-- OPERATOR_STOP (R184): a 10 µs sample of the discrete inputs, the emergency input among them. -/
def execOperatorStop (din : Byte) (s : State) : Host.Outcome State Fault Refusal :=
  .next (sampleDiscrete din (begin s))

/-- FIELD_LINK_ACK (R89): it answers the most recent frame, or is ignored. -/
def execFieldLinkAck (s : State) : Host.Outcome State Fault Refusal :=
  .next ((begin s).onDrive fun d => { d with awaiting := false })

/-- The encoder counts from the end of full reset (R73). -/
def countEncoder (rises : Bool) (s : State) : State :=
  if s.startup.state = .reset then s
  else { s with encoder := if rises then s.encoder + 1 else s.encoder - 1 }

/-- ENCODER_TRANSITION (R73). -/
def execEncoderTransition (rises : Bool) (s : State) : Host.Outcome State Fault Refusal :=
  .next (countEncoder rises (begin s))

end Sys2Proof.Machine
end

