-- ==== Sys2Proof/Machine/Events.lean ====
section
/-! DEFINITION. The commands that are events of a cycle start (the table's rows for them). Each is the cycle
start at which its event falls; where the coming cycle start would not bring the event about, the event
does not occur and the state stands (log entry 1). -/

namespace Sys2Proof.Machine

/-- An event falls at the coming cycle start with these inputs. -/
def fallsDue (e : Event) (i : Inputs) (s : State) : Bool := (timerExpiry i (begin s)).events.contains e

/-- The cycle start at which an event falls. -/
def eventCycle (e : Event) (i : Inputs) (s : State) : State :=
  if fallsDue e i s then timerExpiry i (begin s) else s

/-- LONG_CYCLE (R29). -/
def execLongCycle (i : Inputs) (s : State) : Host.Outcome State Fault Refusal :=
  .next (eventCycle .longCycle i s)

/-- PEER_SILENT (R44). -/
def execPeerSilent (i : Inputs) (s : State) : Host.Outcome State Fault Refusal :=
  .next (eventCycle .peerSilent i s)

/-- REFERENCE_STARVED (R66). -/
def execReferenceStarved (i : Inputs) (s : State) : Host.Outcome State Fault Refusal :=
  .next (eventCycle .referenceStarved i s)

/-- DUPLICATE_STATION_CLEAR (R11). -/
def execDuplicateStationClear (i : Inputs) (s : State) : Host.Outcome State Fault Refusal :=
  .next (eventCycle .duplicateStationClear i s)

/-- LINE_REJOIN (R20). -/
def execLineRejoin (i : Inputs) (s : State) : Host.Outcome State Fault Refusal :=
  .next (eventCycle .lineRejoin i s)

/-- PRESSURE (R100). -/
def execPressure (i : Inputs) (s : State) : Host.Outcome State Fault Refusal :=
  .next (eventCycle .pressure i s)

/-- ASK_WAIT_END (R101). -/
def execAskWaitEnd (i : Inputs) (s : State) : Host.Outcome State Fault Refusal :=
  .next (eventCycle .askWaitEnd i s)

/-- VOLUNTARY_RETURN (R107). -/
def execVoluntaryReturn (i : Inputs) (s : State) : Host.Outcome State Fault Refusal :=
  .next (eventCycle .voluntaryReturn i s)

/-- LOAN_TERM_END (R105). -/
def execLoanTermEnd (i : Inputs) (s : State) : Host.Outcome State Fault Refusal :=
  .next (eventCycle .loanTermEnd i s)

/-- LOAN_GRACE_END (R106). -/
def execLoanGraceEnd (i : Inputs) (s : State) : Host.Outcome State Fault Refusal :=
  .next (eventCycle .loanGraceEnd i s)

/-- QUARANTINE_END (R98). -/
def execQuarantineEnd (i : Inputs) (s : State) : Host.Outcome State Fault Refusal :=
  .next (eventCycle .quarantineEnd i s)

/-- STALL_HELD (R87). -/
def execStallHeld (i : Inputs) (s : State) : Host.Outcome State Fault Refusal :=
  .next (eventCycle .stallHeld i s)

/-- FIELD_LINK_LOST (R89). -/
def execFieldLinkLost (i : Inputs) (s : State) : Host.Outcome State Fault Refusal :=
  .next (eventCycle .fieldLinkLost i s)

/-- BRAKE_SET (R90). -/
def execBrakeSet (i : Inputs) (s : State) : Host.Outcome State Fault Refusal :=
  .next (eventCycle .brakeSet i s)

/-- BRAKE_FEEDBACK (R91). -/
def execBrakeFeedback (i : Inputs) (s : State) : Host.Outcome State Fault Refusal :=
  .next (eventCycle .brakeFeedback i s)

/-- BRAKE_SLIP (R92). -/
def execBrakeSlip (i : Inputs) (s : State) : Host.Outcome State Fault Refusal :=
  .next (eventCycle .brakeSlip i s)

/-- SLACK_ROPE (R123). -/
def execSlackRope (i : Inputs) (s : State) : Host.Outcome State Fault Refusal :=
  .next (eventCycle .slackRope i s)

/-- YIELD_LIMIT (R129). -/
def execYieldLimit (i : Inputs) (s : State) : Host.Outcome State Fault Refusal :=
  .next (eventCycle .yieldLimit i s)

/-- YIELD_WAIT_EXPIRY (R130). -/
def execYieldWaitExpiry (i : Inputs) (s : State) : Host.Outcome State Fault Refusal :=
  .next (eventCycle .yieldWaitExpiry i s)

/-- ASK_WAIT_EXPIRY (R151). -/
def execAskWaitExpiry (i : Inputs) (s : State) : Host.Outcome State Fault Refusal :=
  .next (eventCycle .askWaitExpiry i s)

/-- TRANSFER_FAILED (R152). -/
def execTransferFailed (i : Inputs) (s : State) : Host.Outcome State Fault Refusal :=
  .next (eventCycle .transferFailed i s)

/-- CONTACTOR_DISAGREE (R147). -/
def execContactorDisagree (i : Inputs) (s : State) : Host.Outcome State Fault Refusal :=
  .next (eventCycle .contactorDisagree i s)

/-- CONTACTOR_CONTRARY (R148). -/
def execContactorContrary (i : Inputs) (s : State) : Host.Outcome State Fault Refusal :=
  .next (eventCycle .contactorContrary i s)

/-- STEP_OVERTIME (R160). -/
def execStepOvertime (i : Inputs) (s : State) : Host.Outcome State Fault Refusal :=
  .next (eventCycle .stepOvertime i s)

/-- FLASH_PHASE_INVERT (R181). -/
def execFlashPhaseInvert (i : Inputs) (s : State) : Host.Outcome State Fault Refusal :=
  .next (eventCycle .flashPhaseInvert i s)

/-- REFUSAL_FLASH_END (R181). -/
def execRefusalFlashEnd (i : Inputs) (s : State) : Host.Outcome State Fault Refusal :=
  .next (eventCycle .refusalFlashEnd i s)

/-- TABLE_PURGE (R179). -/
def execTablePurge (i : Inputs) (s : State) : Host.Outcome State Fault Refusal :=
  .next (eventCycle .tablePurge i s)

end Sys2Proof.Machine
end

