-- ==== Sys2Proof/Machine/Dispatch.lean ====
section
/-! DEFINITION. The dispatch: one arm for each command. -/

namespace Sys2Proof.Machine

def exec (i : Instr) (s : State) : Host.Outcome State Fault Refusal :=
  match i with
  | .fullReset => Sys2Proof.Machine.execFullReset s
  | .readingEntry straps => Sys2Proof.Machine.execReadingEntry straps s
  | .settingsByteTimeout => Sys2Proof.Machine.execSettingsByteTimeout s
  | .settingsImageComplete block => Sys2Proof.Machine.execSettingsImageComplete block s
  | .selftestEnd readBack => Sys2Proof.Machine.execSelftestEnd readBack s
  | .listenTimerExpiry x => Sys2Proof.Machine.execListenTimerExpiry x s
  | .cycleStart x => Sys2Proof.Machine.execCycleStart x s
  | .statusPoint => Sys2Proof.Machine.execStatusPoint s
  | .longCycle x => Sys2Proof.Machine.execLongCycle x s
  | .lineIdleOffer => Sys2Proof.Machine.execLineIdleOffer s
  | .arbitrationLoss => Sys2Proof.Machine.execArbitrationLoss s
  | .bitError => Sys2Proof.Machine.execBitError s
  | .attemptEnd acked => Sys2Proof.Machine.execAttemptEnd acked s
  | .bulletinDiscard r => Sys2Proof.Machine.execBulletinDiscard r s
  | .trip b => Sys2Proof.Machine.execTrip b s
  | .pace b x => Sys2Proof.Machine.execPace b x s
  | .restart b => Sys2Proof.Machine.execRestart b s
  | .alarmAck b => Sys2Proof.Machine.execAlarmAck b s
  | .xferAsk b => Sys2Proof.Machine.execXferAsk b s
  | .xferYield b => Sys2Proof.Machine.execXferYield b s
  | .xferRefuse b => Sys2Proof.Machine.execXferRefuse b s
  | .xferDone b => Sys2Proof.Machine.execXferDone b s
  | .xferAbort b => Sys2Proof.Machine.execXferAbort b s
  | .xferRelease b => Sys2Proof.Machine.execXferRelease b s
  | .shareAsk b => Sys2Proof.Machine.execShareAsk b s
  | .shareGrant b => Sys2Proof.Machine.execShareGrant b s
  | .shareRefuse b => Sys2Proof.Machine.execShareRefuse b s
  | .shareReturn b => Sys2Proof.Machine.execShareReturn b s
  | .shareRecall b => Sys2Proof.Machine.execShareRecall b s
  | .status b => Sys2Proof.Machine.execStatus b s
  | .reference b => Sys2Proof.Machine.execReference b s
  | .alarm b => Sys2Proof.Machine.execAlarm b s
  | .query b => Sys2Proof.Machine.execQuery b s
  | .reply b => Sys2Proof.Machine.execReply b s
  | .slaveEdge u => Sys2Proof.Machine.execSlaveEdge u s
  | .masterEdge u => Sys2Proof.Machine.execMasterEdge u s
  | .ownedHookLoss din => Sys2Proof.Machine.execOwnedHookLoss din s
  | .fieldLinkAck => Sys2Proof.Machine.execFieldLinkAck s
  | .operatorStop din => Sys2Proof.Machine.execOperatorStop din s
  | .peerSilent x => Sys2Proof.Machine.execPeerSilent x s
  | .referenceStarved x => Sys2Proof.Machine.execReferenceStarved x s
  | .duplicateStationClear x => Sys2Proof.Machine.execDuplicateStationClear x s
  | .lineRejoin x => Sys2Proof.Machine.execLineRejoin x s
  | .rejoinTestEnd readBack => Sys2Proof.Machine.execRejoinTestEnd readBack s
  | .pressure x => Sys2Proof.Machine.execPressure x s
  | .askWaitEnd x => Sys2Proof.Machine.execAskWaitEnd x s
  | .voluntaryReturn x => Sys2Proof.Machine.execVoluntaryReturn x s
  | .loanTermEnd x => Sys2Proof.Machine.execLoanTermEnd x s
  | .loanGraceEnd x => Sys2Proof.Machine.execLoanGraceEnd x s
  | .quarantineEnd x => Sys2Proof.Machine.execQuarantineEnd x s
  | .stallHeld x => Sys2Proof.Machine.execStallHeld x s
  | .fieldLinkLost x => Sys2Proof.Machine.execFieldLinkLost x s
  | .brakeSet x => Sys2Proof.Machine.execBrakeSet x s
  | .brakeFeedback x => Sys2Proof.Machine.execBrakeFeedback x s
  | .brakeSlip x => Sys2Proof.Machine.execBrakeSlip x s
  | .slackRope x => Sys2Proof.Machine.execSlackRope x s
  | .yieldLimit x => Sys2Proof.Machine.execYieldLimit x s
  | .yieldWaitExpiry x => Sys2Proof.Machine.execYieldWaitExpiry x s
  | .askWaitExpiry x => Sys2Proof.Machine.execAskWaitExpiry x s
  | .transferFailed x => Sys2Proof.Machine.execTransferFailed x s
  | .contactorDisagree x => Sys2Proof.Machine.execContactorDisagree x s
  | .contactorContrary x => Sys2Proof.Machine.execContactorContrary x s
  | .stepOvertime x => Sys2Proof.Machine.execStepOvertime x s
  | .flashPhaseInvert x => Sys2Proof.Machine.execFlashPhaseInvert x s
  | .refusalFlashEnd x => Sys2Proof.Machine.execRefusalFlashEnd x s
  | .tablePurge x => Sys2Proof.Machine.execTablePurge x s
  | .encoderTransition rises => Sys2Proof.Machine.execEncoderTransition rises s
  | .faultPinPulse => Sys2Proof.Machine.execFaultPinPulse s

end Sys2Proof.Machine
end

