-- ==== Sys2Proof/Machine/Tick.lean ====
section
/-! DEFINITION. One 10 µs unit of the station's local oscillator, which `step` runs on an empty queue (log
entries 4 and 27). -/

namespace Sys2Proof.Machine

/-- One 10 µs unit passes in LISTEN or HALTED (R189, R191). -/
def startTick (s : State) : State :=
  match s.startup.state with
  | .listen =>
    let n := s.startup.listenTimer + 1
    if 2 * s.units ≤ n then listenExpires s.inputs s
    else s.onStartup fun u => { u with listenTimer := n }
  | .halted => faultTick s
  | .reset | .reading | .selftest | .joined => s

/-- One 10 µs unit of a running cycle timer: its expiry, or the next offset and the status point (R22, R23,
R28). -/
def timeTick (s : State) : State :=
  if s.units ≤ s.time.offset + 1 then timerExpiry s.inputs s
  else
    let s := s.onTime fun t => { t with offset := t.offset + 1 }
    if s.time.offset = s.statusOffset then statusPointNow s else s

/-- One 10 µs unit of the local oscillator, the pins standing as they are: one instant, so what its sample or
the join places in the unit of the timer's expiry is placed at that cycle start (R17, log entry 27). -/
def tick (s : State) : State :=
  let s := sampleInputs s.inputs (elapse 1 (begin s))
  if s.time.running then timeTick (startTick s) else startTick s

end Sys2Proof.Machine
end

