-- ==== Sys2Proof/WellFormed.lean ====
section
/-! DEFINITION. Well-formed commands: the operands that the command's event can have. The meanings do not
assume this: an ill-formed bulletin is judged by R8 and discarded. -/

namespace Sys2Proof

/-- A bulletin of a kind that meets the format conditions of TABLE 1-5. -/
def Bulletin.wf (k : Kind) (b : Bulletin) : Bool := formatHolds k b.target b.words.length

/-- The cells of a bulletin hold as many payload words as its word count says. -/
def RawBulletin.wf (r : RawBulletin) : Bool := r.words.length == r.count.toNat

/-- The received bulletin of a command, with its kind. -/
def Instr.bulletin? : Instr → Option (Kind × Bulletin)
  | .trip b => some (.trip, b)
  | .pace b _ => some (.pace, b)
  | .restart b => some (.restart, b)
  | .alarmAck b => some (.alarmAck, b)
  | .xferAsk b => some (.xferAsk, b)
  | .xferYield b => some (.xferYield, b)
  | .xferRefuse b => some (.xferRefuse, b)
  | .xferDone b => some (.xferDone, b)
  | .xferAbort b => some (.xferAbort, b)
  | .xferRelease b => some (.xferRelease, b)
  | .shareAsk b => some (.shareAsk, b)
  | .shareGrant b => some (.shareGrant, b)
  | .shareRefuse b => some (.shareRefuse, b)
  | .shareReturn b => some (.shareReturn, b)
  | .shareRecall b => some (.shareRecall, b)
  | .status b => some (.status, b)
  | .reference b => some (.reference, b)
  | .alarm b => some (.alarm, b)
  | .query b => some (.query, b)
  | .reply b => some (.reply, b)
  | .fullReset | .readingEntry _ | .settingsByteTimeout | .settingsImageComplete _ | .selftestEnd _
  | .listenTimerExpiry _ | .cycleStart _ | .statusPoint | .longCycle _ | .lineIdleOffer
  | .arbitrationLoss | .bitError | .attemptEnd _ | .bulletinDiscard _ | .slaveEdge _ | .masterEdge _
  | .ownedHookLoss _ | .fieldLinkAck | .operatorStop _ | .peerSilent _ | .referenceStarved _
  | .duplicateStationClear _ | .lineRejoin _ | .rejoinTestEnd _ | .pressure _ | .askWaitEnd _
  | .voluntaryReturn _ | .loanTermEnd _ | .loanGraceEnd _ | .quarantineEnd _ | .stallHeld _
  | .fieldLinkLost _ | .brakeSet _ | .brakeFeedback _ | .brakeSlip _ | .slackRope _ | .yieldLimit _
  | .yieldWaitExpiry _ | .askWaitExpiry _ | .transferFailed _ | .contactorDisagree _
  | .contactorContrary _ | .stepOvertime _ | .flashPhaseInvert _ | .refusalFlashEnd _
  | .tablePurge _ | .encoderTransition _ | .faultPinPulse => none

/-- Well-formed: a received bulletin meets the format conditions, a discarded one fails its format or
its check (R8), and the settings block has 512 bytes (R186). -/
def Instr.wf (c : Instr) : Bool :=
  match c with
  | .settingsImageComplete block => block.length == Config.blockBytes
  | .bulletinDiscard r => r.wf && !(r.formatHolds && r.check == r.computedCheck)
  | c => match c.bulletin? with
    | some (k, b) => b.wf k
    | none => true

end Sys2Proof
end

