-- ==== Sys2Proof/Safety.lean ====
section
/-! DEFINITION. What claims are stated in: the blocks a command may change, and the conditions on a state that
every step keeps. -/

namespace Sys2Proof.Machine

/-! ### Frames -/

/-- The blocks of a station's state. -/
inductive Block where
  | line | time | unit0 | unit1 | picture | ring | cab | drive | share | rope | swing | walk
  | contactor | alarms | table | startup | encoder | inputs
  deriving DecidableEq, Repr

/-- A block reads the same in two states. -/
def Block.same (b : Block) (s t : State) : Prop :=
  match b with
  | .line => t.line = s.line
  | .time => t.time = s.time
  | .unit0 => t.unit0 = s.unit0
  | .unit1 => t.unit1 = s.unit1
  | .picture => t.picture = s.picture
  | .ring => t.ring = s.ring
  | .cab => t.cab = s.cab
  | .drive => t.drive = s.drive
  | .share => t.share = s.share
  | .rope => t.rope = s.rope
  | .swing => t.swing = s.swing
  | .walk => t.walk = s.walk
  | .contactor => t.contactor = s.contactor
  | .alarms => t.alarms = s.alarms
  | .table => t.table = s.table
  | .startup => t.startup = s.startup
  | .encoder => t.encoder = s.encoder
  | .inputs => t.inputs = s.inputs

/-- Only the blocks listed may differ, and the waiting commands stand. -/
def Frame (bs : List Block) (s t : State) : Prop :=
  (∀ b, b ∉ bs → b.same s t) ∧ t.pending = s.pending

/-! ### When a bulletin reaches its owning block -/

/-- The line unit takes a bulletin and drives the acknowledge slot (R9). -/
structure Takes (k : Kind) (b : Bulletin) (s : State) : Prop where
  active : s.line.state = .active
  form : b.wf k = true
  other : k = .query ∨ b.sender.toNat ≠ s.station
  passes : filterPasses k b s = true
  room : hasRoom k s = true

/-- A broadcast is passed on without an acknowledge, in LISTENING or LINE FAULT (R3). -/
structure PassedOn (k : Kind) (b : Bulletin) (s : State) : Prop where
  listens : s.line.state = .listening ∨ s.line.state = .lineFault
  broadcast : k.isBroadcast = true
  form : b.wf k = true
  other : b.sender.toNat ≠ s.station
  passes : filterPasses k b s = true

/-- A bulletin reaches its owning block: taken, or a broadcast passed on (R3, R9). -/
def Reaches (k : Kind) (b : Bulletin) (s : State) : Prop := Takes k b s ∨ PassedOn k b s

/-- The state as the owning block of a taken bulletin finds it: the instant begun, the slot driven. -/
def taken (s : State) : State := (begin s).onLine fun l => { l with ackSlot := true }

/-- The state after a bulletin that is read and not taken. -/
def untaken (s : State) : State := (begin s).onLine fun l => { l with ackSlot := false }

/-- The state as the owning block of a bulletin finds it: the slot is driven in ACTIVE alone (R3). -/
def handed (s : State) : State := if s.line.state = .active then taken s else untaken s

/-- A general entry of the transmit queue is free (R16). -/
def hasSpace (s : State) : Prop := (generalEntries s.line.queue).length < Config.queueSize

/-- The entry a placement of this instant leaves in the queue. -/
def queued (k : Kind) (target : BitVec 4) (words : List Word) : Entry :=
  { kind := k, target, words, rank := k.code }

/-- `q'` is `q` with one entry more, wherever it stands. -/
def OneMore (e : Entry) (q q' : List Entry) : Prop := ∃ l r, q = l ++ r ∧ q' = l ++ e :: r

/-- The queue as the newer STATUS, REFERENCE or PACE leaves its elders: WAITING ones removed, one IN FLIGHT
to be removed at the end of its attempt (R16, step 3). -/
def eldersReplaced (k : Kind) (q : List Entry) : List Entry :=
  if k = .status ∨ k = .reference ∨ k = .pace then
    (q.filter fun e => e.kind ≠ k ∨ e.inFlight = true).map fun e =>
      if e.kind = k then { e with due := some .replaced } else e
  else q

/-- Entry `k` of a full queue gives way to a bulletin of class `c`: it waits in a general entry, its class is
above `c` and no WAITING general entry's is greater, and no newer one has its class (R16, step 5). -/
structure GivesWay (c : Nat) (q : List Entry) (k : Nat) (x : Entry) : Prop where
  here : q[k]? = some x
  waits : x.inFlight = false ∧ x.reserved = false
  above : c < x.kind.cls
  greatest : ∀ y ∈ q, y.inFlight = false → y.reserved = false → y.kind.cls ≤ x.kind.cls
  newest : ∀ y ∈ q.drop (k + 1), y.inFlight = false → y.reserved = false → y.kind.cls ≠ x.kind.cls

/-- Entry `k` of the queue is `e`, and it alone is IN FLIGHT. -/
structure FlightAt (s : State) (k : Nat) (e : Entry) : Prop where
  here : s.line.queue[k]? = some e
  flies : e.inFlight = true
  alone : ∀ (j : Nat) (x : Entry), s.line.queue[j]? = some x → x.inFlight = true → j = k

/-- A code of STOP severity stands active in the list, or its raise was lost in a list full of such
records (R166, R167). -/
def standsOrLost (code : AlarmCode) (s t : State) : Prop :=
  (∃ r ∈ t.alarms.list, r.code = code ∧ r.state ≠ .clearedUnack)
    ∨ s.alarms.lost < t.alarms.lost ∨ t.alarms.lost = Config.counterMax

/-- A sample shows no edge of a discrete input that a capture unit selects (R31). -/
def NoEdges (before now : Byte) (s : State) : Prop :=
  ∀ u, showsSlave (captureSel u s.params) before now none = false
    ∧ showsMaster (captureSel u s.params) before now = false

/-- A unit selects an edge of a discrete input, for its slave or its master source (R31). -/
def selects (sel : CaptureSel) (k : Fin 8) (rising : Bool) : Prop :=
  (sel.slaveSource = 1 ∧ sel.slaveInput = k ∧ sel.slaveRising = rising)
    ∨ (sel.masterInput = k ∧ sel.masterRising = rising)

/-- A selection names one change of level as both its slave and its master edge (R31). -/
def bothEdges (sel : CaptureSel) : Prop :=
  sel.slaveSource = 1 ∧ sel.slaveInput = sel.masterInput ∧ sel.slaveRising = sel.masterRising

/-- The other capture unit. -/
def otherUnit : UnitIndex → UnitIndex
  | .unit0 => .unit1
  | .unit1 => .unit0

/-- A unit with a slave edge pushed onto its queue of 8 and counted (R32). -/
def withSlave (e : SlaveEdge) (c : CaptureUnit) : CaptureUnit :=
  { c with slaveQueue := (e :: c.slaveQueue).take 8, slaveCount := (c.slaveCount + 1) % 65536 }

/-- The peer records one cycle start on: every HEARD one is 1 older, up to 255 (R44). -/
def agedPeers (s : State) : List PeerRecord :=
  s.picture.peers.map fun p => if p.heard then { p with age := min 255 (p.age + 1) } else p

/-- A cycle start has come between: the long-cycle counter has advanced and every HEARD record aged (R29,
R44). -/
def cycleCame (s t : State) : Prop :=
  t.time.longCount = (if s.globals.longLength ≤ s.time.longCount + 1 then 0 else s.time.longCount + 1)
    ∧ t.picture.peers = agedPeers s

/-- The table's row of a cycle-start event, as a command. -/
def Event.command (e : Event) (i : Inputs) : Instr :=
  match e with
  | .longCycle => .longCycle i
  | .peerSilent => .peerSilent i
  | .referenceStarved => .referenceStarved i
  | .duplicateStationClear => .duplicateStationClear i
  | .lineRejoin => .lineRejoin i
  | .pressure => .pressure i
  | .askWaitEnd => .askWaitEnd i
  | .voluntaryReturn => .voluntaryReturn i
  | .loanTermEnd => .loanTermEnd i
  | .loanGraceEnd => .loanGraceEnd i
  | .quarantineEnd => .quarantineEnd i
  | .stallHeld => .stallHeld i
  | .fieldLinkLost => .fieldLinkLost i
  | .brakeSet => .brakeSet i
  | .brakeFeedback => .brakeFeedback i
  | .brakeSlip => .brakeSlip i
  | .slackRope => .slackRope i
  | .yieldLimit => .yieldLimit i
  | .yieldWaitExpiry => .yieldWaitExpiry i
  | .askWaitExpiry => .askWaitExpiry i
  | .transferFailed => .transferFailed i
  | .contactorDisagree => .contactorDisagree i
  | .contactorContrary => .contactorContrary i
  | .stepOvertime => .stepOvertime i
  | .flashPhaseInvert => .flashPhaseInvert i
  | .refusalFlashEnd => .refusalFlashEnd i
  | .tablePurge => .tablePurge i

/-! ### Start state, line state and timer (TABLE 1-1, TABLE 11-1, R27) -/

/-- The line states that go with a start state. -/
def lineStateFits : StartState → LineState → Bool
  | .reset, .quiet | .reading, .quiet | .selftest, .quiet | .listen, .listening | .joined, .active
  | .joined, .lineFault | .joined, .rejoining | .halted, .halted => true
  | _, _ => false

/-- The line state goes with the start state; nothing waits outside ACTIVE (R16, R19); the timer runs only
in LISTEN and JOINED, and always in JOINED (R22, R27). -/
structure StartAgrees (s : State) : Prop where
  line : lineStateFits s.startup.state s.line.state = true
  empty : s.line.state ≠ .active → s.line.queue = [] ∧ s.line.queries = []
  runs : s.startup.state = .joined → s.time.running = true
  stops : s.time.running = true → s.startup.state = .listen ∨ s.startup.state = .joined
  still : s.time.running = false → s.time.offset = 0

/-! ### The settings image (R187, TABLE 11-3) -/

/-- The settings image has been formed and is in use. -/
def imageFormed (s : State) : Prop :=
  s.startup.state = .selftest ∨ s.startup.state = .listen ∨ s.startup.state = .joined

/-- The global parameters lie in the ranges of TABLE 12-7 and TABLE 11-3. -/
structure GlobalsHeld (g : Globals) : Prop where
  period : 5 ≤ g.pacePeriod ∧ g.pacePeriod ≤ 50
  statusPoint : g.statusPoint < g.pacePeriod
  longLength : 2 ≤ g.longLength ∧ g.longLength ≤ 64
  staleness : 2 ≤ g.staleness ∧ g.staleness ≤ 20
  window : 1 ≤ g.window ∧ g.window ≤ 32
  loanTerm : 1 ≤ g.loanTerm ∧ g.loanTerm ≤ 255
  marks : g.lowMark + 100 ≤ g.highMark ∧ g.highMark ≤ 1000
  contactorLimit : 10 ≤ g.contactorLimit ∧ g.contactorLimit ≤ 100

/-- The image in use keeps the ranges it was held to: the globals, and the counts and limits of the own role's
parameters that other rules count with. -/
structure SettingsHeld (s : State) : Prop where
  globals : imageFormed s → GlobalsHeld s.globals
  homes : imageFormed s → ∀ e ∈ s.startup.settings.table, e.homeShare ≤ Config.tokens
  stall : imageFormed s → s.params.drive.stallKnee + 50 ≤ s.params.drive.stallLimit
  brakeCheck : imageFormed s → s.params.drive.brakeCheck ≤ 100
  yieldLimit : imageFormed s → s.role = .drag → 20 ≤ s.params.rope.yieldLimit ∧ s.params.rope.yieldLimit ≤ 1000
  walk : imageFormed s → s.role = .walk → 20 ≤ s.params.walk.askWait ∧ s.params.walk.askWait ≤ 1000
    ∧ 100 ≤ s.params.walk.stepLimit ∧ s.params.walk.stepLimit ≤ 10000

/-! ### The drive outputs (R93, R94, R126, R146) -/

/-- Field word 0, drive enable and brake release removed, ramp state 0. -/
def driveSafe (d : Drive) : Prop := d.f = 0 ∧ d.fieldWord = 0 ∧ d.enable = false ∧ d.brake = .set

/-- The outputs are safe in TRIPPED, at a station of no axis role, and outside JOINED. -/
def SafeOutputs (s : State) : Prop :=
  s.alarms.mode = .tripped ∨ s.role.isAxis = false ∨ s.joined = false → driveSafe s.drive

/-- Drive enable stands only while the owned hook is true. -/
structure EnableOwned (s : State) : Prop where
  seen : s.joined = true → s.drive.ownedSeen = s.ownedHook
  owned : s.drive.enable = true → s.joined = true ∧ s.role.isAxis = true ∧ s.ownedHook = true

/-- The final output is within full scale and the field word is its word (R88). -/
structure OutputInRange (s : State) : Prop where
  low : -1000 ≤ s.drive.f
  high : s.drive.f ≤ 1000
  word : s.drive.fieldWord = fieldWordOf s.drive.f

/-- A condition holds after every step from a state where it and the conditions it rests on hold. -/
def Kept (inv rests : State → Prop) : Prop :=
  ∀ s t : State, inv s → rests s → step s = .next t → inv t

/-! ### Bounded lists (R15, R18, R32, R37, R165, R177) -/

/-- Every queue, list and table within its size; eight peer records and four handle channels. -/
structure Bounded (s : State) : Prop where
  general : (generalEntries s.line.queue).length ≤ Config.queueSize
  reserved : (s.line.queue.filter fun e => e.reserved).length ≤ 1
  inFlight : (s.line.queue.filter fun e => e.inFlight).length ≤ 1
  queries : s.line.queries.length ≤ Config.querySize
  alarms : s.alarms.list.length ≤ Config.alarmListSize
  table : s.table.records.length ≤ Config.tableSize
  slave0 : s.unit0.slaveQueue.length ≤ Config.slaveQueueSize
  slave1 : s.unit1.slaveQueue.length ≤ Config.slaveQueueSize
  peers : s.picture.peers.length = 8
  handles : s.cab.handleFault.length = 4

/-! ### The alarm list and the machine table (R165, R177) -/

/-- The key of a record of the list. -/
def AlarmRecord.key (r : AlarmRecord) : AlarmCode × Option Nat := (r.code, r.detail)

/-- The key of a record of the table. -/
def TableRecord.key (r : TableRecord) : Nat × AlarmCode × Option Nat := (r.source, r.code, r.detail)

/-- The list by raised time, no code and detail twice; the table by raised time and source, no key twice. -/
structure ListsOrdered (s : State) : Prop where
  listOrder : s.alarms.list.Pairwise fun a b => a.raised.le b.raised = true
  listKeys : (s.alarms.list.map AlarmRecord.key).Nodup
  tableOrder : s.table.records.Pairwise fun a b => tableBefore b a = false
  tableKeys : (s.table.records.map TableRecord.key).Nodup

/-- No SHARE LOAN DROPPED stands active, since it is cleared at the moment of its raise, and the table holds
those of the own station as warnings (R108, R177); before the station number is sampled the table is empty. -/
structure LoanDropsCleared (s : State) : Prop where
  cleared : ∀ r ∈ s.alarms.list, r.code = .shareLoanDropped → r.state = .clearedUnack
  warns : ∀ r ∈ s.table.records, r.source = s.station → r.code = .shareLoanDropped → r.severity = .warn
  empty : s.startup.state = .reset → s.table.records = []

/-! ### The ring (R64, R67, R70) -/

/-- The filled slots in rising slot number, each tag 1 to W ahead of the cycle number; none is filled before
the timer starts. -/
structure RingKept (s : State) : Prop where
  order : Ring.wf s.ring.slots = true
  window : ∀ e ∈ s.ring.slots, 1 ≤ tagDistance e.tag s.time.cycle
    ∧ tagDistance e.tag s.time.cycle ≤ s.globals.window
  stopped : s.time.running = false → s.startup.state ≠ .halted → s.ring.slots = []
  axis : s.role.isAxis = false → s.ring.slots = []

/-! ### Tokens (R95 to R97, R103, R114) -/

/-- The SHARE-GRANT entries that wait or are in flight. -/
def grantsQueued (s : State) : List Entry := s.line.queue.filter fun e => e.kind == .shareGrant

/-- The token accounts agree with the records, with the grants still queued and with the home share. -/
structure TokensAgree (s : State) : Prop where
  lent : s.share.lent = (s.share.lentRecords.map (·.count)).sum
  borrowed : s.share.borrowed = (s.share.borrowedRecords.map (·.count)).sum
  lentPeers : (s.share.lentRecords.map (·.peer)).Nodup
  borrowedPeers : (s.share.borrowedRecords.map (·.peer)).Nodup
  lentSome : ∀ r ∈ s.share.lentRecords, 0 < r.count
  borrowedSome : ∀ r ∈ s.share.borrowedRecords, 0 < r.count ∧ r.shed ≤ r.count
  replaced : ∀ e ∈ s.line.queue, e.due = some .replaced →
    e.kind = .status ∨ e.kind = .reference ∨ e.kind = .pace
  promised : s.share.promised = ((grantsQueued s).map fun e => countOf e.words).sum
  grants : ∀ e ∈ grantsQueued s, countInRange (countOf e.words) = true
  covered : s.share.promised ≤ s.share.own
  homes : ∀ e ∈ s.startup.settings.table, e.homeShare ≤ Config.tokens
  home : s.share.fresh = false → s.share.own + s.share.lent = (s.entryOf s.station).homeShare
    ∧ (s.startup.state = .joined ∨ s.startup.state = .halted)
  fresh : s.share.fresh = true → s.share.own = 0 ∧ s.share.lentRecords = []
    ∧ s.share.borrowedRecords = [] ∧ s.alarms.mode = .tripped

end Sys2Proof.Machine
end

