-- ==== Sys2Proof/Certificates/Slice0/Obligations.lean ====
section
/-! DEFINITION. The statements for the provers. Statements compare with `begin s`: the state as the command
finds it, with the line unit's note of the last instant forgotten (log entries 2 and 3). -/

open Sys2Proof Sys2Proof.Machine

/-! ### The queue of commands and reset -/

/-- Where the queue is not empty, the step runs the command at its front on the state with the rest of the
queue. -/
def Obligations.StepRunsFrontCommand : Prop :=
  ∀ (c : Instr) (rest : List Instr) (s : State), s.pending = c :: rest →
    step s = exec c { s with pending := rest }

/-- Values full reset leaves, a selection from every block: line unit (R3, R11, R14, R15, R18 to R21), line time (R22),
capture units (R36), picture (R38), ring (TABLE 4-5), cab function (R61), drive chain (R94), share unit
(R95), axis functions (TABLE 7-9, TABLE 8-5, TABLE 9-8), alarm unit (R165, R172), machine table (R177) and
start-up control (R185). Values that the spec does not give are left out (log entry 5). -/
def Obligations.ResetValues : Prop :=
  (let l := State.reset.line
   l.state = .quiet ∧ l.queue = [] ∧ l.queries = [] ∧ l.bitErrorRun = 0 ∧ l.faultStarts = 0
   ∧ l.noTakerRun = 0 ∧ l.dupCount = 0 ∧ l.dupHeld = false ∧ l.loopback = false
   ∧ l.counters = ⟨0, 0, 0, 0, 0, 0, 0, 0, 0, 0, 0, 0, 0⟩)
  ∧ (let t := State.reset.time
     t.cycle = 0 ∧ t.offset = 0 ∧ t.running = false ∧ t.longCount = 0 ∧ t.paceJumps = 0 ∧ t.inStep = 0
     ∧ t.alone = false)
  ∧ State.reset.unit0 = ⟨[], 0, 0, 0, none⟩ ∧ State.reset.unit1 = ⟨[], 0, 0, 0, none⟩
  ∧ State.reset.picture.peers = List.replicate 8 ⟨false, 255, 0, 0, false,
      { role := .none, mode := .tripped, axis := 0, calibrated := false, brakeSet := false,
        fresh := false, severity := none, overflow := false, position := 0, speed := 0, own := 0,
        spare := 0, borrowed := 0, lent := 0, signature := 0 }⟩
  ∧ State.reset.picture.seq = 0
  ∧ State.reset.ring =
    { slots := [], current := 0, currentWalkMode := false, last := 0, lastWalkMode := false, hold := 0,
      starved := false, rearm := true, rewritten := 0 }
  ∧ State.reset.cab =
    { handleFault := [false, false, false, false], ackButton := .down, restartButton := .down,
      walkMode := false, walkSample := false, xferHeard := none, shareHeard := none, emergency := none }
  ∧ (let d := State.reset.drive
     driveSafe d ∧ d.v = 0 ∧ d.i = 0 ∧ d.speed = 0 ∧ d.demand = 0 ∧ d.prevEncoder = none ∧ d.delay = 0
     ∧ d.disagree = 0 ∧ d.slip = 0 ∧ d.stall = 0 ∧ d.missing = 0 ∧ d.awaiting = false)
  ∧ (let h := State.reset.share
     h.own = 0 ∧ h.borrowed = 0 ∧ h.lent = 0 ∧ h.lentRecords = [] ∧ h.borrowedRecords = []
     ∧ h.fresh = true ∧ h.quarantine = 0 ∧ h.ask = none ∧ h.pressure = 0 ∧ h.voluntary = 0
     ∧ h.grantNumber = 0 ∧ h.promised = 0)
  ∧ (let r := State.reset.rope
     r.base = 0 ∧ r.calibrated = false ∧ r.position = 0 ∧ r.load = 0 ∧ r.beyondIn = false
     ∧ r.beyondOut = false ∧ r.limitPrev = none ∧ r.bucket = .unknown ∧ r.overload = false ∧ r.slack = 0
     ∧ r.tightLine = false ∧ r.ownership = .yielded ∧ r.walkSeen = false ∧ r.reclaimPending = false)
  ∧ (let w := State.reset.swing
     w.circle = ⟨0, none, 0, 0⟩ ∧ w.calibrated = false ∧ w.markError = 0 ∧ w.notPermitted = false
     ∧ w.parked = false)
  ∧ (let k := State.reset.walk
     k.state = .parked ∧ k.coil = false ∧ k.coilOut = false ∧ k.stateCount = 0 ∧ k.stepCount = 0
     ∧ k.stepCounter = 0 ∧ k.circle = ⟨0, none, 0, 0⟩ ∧ k.referenced = false ∧ k.camPhase = none)
  ∧ State.reset.contactor.disagree = 0 ∧ State.reset.contactor.contrary = 0
  ∧ State.reset.alarms = { list := [], lost := 0, overflow := false, refresh := 0, mode := .tripped }
  ∧ State.reset.table =
    { records := [], lost := 0, episode := .closed, firstOut := none, restartTime := ⟨0, 0⟩,
      flashPhase := false, flashCount := 0, refusalFlash := 0 }
  ∧ (let u := State.reset.startup
     u.state = .reset ∧ u.clamped = false ∧ u.signature = 0 ∧ u.haltCause = 0 ∧ u.listenTimer = 0)
  ∧ State.reset.encoder = 0 ∧ State.reset.faultPin = true ∧ State.reset.discreteOutputs = 0
  ∧ State.reset.brakeRelease = false

/-- Every condition the step keeps holds at reset. -/
def Obligations.ConditionsHoldAtReset : Prop :=
  StartAgrees State.reset ∧ SafeOutputs State.reset ∧ EnableOwned State.reset
    ∧ OutputInRange State.reset ∧ Bounded State.reset ∧ ListsOrdered State.reset ∧ RingKept State.reset
    ∧ TokensAgree State.reset ∧ SettingsHeld State.reset ∧ LoanDropsCleared State.reset

/-! ### Start-up (chapter 11) -/

/-- Full reset: every block holds its reset values (R185). That the pin levels and the waiting commands stand
is the model's choice, log entry 5. -/
def Obligations.FullResetRestoresEveryBlock : Prop :=
  ∀ s : State, ∃ t, exec .fullReset s = .next t ∧ Frame [.inputs] State.reset { t with pending := [] }
    ∧ t.inputs = s.inputs ∧ t.pending = s.pending

/-- Entry to READING samples the straps and tests causes 1 and 2 in order (R186). -/
def Obligations.ReadingEntryTestsStraps : Prop :=
  ∀ (p : Straps) (s : State), s.startup.state = .reset → ∃ t, exec (.readingEntry p) s = .next t
    ∧ t.startup.station = p.station ∧ t.startup.rate = p.rate
    ∧ (p.memoryPresent = false → t.startup.state = .halted ∧ t.startup.haltCause = 1)
    ∧ (p.memoryPresent = true → p.rate = 3 → t.startup.state = .halted ∧ t.startup.haltCause = 2)
    ∧ (p.memoryPresent = true → p.rate ≠ 3 →
        t.startup.state = .reading ∧ t.faultPin = false ∧ Frame [.startup] (begin s) t)

/-- A byte not answered ends READING in HALTED with cause 3, with every output safe (R186, R191). -/
def Obligations.ByteTimeoutHalts : Prop :=
  ∀ s : State, s.startup.state = .reading → ∃ t, exec .settingsByteTimeout s = .next t
    ∧ t.startup.state = .halted ∧ t.startup.haltCause = 3 ∧ t.line.state = .halted
    ∧ t.time.running = false ∧ driveSafe t.drive ∧ t.walk.coilOut = false ∧ t.discreteOutputs = 0
    ∧ Frame [.startup, .line, .time, .drive, .share, .walk] (begin s) t

/-- The conditions of TABLE 11-2 from cause 4 on are tested in order; a block that meets them all takes the
station to SELFTEST with the header's check as its signature, and forms the settings image: the stored
values, each held to its fixed range, then to the dependent ranges of TABLE 11-3 (R186, R187). The clamped
flag is set where the image differs from the values stored, the home shares as held to 0 to 64 for cause 8 and
not counted (log entry 13). Where the block holds the rope fields, the bits of a capture selection and a slave
source of 3 is the model's reading, log entry 6; that the trip current is held against the stall limit of the
first pass, log entry 51. -/
def Obligations.SettingsBlockTestedInOrder : Prop :=
  ∀ (block : List Byte) (s : State), s.startup.state = .reading →
    ∃ t, exec (.settingsImageComplete block) s = .next t
    ∧ (let formatFails := block16 block 0 ≠ 2 ∨ block16 block 2 ≠ 512
       let checkFails := blockCheck block ≠ headerCheck block
       let rolesFail := (∃ k < 8, 5 < roleByte block k)
         ∨ ∃ j k, j < k ∧ k < 8 ∧ roleByte block j = roleByte block k ∧ roleByte block k ≠ 0
       let ownNone := roleByte block s.station = 0
       let sharesFail := 64 < ((List.range 8).map (homeByte block)).sum
       let haltsWith (n : Nat) := t.startup.state = .halted ∧ t.startup.haltCause = n
       (formatFails → haltsWith 4) ∧ (¬ formatFails → checkFails → haltsWith 5)
       ∧ (¬ formatFails → ¬ checkFails → rolesFail → haltsWith 6)
       ∧ (¬ formatFails → ¬ checkFails → ¬ rolesFail → ownNone → haltsWith 7)
       ∧ (¬ formatFails → ¬ checkFails → ¬ rolesFail → ¬ ownNone → sharesFail → haltsWith 8)
       ∧ (¬ formatFails → ¬ checkFails → ¬ rolesFail → ¬ ownNone → ¬ sharesFail →
           t.startup.state = .selftest ∧ t.startup.signature = headerCheck block
           ∧ t.line.loopback = true ∧ t.line.state = s.line.state
           ∧ ∃ role, Role.ofCode (roleByte block s.station) = some role ∧
             (let raw := rawSettings block role
              let g := t.startup.settings.globals
              let p := t.startup.settings.params
              let rawD := raw.params.drive
              let within (lo hi x : Nat) : Nat := max lo (min hi x)
              t.startup.clamped = decide (t.startup.settings ≠ raw)
              ∧ t.startup.settings.table
                  = raw.table.map (fun e => { e with subs := e.subs ||| 0x10000#32 })
              ∧ g.pacePeriod = within 5 50 raw.globals.pacePeriod
              ∧ g.statusPoint = min raw.globals.statusPoint (g.pacePeriod - 1)
              ∧ g.longLength = within 2 64 raw.globals.longLength
              ∧ g.staleness = within 2 20 raw.globals.staleness
              ∧ g.window = within 1 32 raw.globals.window
              ∧ g.pool = within 100 30000 raw.globals.pool
              ∧ g.loanTerm = within 1 255 raw.globals.loanTerm
              ∧ g.highMark = within 500 1000 raw.globals.highMark
              ∧ g.lowMark = min raw.globals.lowMark (g.highMark - 100)
              ∧ g.contactorLimit = within 10 100 raw.globals.contactorLimit
              ∧ p.reserve = min 64 raw.params.reserve ∧ p.holdLimit = min 20 raw.params.holdLimit
              ∧ p.drive = ⟨within 100 2047 rawD.voltageSpan, within 100 2047 rawD.currentSpan,
                  within 1 65535 rawD.countsPerCycle, within 10 10000 rawD.ratedPower,
                  within 1 200 rawD.accel, within 1 200 rawD.decel, min 200 rawD.creep,
                  within 500 1500 rawD.stallKnee, max (min 2000 rawD.stallLimit) (p.drive.stallKnee + 50),
                  max (within 1000 2500 rawD.tripCurrent) (min 2000 rawD.stallLimit), min 50 rawD.brakeDelay,
                  within 5 100 rawD.brakeCheck⟩
              ∧ p.unit0 = { raw.params.unit0 with slaveSource := min 2 raw.params.unit0.slaveSource }
              ∧ p.unit1 = { raw.params.unit1 with slaveSource := min 2 raw.params.unit1.slaveSource }
              ∧ p.brakeInput = raw.params.brakeInput ∧ p.ds = raw.params.ds ∧ p.ws = raw.params.ws
              ∧ (role = .cab → p.cab.lead = min (within 1 32 raw.params.cab.lead) g.window
                  ∧ p.cab.handles = raw.params.cab.handles.map (fun h =>
                      ⟨within 1024 3072 h.centre, within 200 2000 h.span, min 200 h.deadband⟩))
              ∧ (role.isRope = true →
                  (let r := p.rope
                   let raw := raw.params.rope
                   let least := min 60000 raw.limitIn + 2 * r.stopMargin
                   r.countsPerMetre = within 100 20000 raw.countsPerMetre
                   ∧ r.stopMargin = within 10 1000 raw.stopMargin
                   ∧ r.zoneWidth = within 100 10000 raw.zoneWidth
                   ∧ r.refPosition = raw.refPosition ∧ r.hardLimit = raw.hardLimit
                   ∧ r.loadZero = min 2047 raw.loadZero ∧ r.loadSpan = within 100 3695 raw.loadSpan
                   ∧ r.slackThreshold = min 500 raw.slackThreshold
                   ∧ r.limitOut = min 65535 (max raw.limitOut least)
                   ∧ r.limitIn = (if 65535 < least then 65535 - 2 * r.stopMargin
                       else min 60000 raw.limitIn)
                   ∧ (role = .hoist → r.clearMark = min 65534 raw.clearMark
                       ∧ r.groundMark = max raw.groundMark (r.clearMark + 1)
                       ∧ r.maxLoad = within 500 2000 raw.maxLoad)
                   ∧ (role = .drag → r.tightLine = max (min 1000 raw.tightLine) p.drive.creep
                       ∧ r.yieldLimit = within 20 1000 raw.yieldLimit)))
              ∧ (role = .swing → p.swing = ⟨within 3600 4000000 raw.params.swing.countsPerRev,
                  min 3599 raw.params.swing.markAngle, within 1 200 raw.params.swing.markTolerance,
                  min 3599 raw.params.swing.walkAngle, within 1 300 raw.params.swing.walkWindow⟩)
              ∧ (role = .walk → p.walk.camMin = min 2000000 raw.params.walk.camMin
                  ∧ p.walk.camMax = max (min 2000000 raw.params.walk.camMax) p.walk.camMin
                  ∧ p.walk.countsPerRev = within 3600 4000000 raw.params.walk.countsPerRev
                  ∧ p.walk.stepLimit = within 100 10000 raw.params.walk.stepLimit
                  ∧ p.walk.askWait = within 20 1000 raw.params.walk.askWait
                  ∧ p.walk.stowAngle = min 3599 raw.params.walk.stowAngle
                  ∧ p.walk.stowWindow = within 1 900 raw.params.walk.stowWindow))))

/-- The PROBE bears the station number, the sequence number of its attempt (R5) and the words of TABLE 12-2.
Where the 138 cells from its start cell through its check are read back as sent, the self-test ends in LISTEN
with the listen timer at 0 (R188, R189) and the rejoin test in ACTIVE with counters and alone indication kept
(R20); where any differs, both end in HALTED with cause 9. The PROBE's target field is the model's choice, log entry 19. -/
def Obligations.LineTestsEndOrHalt : Prop :=
  ∀ (readBack : List Bool) (s : State),
    (let whole := readBack.take 138 = s.probe.cells
     s.probe.sender = s.startup.station ∧ s.probe.seq = s.line.txSeq
     ∧ s.probe.words = [21845, 43690, 21845, 43690, 21845, 43690]
     ∧ s.probe.kind = 21 ∧ s.probe.cls = 3 ∧ s.probe.check = s.probe.computedCheck
     ∧ s.probe.cells.length = 138
     ∧ (s.startup.state = .selftest →
        (whole → ∃ t, exec (.selftestEnd readBack) s = .next t ∧ t.startup.state = .listen
          ∧ t.startup.listenTimer = 0 ∧ t.line.state = .listening ∧ t.line.loopback = false
          ∧ Frame [.startup, .line] (begin s) t)
        ∧ (¬ whole → ∃ t, exec (.selftestEnd readBack) s = .next t ∧ t.startup.state = .halted
          ∧ t.startup.haltCause = 9 ∧ t.line.state = .halted))
     ∧ (s.line.state = .rejoining →
        (whole → ∃ t, exec (.rejoinTestEnd readBack) s = .next t ∧ t.line.state = .active
          ∧ t.line.loopback = false ∧ t.line.counters = s.line.counters
          ∧ t.line.noTakerRun = s.line.noTakerRun ∧ Frame [.line] (begin s) t)
        ∧ (¬ whole → ∃ t, exec (.rejoinTestEnd readBack) s = .next t ∧ t.startup.state = .halted
          ∧ t.startup.haltCause = 9 ∧ t.line.state = .halted ∧ t.time.running = false
          ∧ driveSafe t.drive)))

/-- The join: ACTIVE, fresh, no tokens (R190, R97). A running timer goes on, and STATION STARTED is raised at
the join time and holds the station TRIPPED; a timer that still stands stopped starts at the cycle start of
cycle 0 (R27). -/
def Obligations.JoinEntersQuarantine : Prop :=
  ∀ (i : Inputs) (s : State), s.startup.state = .listen → s.alarms.list = [] →
    ∃ t, exec (.listenTimerExpiry i) s = .next t
    ∧ t.startup.state = .joined ∧ t.line.state = .active ∧ t.time.running = true
    ∧ t.share.fresh = true ∧ t.share.own = 0
    ∧ (s.time.running = true → t.alarms.mode = .tripped ∧ t.share.borrowed = 0 ∧ t.share.lent = 0
        ∧ t.share.quarantine = 0 ∧ t.time.cycle = s.time.cycle ∧ t.time.offset = s.time.offset
        ∧ ∃ r ∈ t.alarms.list, r.code = .stationStarted ∧ r.detail = none ∧ r.state = .activeUnack
            ∧ r.raised = ⟨s.time.cycle, s.time.offset⟩)
    ∧ (s.time.running = false → t.time.cycle = 0 ∧ t.time.offset = 0)

/-- Full reset, and only that, leaves HALTED (R191). -/
def Obligations.OnlyFullResetLeavesHalted : Prop :=
  ∀ (c : Instr) (s t : State), StartAgrees s → s.startup.state = .halted → c ≠ .fullReset →
    exec c s = .next t → t.startup.state = .halted ∧ t.startup.haltCause = s.startup.haltCause
      ∧ t.line.state = .halted ∧ t.line.queue = []

/-- In HALTED the FAULT pin is released as often in the twenty 100 ms slots of its code as the halt cause says
(R191). That FAULT_PIN_PULSE takes the code to the start of its next slot is the model's choice, log
entry 8. -/
def Obligations.FaultPinCarriesCause : Prop :=
  (∀ s : State, s.startup.state = .halted → ∃ t, exec .faultPinPulse s = .next t
    ∧ t.startup.faultCount / 10000 = (s.startup.faultCount / 10000 + 1) % 20
    ∧ t.startup.faultCount % 10000 = 0 ∧ t.startup.haltCause = s.startup.haltCause
    ∧ t.faultPin = !(State.faultCodeReleased s.startup.haltCause t.startup.faultCount)
    ∧ Frame [.startup] (begin s) t)
  ∧ ∀ cause, cause ≤ 9 →
      ((List.range 20).filter fun k => State.faultCodeReleased cause (k * 10000)).length = cause

/-! ### Line time (chapter 2) -/

/-- The cycle timer's expiry: the next cycle at offset 0, the long-cycle counter advanced, every HEARD
record aged by 1, the settings and the encoder count as they were, and the capture units too unless the
sample shows an edge they select (R22, R23, R29, R31, R44). In ACTIVE its PACE stands in the queue unless a later
bulletin of that cycle start evicted it; outside ACTIVE it is refused (R23, R16). With no command waiting the step
is one 10 µs unit: the offset goes up by 1 or the timer expires, the listen timer goes up by 1 or ends LISTEN,
and the FAULT pin's code goes on (R22, R23, R189, R191). That CYCLE_START with a stopped timer changes nothing,
and that the step on an empty queue is such a unit, is the model's choice, log entries 1 and 4. -/
def Obligations.CycleStartAdvancesLineTime : Prop :=
  (∀ (i : Inputs) (s : State), ∃ t, exec (.cycleStart i) s = .next t
    ∧ (s.time.running = false → t = begin s)
    ∧ (s.time.running = true → t.time.cycle = s.time.cycle + 1 ∧ t.time.offset = 0
        ∧ t.time.running = true ∧ t.inputs = i ∧ cycleCame s t
        ∧ t.startup = s.startup ∧ t.encoder = s.encoder ∧ t.pending = s.pending
        ∧ (NoEdges s.inputs.din i.din s → t.unit0 = s.unit0 ∧ t.unit1 = s.unit1)
        ∧ (s.line.state = .active → (generalEntries (eldersReplaced .pace s.line.queue)).length < 8 →
            (∃ e ∈ t.line.queue, e.kind = .pace ∧ e.target = 15 ∧ e.words = words32 (s.time.cycle + 1)
              ∧ e.inFlight = false ∧ e.waited = 0)
            ∨ s.line.counters.evicted < t.line.counters.evicted ∨ t.line.counters.evicted = 65535)
        ∧ (s.line.state ≠ .active →
            s.line.counters.refused < t.line.counters.refused ∨ t.line.counters.refused = 65535)))
  ∧ ∀ s : State, s.pending = [] → ∃ t, step s = .next t ∧ t.pending = [] ∧ t.inputs = s.inputs
    ∧ (s.time.running = true → s.time.offset + 1 < s.units →
        t.time.cycle = s.time.cycle ∧ t.time.offset = s.time.offset + 1)
    ∧ (s.time.running = true → s.units ≤ s.time.offset + 1 →
        t.time.cycle = s.time.cycle + 1 ∧ t.time.offset = 0)
    ∧ (s.time.running = false → s.startup.state ≠ .listen → t.time = s.time)
    ∧ (s.startup.state = .listen → s.startup.listenTimer + 1 < 2 * s.units →
        t.startup = { s.startup with listenTimer := s.startup.listenTimer + 1 })
    ∧ (s.startup.state = .listen → 2 * s.units ≤ s.startup.listenTimer + 1 → t.startup.state = .joined)
    ∧ (s.startup.state = .halted →
        t.startup = { s.startup with faultCount := (s.startup.faultCount + 1) % 200000 })
    ∧ (s.startup.state ≠ .listen → s.startup.state ≠ .halted → t.startup = s.startup)

/-- A PACE taken, or passed on in LISTENING or LINE FAULT, while the timer runs: realignment with no cycle
start, or advance, skip or jump with one (TABLE 2-1, R25). The first PACE passed on in LISTEN starts the timer
at its cycle number with a cycle start: no jump (R24). Only in ACTIVE is it acknowledged (R3). -/
def Obligations.PaceSetsLineTime : Prop :=
  (∀ (b : Bulletin) (i : Inputs) (s : State), Reaches .pace b s → s.time.running = true →
      ∃ t, exec (.pace b i) s = .next t
      ∧ (let c := dword (payloadWord b.words 0) (payloadWord b.words 1)
         let e := stepError c s.time.cycle
         t.time.running = true ∧ t.time.offset = 0 ∧ t.line.ackSlot = (s.line.state == .active)
         ∧ (e = -1 → t.time.cycle = s.time.cycle ∧ t.time.inStep = min 255 (s.time.inStep + 1)
             ∧ t.time.longCount = s.time.longCount ∧ t.time.paceJumps = s.time.paceJumps
             ∧ t.picture = s.picture ∧ t.drive = s.drive
             ∧ ∀ x ∈ t.line.queue, x.kind = .pace → x.inFlight = true)
         ∧ (e = 0 ∨ e = 1 → t.time.cycle = c ∧ t.time.inStep = min 255 (s.time.inStep + 1)
             ∧ t.time.paceJumps = s.time.paceJumps)
         ∧ (e ≠ -1 → e ≠ 0 → e ≠ 1 → t.time.cycle = c ∧ t.time.inStep = 0
             ∧ t.time.paceJumps = min 65535 (s.time.paceJumps + 1))
         ∧ (e ≠ -1 → cycleCame s t ∧ t.inputs = i)))
  ∧ ∀ (b : Bulletin) (i : Inputs) (s : State), PassedOn .pace b s → s.startup.state = .listen →
      s.time.running = false → ∃ t, exec (.pace b i) s = .next t
      ∧ t.time.running = true ∧ t.time.offset = 0
      ∧ t.time.cycle = dword (payloadWord b.words 0) (payloadWord b.words 1)
      ∧ t.time.paceJumps = s.time.paceJumps ∧ t.time.inStep = s.time.inStep ∧ t.line.ackSlot = false
      ∧ cycleCame s t ∧ t.inputs = i

/-- The status point draws the next sequence number and places one STATUS with the fields of TABLE 3-2; a
second status point before the next cycle start does nothing (R28, R46). A bulletin whose arbitration is not
over by the status point, the PROBE of the line rejoin among them, carries the new number, and any other the
number it had (R5). And what a placement in ACTIVE comes to (R16): a TRIP takes the free
reserved entry; a STATUS, REFERENCE or PACE replaces its elders; a free general entry is taken; a full queue
gives up its newest WAITING entry of the greatest class above, or refuses. How long an arbitration lasts is the
model's reading, log entry 32; that an elder in flight stays marked where the newer one is refused is its
choice, log entry 33. -/
def Obligations.StatusPointPlacesStatus : Prop :=
  (∀ s : State, s.joined = true → s.time.running = true →
    (s.time.statusDone = true → exec .statusPoint s = .next (begin s))
    ∧ (s.time.statusDone = false → ∃ t, exec .statusPoint s = .next t
        ∧ t.picture.seq = s.picture.seq + 1 ∧ t.picture.peers = s.picture.peers
        ∧ t.time.statusDone = true ∧ t.time.offset = s.statusOffset
        ∧ Frame [.line, .time, .picture] (begin s) t
        ∧ (s.line.state = .active → hasSpace s → t.line.queue =
            eldersReplaced .status (begin s).line.queue ++
              [{ queued .status 15 s.statusFields.words with seq := s.picture.seq + 1 }])
        ∧ (s.line.state = .active → t.line.counters.statusSuperseded =
            if ∃ x ∈ s.line.queue, x.kind = .status ∧ x.inFlight = false then
              min 65535 (s.line.counters.statusSuperseded + 1)
            else s.line.counters.statusSuperseded)
        ∧ (s.line.state ≠ .active → t.line.queue = (begin s).line.queue
            ∧ t.line.counters.refused = min 65535 (s.line.counters.refused + 1))
        ∧ (s.statusOffset - s.time.offset < s.line.arbitration →
            (s.line.loopback = true ∨ ∃ e, flight s.line.queue = some e ∧ e.kind ≠ .status) →
            t.line.txSeq = s.picture.seq + 1)
        ∧ (s.line.arbitration ≤ s.statusOffset - s.time.offset → t.line.txSeq = s.line.txSeq)))
  ∧ ∀ (e : Entry) (s : State), s.line.state = .active → e.reserved = false →
      (let p := enqueue e s
       let e' : Entry := { e with rank := max e.rank e.kind.code }
       let q := eldersReplaced e.kind s.line.queue
       let reserved := e.kind = .trip ∧ ∀ x ∈ s.line.queue, x.reserved = false
       Frame [.line] s p.1
       ∧ (reserved → p.2 = .admitted ∧ OneMore { e' with reserved := true } s.line.queue p.1.line.queue)
       ∧ (¬ reserved → (generalEntries q).length < 8 →
           p.2 = .admitted ∧ OneMore e' q p.1.line.queue)
       ∧ (¬ reserved → 8 ≤ (generalEntries q).length →
           (∀ k x, GivesWay e.kind.cls q k x → p.2 = .evicted x
             ∧ OneMore e' (q.eraseIdx k) p.1.line.queue
             ∧ p.1.line.counters.evicted = min 65535 (s.line.counters.evicted + 1))
           ∧ ((∀ x ∈ q, x.inFlight = false → x.reserved = false → x.kind.cls ≤ e.kind.cls) →
             p.2 = .refused ∧ p.1.line.queue = q
             ∧ p.1.line.counters.refused = min 65535 (s.line.counters.refused + 1)))
       ∧ (e.kind = .reference → p.1.line.counters.expired =
           if ∃ x ∈ s.line.queue, x.kind = .reference ∧ x.inFlight = false then
             min 65535 (s.line.counters.expired + 1)
           else s.line.counters.expired))

/-! ### Sending (chapter 1) -/

/-- At an idle in ACTIVE the entry offered is the WAITING entry of lowest class, the earliest placed of its
class, and only it changes (R15). The cells sent for it carry its kind, the station number, its target and
payload, and the sequence number of R5, then the check, a recessive slot and seven recessive end cells (R4,
R5). -/
def Obligations.IdleOffersLowestClass : Prop :=
  ∀ (s : State) (k : Nat) (e : Entry), s.line.state = .active →
    (∀ x ∈ s.line.queue, x.inFlight = false) → s.line.queue[k]? = some e →
    (∀ x ∈ s.line.queue, e.kind.cls ≤ x.kind.cls) →
    (∀ x ∈ s.line.queue.take k, x.kind.cls ≠ e.kind.cls) →
    ∃ t, exec .lineIdleOffer s = .next t
    ∧ t.line.queue = (begin s).line.queue.set k { e with inFlight := true, rank := 0 }
    ∧ t.line.txSeq = (if e.kind = .status then e.seq else s.picture.seq)
    ∧ t.sent = some (.form e.kind s.startup.station e.target t.line.txSeq e.words)
    ∧ t.sentCells = (RawBulletin.form e.kind s.startup.station e.target t.line.txSeq e.words).cells
        ++ [true, true, true, true, true, true, true, true]
    ∧ 0 < t.line.arbitration ∧ Frame [.line] (begin s) t

/-- A lost arbitration counts, and the entry waits again with its attempts unchanged (R6). One of the first
three attempts that ends without an acknowledge leaves it waiting with one attempt more (R13). -/
def Obligations.UndeliveredEntryWaits : Prop :=
  ∀ (s : State) (k : Nat) (e : Entry), FlightAt s k e → e.due = none →
    (∃ t, exec .arbitrationLoss s = .next t
      ∧ t.line.queue = (begin s).line.queue.set k { e with inFlight := false, rank := 0 }
      ∧ t.line.counters
          = { s.line.counters with arbitrationLosses := min 65535 (s.line.counters.arbitrationLosses + 1) }
      ∧ t.line.bitErrorRun = s.line.bitErrorRun ∧ Frame [.line] (begin s) t)
    ∧ (e.attempts < 3 → ∃ t, exec (.attemptEnd false) s = .next t
      ∧ t.line.queue
          = (begin s).line.queue.set k { e with inFlight := false, attempts := e.attempts + 1, rank := 0 }
      ∧ t.line.counters = s.line.counters ∧ t.line.bitErrorRun = 0 ∧ Frame [.line] (begin s) t)

/-- A delivered attempt: the entry leaves, the sent counter adds 1, the run of bit errors ends (R13, R19). The
own STATUS delivered is copied into the own record, every field as sent (R47); that a count above 64 is copied
too is the model's choice, log entry 41. -/
def Obligations.DeliveredEntryLeaves : Prop :=
  ∀ (s : State) (k : Nat) (e : Entry), FlightAt s k e → s.alarms.list = [] →
    e.kind ≠ .restart →
    ∃ t, exec (.attemptEnd true) s = .next t
    ∧ t.line.queue = (begin s).line.queue.eraseIdx k
    ∧ t.line.counters = { s.line.counters with sent := min 65535 (s.line.counters.sent + 1) }
    ∧ t.line.bitErrorRun = 0
    ∧ (e.kind.isBroadcast = true → t.line.noTakerRun = 0 ∧ t.time.alone = false)
    ∧ (e.kind.isBroadcast = false → t.line.noTakerRun = s.line.noTakerRun)
    ∧ (e.kind = .status → s.station < s.picture.peers.length → ∀ x, StatusFields.read e.words = some x →
        (t.peer s.station).status = x ∧ (t.peer s.station).lastSeq = e.seq
        ∧ (t.peer s.station).heard = true ∧ (t.peer s.station).age = 0)

/-- The fourth attempt ends "no taker": the entry leaves and the counter adds 1; a broadcast's fourth such end
sets the alone indication (R13, R14). Stated for a kind on whose outcome no other block acts. That it ends
"no taker" also where a removal has fallen due is the model's reading, log entry 11; that the run is held at
4 is the model's choice, log entry 23. -/
def Obligations.FourthAttemptEndsNoTaker : Prop :=
  ∀ (s : State) (k : Nat) (e : Entry), FlightAt s k e → e.attempts = 3 →
    e.kind ∈ [Kind.trip, .pace, .restart, .alarmAck, .xferRefuse, .xferDone, .xferAbort, .xferRelease,
      .shareRefuse, .shareRecall, .status, .reference, .alarm, .reply] →
    ∃ t, exec (.attemptEnd false) s = .next t
    ∧ t.line.counters.noTaker = min 65535 (s.line.counters.noTaker + 1)
    ∧ (e.kind.isBroadcast = false → t.line.queue = (begin s).line.queue.eraseIdx k
        ∧ t.line.noTakerRun = s.line.noTakerRun ∧ Frame [.line] (begin s) t)
    ∧ (e.kind.isBroadcast = true → t.line.noTakerRun = min 4 (s.line.noTakerRun + 1)
        ∧ (s.line.noTakerRun < 3 → t.line.queue = (begin s).line.queue.eraseIdx k
            ∧ t.time.alone = s.time.alone)
        ∧ (3 ≤ s.line.noTakerRun → t.time.alone = true))

/-- A bit error counts and ends the attempt, a fourth one as "no taker"; the sixteenth in a row enters LINE
FAULT, whichever attempt of its entry it ends: both queues are emptied and LINE FAULT is raised (R7, R13,
R19). That a fourth attempt ends "no taker" also where a removal has fallen due is the model's reading, log
entry 11; that the attempt's end comes before the entry to LINE FAULT is its choice, log entry 46. -/
def Obligations.BitErrorsEnterLineFault : Prop :=
  ∀ (s : State) (k : Nat) (e : Entry), FlightAt s k e →
    ∃ t, exec .bitError s = .next t
    ∧ t.line.counters.bitErrors = min 65535 (s.line.counters.bitErrors + 1)
    ∧ (3 ≤ e.attempts → t.line.counters.noTaker = min 65535 (s.line.counters.noTaker + 1))
    ∧ (s.line.bitErrorRun < 15 → t.line.bitErrorRun = s.line.bitErrorRun + 1
        ∧ (∀ x ∈ t.line.queue, x.inFlight = false)
        ∧ (e.attempts < 3 → e.due = none → t.line.queue
            = (begin s).line.queue.set k { e with inFlight := false, attempts := e.attempts + 1, rank := 0 }
          ∧ Frame [.line] (begin s) t))
    ∧ (15 ≤ s.line.bitErrorRun → t.line.state = .lineFault ∧ t.line.queue = [] ∧ t.line.queries = []
        ∧ t.line.bitErrorRun = 0 ∧ t.line.faultStarts = 0
        ∧ (s.joined = true → s.alarms.list.length < 20 →
            ∃ r ∈ t.alarms.list, r.code = .lineFault ∧ r.state ≠ .clearedUnack))

/-- A SHARE-GRANT delivered moves its tokens from own to lent at the slot and books the loan: a new lent record
at the end of the list, or the borrower's record with the count added, and no other record changes (R103). The
XFER-YIELD's outcome while YIELDING: YIELDED when delivered, RECLAIMING under re-arm when its fourth attempt
fails (R130). -/
def Obligations.DeliveryMovesTokensAndMotors : Prop :=
  (∀ (s : State) (k : Nat) (e : Entry), FlightAt s k e → e.kind = .shareGrant →
      1 ≤ countOf e.words → countOf e.words ≤ 64 →
      ∃ t, exec (.attemptEnd true) s = .next t
      ∧ t.share.own = s.share.own - countOf e.words ∧ t.share.lent = s.share.lent + countOf e.words
      ∧ t.share.promised = s.share.promised - countOf e.words ∧ t.share.borrowed = s.share.borrowed
      ∧ t.share.borrowedRecords = s.share.borrowedRecords
      ∧ (let peer := e.target.toNat
         let was := s.share.lentRecords
         ((∀ r ∈ was, r.peer ≠ peer) → t.share.lentRecords
           = was ++ [⟨peer, countOf e.words, s.globals.loanTerm, none, grantOf e.words⟩])
         ∧ ((∃ r ∈ was, r.peer = peer) → t.share.lentRecords = was.map fun r =>
             if r.peer = peer then
               ⟨peer, r.count + countOf e.words, s.globals.loanTerm, none, grantOf e.words⟩
             else r)))
  ∧ ∀ (acked : Bool) (s : State) (k : Nat) (e : Entry), FlightAt s k e →
      e.kind = .xferYield → e.muted = false → s.role = .drag → s.rope.ownership = .yielding →
      s.rope.yieldSent = true → ∃ t, exec (.attemptEnd acked) s = .next t
      ∧ (acked = true → t.rope.ownership = .yielded ∧ t.rope.walkSeen = false
          ∧ t.rope.reclaimPending = false ∧ t.rope.yieldWait = 0)
      ∧ (acked = false → e.attempts = 3 → t.rope.ownership = .reclaiming ∧ t.ring.rearm = true
          ∧ t.ring.current = 0)

/-- The cab's ALARM-ACK delivered acks the table and freezes a floating first-out: the earliest TRIP record of the
acked table raised at or after the restart time, or where the ack removes the very record the copy names, the copy
as it stood (R179, R180); that case, and an ack placed before the episode opened, are the model's reading, log
entry 12. A RESTART that the cab sends takes effect there at its delivery: accepted, it closes the episode (R175, R180). -/
def Obligations.CabDeliveriesRuleTheEpisode : Prop :=
  (∀ (s : State) (k : Nat) (e : Entry), FlightAt s k e → e.kind = .alarmAck →
      s.role = .cab → s.alarms.list = [] → ∃ t, exec (.attemptEnd true) s = .next t
      ∧ t.table.records = s.table.records.filterMap (ackTableRecord (stampAt e.words 0))
      ∧ (s.table.episode = .floating → t.table.episode = .frozen
          ∧ (let named := fun (f : FirstOut) (r : TableRecord) => r.key = (f.source, f.code, f.detail)
               ∧ r.raised.le (stampAt e.words 0) = true ∧ r.state = .clearedUnack
             let earliest := (t.table.records.find? fun r => r.severity = .trip
               ∧ s.table.restartTime.le r.raised).map fun r => (⟨r.source, r.code, r.detail, r.raised⟩ : FirstOut)
             (s.table.firstOut = none → t.table.firstOut = earliest)
             ∧ ∀ f, s.table.firstOut = some f →
               ((∃ r ∈ s.table.records, named f r) → t.table.firstOut = some f)
               ∧ ((∀ r ∈ s.table.records, ¬ named f r) → t.table.firstOut = earliest)))
      ∧ (s.table.episode ≠ .floating → t.table.episode = s.table.episode
          ∧ t.table.firstOut = s.table.firstOut))
  ∧ ∀ (s : State) (k : Nat) (e : Entry), FlightAt s k e → e.kind = .restart →
      s.role = .cab → s.joined = true → s.alarms.mode = .tripped → s.tripStands = false →
      s.share.fresh = false → ∃ t, exec (.attemptEnd true) s = .next t
      ∧ t.alarms.mode = .run ∧ t.table.episode = .closed ∧ t.table.firstOut = none
      ∧ t.table.restartTime = ⟨s.time.cycle, s.time.offset⟩

/-! ### Reading bulletins (chapter 1) -/

/-- A bulletin read that meets a discard condition counts exactly once, as a format error or else as a check
error, and changes nothing more; a received command whose bulletin is ill-formed is a format error (R8). -/
def Obligations.DiscardCountsOnce : Prop :=
  (∀ (r : RawBulletin) (s : State), reads s = true → ∃ t, exec (.bulletinDiscard r) s = .next t
    ∧ Frame [.line] (begin s) t
    ∧ (r.formatHolds = false → t.line = { (untaken s).line with counters :=
        { s.line.counters with formatErrors := min 65535 (s.line.counters.formatErrors + 1) } })
    ∧ (r.formatHolds = true → r.check ≠ r.computedCheck → t.line = { (untaken s).line with counters :=
        { s.line.counters with checkErrors := min 65535 (s.line.counters.checkErrors + 1) } }))
  ∧ ∀ (c : Instr) (k : Kind) (b : Bulletin) (s : State), c.bulletin? = some (k, b) → reads s = true →
      b.wf k = false → ∃ t, exec c s = .next t ∧ Frame [.line] (begin s) t
        ∧ t.line = { (untaken s).line with counters :=
            { s.line.counters with formatErrors := min 65535 (s.line.counters.formatErrors + 1) } }

/-- A well-formed bulletin that the filter does not pass, or a QUERY with no room, is not acknowledged and
changes nothing (R9, R10); the cab keeps a directed XFER or SHARE bulletin it overhears, with the slot as
others drive it. A REPLY is taken by no station. A directed bulletin, though addressed to this station, is never
passed on in LISTENING or LINE FAULT (R3). That the cab keeps none before entry to JOINED is the
model's reading, log entry 16. -/
def Obligations.FilterRules : Prop :=
  (∀ (c : Instr) (k : Kind) (b : Bulletin) (s : State), c.bulletin? = some (k, b) → reads s = true →
    b.wf k = true → (k = .query ∨ b.sender.toNat ≠ s.station) →
    (filterPasses k b s && hasRoom k s) = false →
      (overhears k b s = false → exec c s = .next (untaken s))
      ∧ (overhears k b s = true → ∃ t, exec c s = .next t ∧ Frame [.line, .cab] (begin s) t
          ∧ t.line = (untaken s).line
          ∧ (k.isXfer = true → t.cab = { s.cab with
              xferHeard := some ⟨b.sender, b.target, k, b.words, b.otherAck⟩ })
          ∧ (k.isShare = true → t.cab = { s.cab with
              shareHeard := some ⟨b.sender, b.target, k, b.words, b.otherAck⟩ })))
  ∧ (∀ (b : Bulletin) (s : State), b.wf .reply = true → b.sender.toNat ≠ s.station →
      exec (.reply b) s = .next (untaken s))
  ∧ ∀ (c : Instr) (k : Kind) (b : Bulletin) (s : State), c.bulletin? = some (k, b) →
      s.line.state = .listening ∨ s.line.state = .lineFault → b.wf k = true → k.isBroadcast = false →
      (k = .query ∨ b.sender.toNat ≠ s.station) → exec c s = .next (untaken s)

/-- A bulletin bearing the own station number is never acted on: the clear count starts, and DUPLICATE
STATION is raised, or held in LISTENING (R11). That the count starts in LISTENING too is the model's reading,
log entry 31. -/
def Obligations.DuplicateStationHeard : Prop :=
  ∀ (c : Instr) (k : Kind) (b : Bulletin) (s : State), c.bulletin? = some (k, b) → reads s = true →
    b.wf k = true → k ≠ .query → b.sender.toNat = s.station → ∃ t, exec c s = .next t
    ∧ t.line.ackSlot = false ∧ t.line.dupCount = 0 ∧ t.line.dupCounting = true
    ∧ (s.line.state = .listening → t.line.dupHeld = true ∧ Frame [.line] (begin s) t)
    ∧ (s.line.state ≠ .listening → Frame [.line, .alarms, .table] (begin s) t
        ∧ t.line.dupHeld = s.line.dupHeld
        ∧ (s.joined = true → s.alarms.list.length < 24 →
            (∀ r ∈ s.alarms.list, r.code ≠ .duplicateStation) →
            t.alarms.list = alarmInsert ⟨.duplicateStation, none, s.now, .activeUnack, 0⟩ s.alarms.list))

/-! ### Trips, alarms and RESTART (chapter 10) -/

/-- A TRIP taken, or passed on in LINE FAULT, trips a joined station: the drive at 0 with its brake command SET
and a stop frame sent (R93), a walk in the middle of a transfer FAULTED and one in a step back in READY
(R163), no TRIP sent for it (R173), the sender's TRIP merged at the cab (R178). Before entry to JOINED it is
discarded (R165). The stop frame of a station that was TRIPPED already is the model's choice, log entry 9. -/
def Obligations.TripTakenTripsStation : Prop :=
  ∀ (b : Bulletin) (s : State), Reaches .trip b s →
    (s.joined = false → exec (.trip b) s = .next (handed s))
    ∧ (s.joined = true → ∃ t, exec (.trip b) s = .next t
    ∧ t.alarms.mode = .tripped ∧ t.line.ackSlot = (s.line.state == .active)
    ∧ (s.role.isAxis = true → driveSafe t.drive ∧ t.drive.frameWord = 0 ∧ t.drive.frameEnable = false)
    ∧ (s.role.isAxis = false → t.drive = s.drive)
    ∧ (∀ e ∈ t.line.queue, e.kind = .trip → e ∈ (begin s).line.queue)
    ∧ (s.role = .walk → (s.walk.state = .asking ∨ s.walk.state = .transferring →
          t.walk.state = .faulted ∧ t.walk.coil = false)
        ∧ (s.walk.state = .stepping ∨ s.walk.state = .settling → t.walk.state = .ready
          ∧ t.walk.stepCount = 0 ∧ t.walk.coil = s.walk.coil))
    ∧ (s.role = .cab →
        (s.alarms.mode = .run → t.table.episode = .floating)
        ∧ ∀ (code : AlarmCode) (detail : Option Nat) (raised : Stamp),
            tripOf b.words = some (code, detail, raised) → s.table.records.length < 64 →
            (∀ r ∈ s.table.records, r.key ≠ (b.sender.toNat, code, detail)) →
            t.table.records = tableInsert
              ⟨b.sender.toNat, code, detail, .trip, .activeUnack, raised, 0⟩ s.table.records)
    ∧ Frame [.line, .drive, .walk, .alarms, .table, .ring] (begin s) t)

/-- A RESTART taken, or passed on in LINE FAULT, is accepted in TRIPPED when no TRIP record stands, the station
is not fresh and an axis station's brake reads set: RUN, re-arm set. Else RESTART REFUSED is raised and
cleared with the first condition that fails as its detail (R175, R176). In RUN it changes nothing, and before
entry to JOINED it is discarded (R165). -/
def Obligations.RestartTaken : Prop :=
  ∀ (b : Bulletin) (s : State), Reaches .restart b s →
    (s.alarms.mode = .run ∨ s.joined = false → exec (.restart b) s = .next (handed s))
    ∧ (s.alarms.mode = .tripped → s.joined = true → ∃ t, exec (.restart b) s = .next t
        ∧ (let brakeOff := s.role.isAxis = true ∧ s.drive.brakeInput = false
           let refusedWith (d : Nat) := t.alarms.mode = .tripped
             ∧ (s.alarms.list.length < 24 → (∀ r ∈ s.alarms.list, r.code ≠ .restartRefused) →
                 ∃ r ∈ t.alarms.list, r.code = .restartRefused ∧ r.detail = some d
                   ∧ r.state = .clearedUnack ∧ r.raised = s.now)
           (s.tripStands = true → refusedWith 1)
           ∧ (s.tripStands = false → s.share.fresh = true → refusedWith 2)
           ∧ (s.tripStands = false → s.share.fresh = false → brakeOff → refusedWith 3)
           ∧ (s.tripStands = false → s.share.fresh = false → ¬ brakeOff →
               t.alarms = { s.alarms with mode := .run } ∧ t.line = (handed s).line
               ∧ (s.role.isAxis = true → t.ring = { s.ring with rearm := true, current := 0 })
               ∧ (s.role = .cab → t.table.episode = .closed ∧ t.table.firstOut = none
                   ∧ t.table.restartTime = s.now)
               ∧ Frame [.line, .alarms, .ring, .table] (begin s) t)))

/-- At a joined station an ALARM-ACK taken, or passed on in LINE FAULT, applies to every record raised at or
before its press time, in the list's order: active records become acked, a cleared record leaves (R169).
Before entry to JOINED it is discarded (R165). -/
def Obligations.AlarmAckAppliesToList : Prop :=
  ∀ (b : Bulletin) (s : State), Reaches .alarmAck b s →
    (s.joined = false → exec (.alarmAck b) s = .next (handed s))
    ∧ (s.joined = true → ListsOrdered s → ∃ t, exec (.alarmAck b) s = .next t
    ∧ t.alarms.list = s.alarms.list.filterMap (fun r =>
        if r.raised.le (stampAt b.words 0) then
          match r.state with
          | .activeUnack => some { r with state := .activeAck }
          | .activeAck => some r
          | .clearedUnack => none
        else some r)
    ∧ t.alarms.mode = s.alarms.mode ∧ t.alarms.lost = s.alarms.lost
    ∧ Frame [.line, .alarms, .table] (begin s) t)

/-- What a raise does to the list of a joined station: a new record at its raised time while there is room,
one repeat more on an active record, a new occurrence of a cleared one (R166); in a full list the oldest
cleared record gives way, failing that to a STOP or TRIP the oldest WARN record, failing that the raise is
lost, counted and flagged (R167); and what a clear does (R168). That a record re-activated stands after the
others of its raised time is the model's reading, log entry 22. -/
def Obligations.RaiseAndClearRuleTheList : Prop :=
  ∀ (code : AlarmCode) (detail : Option Nat) (s : State), s.joined = true → ListsOrdered s →
    (let t := raiseQuiet code detail s
     ((∀ r ∈ s.alarms.list, r.key ≠ (code, detail)) → s.alarms.list.length < 24 →
        t.alarms.list = alarmInsert ⟨code, detail, s.now, .activeUnack, 0⟩ s.alarms.list)
     ∧ ((∀ r ∈ s.alarms.list, r.key ≠ (code, detail)) → s.alarms.list.length = 24 →
        (let cleared := fun r : AlarmRecord => r.state = .clearedUnack
         let warn := fun r : AlarmRecord => r.code.severity = .warn
         let givesWay (k : Nat) := t.alarms.lost = s.alarms.lost ∧ t.alarms.list =
           alarmInsert ⟨code, detail, s.now, .activeUnack, 0⟩ (s.alarms.list.eraseIdx k)
         (∀ k, s.alarms.list.findIdx? cleared = some k → givesWay k)
         ∧ ((∀ r ∈ s.alarms.list, ¬ cleared r) → code.severity ≠ .warn →
             ∀ k, s.alarms.list.findIdx? warn = some k → givesWay k)
         ∧ ((∀ r ∈ s.alarms.list, ¬ cleared r) →
             code.severity = .warn ∨ (∀ r ∈ s.alarms.list, ¬ warn r) →
             t.alarms = { s.alarms with lost := min 65535 (s.alarms.lost + 1), overflow := true }
             ∧ t.line = s.line)))
     ∧ ∀ r ∈ s.alarms.list, r.key = (code, detail) →
        (r.state ≠ .clearedUnack →
          t.alarms.list = s.alarms.list.map fun x =>
            if x.key = (code, detail) then { x with repeats := min 255 (x.repeats + 1) } else x)
        ∧ (r.state = .clearedUnack →
          t.alarms.list = alarmInsert ⟨code, detail, s.now, .activeUnack, min 255 (r.repeats + 1)⟩
            (s.alarms.list.filter fun x => x.key ≠ (code, detail))))
    ∧ (let t := clearAlarm code detail s
       ((∀ r ∈ s.alarms.list, r.key ≠ (code, detail)) → t = s)
       ∧ ∀ r ∈ s.alarms.list, r.key = (code, detail) →
          (r.state = .activeUnack → t.alarms.list = s.alarms.list.map fun x =>
            if x.key = (code, detail) then { x with state := .clearedUnack } else x)
          ∧ (r.state = .activeAck →
            t.alarms.list = s.alarms.list.filter fun x => x.key ≠ (code, detail))
          ∧ (r.state = .clearedUnack → t = s)
          ∧ (s.stopInhibit = true → t.stopInhibit = false → s.role.isAxis = true →
              t.ring.rearm = true ∧ t.ring.current = 0))

/-- The cab merges an ALARM into its table: REMOVED takes the record out, another state enters it or
updates it with age 0, at its place where its raised time is unchanged; every other record stands (R177,
R178). In a full table the oldest cleared WARN record gives way to a new one, failing that the oldest WARN
record, failing that the new one is lost and counted; a refresh makes no room and is not counted (R178). At
the other roles it has no effect. Where a record with a new raised time stands among those of equal raised
time and source is the model's reading, log entry 22, and that a cab in LISTEN merges, log entry 16. -/
def Obligations.AlarmMergedAtCab : Prop :=
  ∀ (b : Bulletin) (s : State), Reaches .alarm b s →
    (s.role ≠ .cab ∨ mergeOf b.sender.toNat b.words = none → exec (.alarm b) s = .next (handed s))
    ∧ ∀ m, s.role = .cab → mergeOf b.sender.toNat b.words = some m → ∃ t, exec (.alarm b) s = .next t
        ∧ Frame [.line, .table] (begin s) t ∧ t.line = (handed s).line
        ∧ t.table.episode = s.table.episode
        ∧ (m.state = none → t.table.records
            = s.table.records.filter fun r => r.key ≠ (m.source, m.code, m.detail))
        ∧ (∀ st, m.state = some st →
            (let key := (m.source, m.code, m.detail)
             let r : TableRecord := ⟨m.source, m.code, m.detail, m.code.severity, st, m.raised, 0⟩
             let cleared := fun x : TableRecord => x.severity = .warn ∧ x.state = .clearedUnack
             let warn := fun x : TableRecord => x.severity = .warn
             let absent := ∀ x ∈ s.table.records, x.key ≠ key
             let givesWay (k : Nat) := t.table.lost = s.table.lost
               ∧ t.table.records = tableInsert r (s.table.records.eraseIdx k)
             (absent → s.table.records.length < 64 →
               t.table.records = tableInsert r s.table.records)
             ∧ ((∃ x ∈ s.table.records, x.key = key ∧ x.raised = m.raised) →
               t.table.records = s.table.records.map fun x => if x.key = key then r else x)
             ∧ (¬ absent → (∀ x ∈ s.table.records, x.key = key → x.raised ≠ m.raised) →
               t.table.records = tableInsert r (s.table.records.filter fun x => x.key ≠ key))
             ∧ (absent → 64 ≤ s.table.records.length →
               (m.refresh = true → t.table.records = s.table.records ∧ t.table.lost = s.table.lost)
               ∧ (m.refresh = false →
                 (∀ k, s.table.records.findIdx? cleared = some k → givesWay k)
                 ∧ ((∀ x ∈ s.table.records, ¬ cleared x) →
                     ∀ k, s.table.records.findIdx? warn = some k → givesWay k)
                 ∧ ((∀ x ∈ s.table.records, ¬ warn x) → t.table.records = s.table.records
                     ∧ t.table.lost = min 65535 (s.table.lost + 1))))))
        ∧ (s.table.episode = .floating → t.table.firstOut
            = (t.table.records.find? fun r => r.severity = .trip ∧ s.table.restartTime.le r.raised).map
                fun r => ⟨r.source, r.code, r.detail, r.raised⟩)

/-! ### The transfer of the drag motors (chapters 7 and 9) -/

/-- The drag answers the walk's XFER-ASK: the first row of TABLE 7-6 that holds. An XFER-ASK of another sender
has no effect, and the outcome of an XFER-REFUSE changes no ownership state (R128). -/
def Obligations.XferAskAnswered : Prop :=
  (∀ (acked : Bool) (s : State) (k : Nat) (e : Entry), FlightAt s k e → e.kind = .xferRefuse →
    ∃ t, exec (.attemptEnd acked) s = .next t ∧ t.rope.ownership = s.rope.ownership)
  ∧ ∀ (b : Bulletin) (s : State), Takes .xferAsk b s → s.role = .drag → s.joined = true →
    (s.numberOf .walk ≠ some b.sender.toNat → exec (.xferAsk b) s = .next (taken s))
    ∧ (s.numberOf .walk = some b.sender.toNat → ∃ t, exec (.xferAsk b) s = .next t
        ∧ (let refusedWith (n : Nat) := Frame [.line] (begin s) t
             ∧ (hasSpace s → t.line = { (taken s).line with queue := (taken s).line.queue ++
                 [queued .xferRefuse (BitVec.ofNat 4 b.sender.toNat) (reasonWords n)] })
           (s.rope.ownership ≠ .digging → refusedWith 1)
           ∧ (s.rope.ownership = .digging → s.alarms.mode = .tripped → refusedWith 2)
           ∧ (s.rope.ownership = .digging → s.alarms.mode = .run → Frame [.line, .rope, .drive] (begin s) t
               ∧ t.line = (taken s).line ∧ t.rope
                 = { s.rope with ownership := .yielding, yieldCount := 0, yieldSent := false }
               ∧ (s.drive.ownedSeen = true → t.drive.f = 0 ∧ t.drive.fieldWord = 0
                   ∧ t.drive.enable = false ∧ t.drive.brake = s.drive.brake))))

/-- The walk in ASKING: an XFER-YIELD closes the coil and enters TRANSFERRING; an XFER-REFUSE returns it to
PARKED, and TRANSFER REFUSED is raised and cleared with its reason (R151, R152). In every other state, and
from another sender, both change nothing. -/
def Obligations.AskingWalkAnswered : Prop :=
  ∀ (b : Bulletin) (s : State), s.role = .walk → s.joined = true → EnableOwned s →
    (Takes .xferYield b s →
      (s.numberOf .drag = some b.sender.toNat → s.walk.state = .asking →
        ∃ t, exec (.xferYield b) s = .next t
        ∧ t.walk = { s.walk with state := .transferring, stateCount := 0, coil := true, coilOut := true }
        ∧ Frame [.line, .walk] (begin s) t)
      ∧ (s.numberOf .drag ≠ some b.sender.toNat ∨ s.walk.state ≠ .asking →
          exec (.xferYield b) s = .next (taken s)))
    ∧ (Takes .xferRefuse b s →
      (s.numberOf .drag = some b.sender.toNat → s.walk.state = .asking →
        ∃ t, exec (.xferRefuse b) s = .next t
        ∧ t.walk = { s.walk with state := .parked, stateCount := 0 }
        ∧ (s.alarms.list.length < 24 → (∀ r ∈ s.alarms.list, r.code ≠ .transferRefused) →
            ∃ r ∈ t.alarms.list, r.code = .transferRefused ∧ r.detail = some (reasonOf b.words)
              ∧ r.state = .clearedUnack ∧ r.raised = s.now)
        ∧ Frame [.line, .walk, .alarms, .table] (begin s) t)
      ∧ (s.numberOf .drag ≠ some b.sender.toNat ∨ s.walk.state ≠ .asking →
          exec (.xferRefuse b) s = .next (taken s)))

/-- The drag at an XFER-ABORT of the walk, taken or passed on in LINE FAULT, and at its XFER-RELEASE (R131,
TABLE 7-7). Before entry to JOINED (the model's reading, log entry 16), and from another sender, neither has
an effect. -/
def Obligations.DragReclaims : Prop :=
  ∀ (b : Bulletin) (s : State), s.role = .drag →
    (s.joined = false ∨ s.numberOf .walk ≠ some b.sender.toNat →
      (Reaches .xferAbort b s → exec (.xferAbort b) s = .next (handed s)))
    ∧ (s.numberOf .walk ≠ some b.sender.toNat →
      (Takes .xferRelease b s → exec (.xferRelease b) s = .next (taken s)))
    ∧ (s.joined = true → s.numberOf .walk = some b.sender.toNat →
    (Reaches .xferAbort b s →
      (s.rope.ownership = .yielding → ∃ t, exec (.xferAbort b) s = .next t
        ∧ t.rope = { s.rope with ownership := .reclaiming }
        ∧ t.ring = { s.ring with rearm := true, current := 0 }
        ∧ Frame [.line, .ring, .rope, .drive] (begin s) t)
      ∧ (s.rope.ownership = .yielded → ∃ t, exec (.xferAbort b) s = .next t
        ∧ t.rope = { s.rope with reclaimPending := true } ∧ t.line = (handed s).line
        ∧ Frame [.line, .rope] (begin s) t)
      ∧ (s.rope.ownership = .digging ∨ s.rope.ownership = .reclaiming →
          exec (.xferAbort b) s = .next (handed s)))
    ∧ (Takes .xferRelease b s →
      (s.rope.ownership = .yielded → ∃ t, exec (.xferRelease b) s = .next t
        ∧ t.rope = { s.rope with reclaimPending := true } ∧ t.line = (taken s).line
        ∧ Frame [.line, .rope] (begin s) t)
      ∧ (s.rope.ownership ≠ .yielded → exec (.xferRelease b) s = .next (taken s))))

/-- A joined cab keeps an XFER-DONE or XFER-ABORT taken, or passed on in LINE FAULT, as its most recent XFER
bulletin, delivered; at the other roles an XFER-DONE has no effect (R3, R10, R156). At each of its cycle
starts the joined cab judges and scales its handles (R56, R57), moves its buttons by TABLE 4-3 (R58),
debounces WALK MODE (R59) and places the REFERENCE of TABLE 4-4 (R60), an ALARM-ACK at a recognised ACK press
(R182), and at a RESTART press a RESTART, or the refusal flash (R183), said of the table after the cycle start:
the flash wherever a TRIP record or a fresh station stands, the RESTART where no record can have gone since the
press, because no placement was refused, or nothing is borrowed, or the list has room left. Its discrete outputs
follow TABLE 10-4 (R181); which output carries which is the model's choice, log entry 7. That the counts advance
before the buttons are sampled is the model's reading, log entry 29, and that the table is purged before them,
log entry 3. -/
def Obligations.CabKeepsXferBroadcasts : Prop :=
  (∀ (b : Bulletin) (s : State), s.joined = true →
    (s.role = .cab → ∀ k c, (k, c) ∈ [(Kind.xferDone, Instr.xferDone b), (.xferAbort, .xferAbort b)] →
      Reaches k b s → ∃ t, exec c s = .next t
        ∧ t.cab = { s.cab with
            xferHeard := some ⟨b.sender, b.target, k, b.words, true⟩ }
        ∧ t.line = (handed s).line ∧ Frame [.line, .cab] (begin s) t)
    ∧ (s.role ≠ .cab → Reaches .xferDone b s → exec (.xferDone b) s = .next (handed s)))
  ∧ (∀ (i : Inputs) (s : State), s.role = .cab → s.joined = true → s.time.running = true →
      s.cab.handleFault.length = 4 → ∃ t, exec (.cycleStart i) s = .next t ∧ t.inputs = i
      ∧ (let x (k : Nat) : Nat := Inputs.channel i k
         let p (k : Nat) : HandleParams := s.params.cab.handles.getD k {}
         let inRange (k : Nat) : Bool := decide (100 ≤ x k ∧ x k ≤ 3995)
         let off (k : Nat) : Int := (x k : Int) - (p k).centre
         let value (k : Nat) : Int :=
           if inRange k = false ∨ (off k).natAbs ≤ (p k).deadband then 0
           else max (-1000) (min 1000 ((off k * 1000).tdiv (p k).span))
         let moves (was now : Button) (pressed : Bool) : Prop :=
           now = if pressed then (if was = .up then .edge else .down) else .up
         let ack := t.inputActive s.params.cab.ackInput
         let restart := t.inputActive s.params.cab.restartInput
         let walk := t.inputActive s.params.cab.walkModeInput
         let admits := s.line.state = .active ∧ s.line.counters.refused < 65535
           ∧ s.line.counters.evicted < 65535 ∧ t.line.counters.refused = s.line.counters.refused
           ∧ t.line.counters.evicted = s.line.counters.evicted
         let sends (k : Kind) (words : List Word) := ∃ e ∈ t.line.queue,
           e.kind = k ∧ e.target = 15 ∧ e.words = words ∧ e.inFlight = false ∧ e.waited = 0
         let noRestart := (∃ r ∈ t.table.records, r.severity = .trip) ∨ t.share.fresh = true
           ∨ ∃ n < 8, n ≠ s.station ∧ t.isFresh (t.peer n) = true ∧ (t.peer n).status.fresh = true
         t.cab.handleFault = [!inRange 0, !inRange 1, !inRange 2, !inRange 3]
         ∧ (∀ k, k < 4 → inRange k = false → s.cab.handleFault.getD k false = false →
             (∃ r ∈ t.alarms.list, r.code = .handleFault ∧ r.detail = some k ∧ r.state ≠ .clearedUnack)
             ∨ s.alarms.lost < t.alarms.lost ∨ t.alarms.lost = 65535)
         ∧ (∀ k, k < 4 → inRange k = true → s.cab.handleFault.getD k false = true → ListsOrdered s →
             ∀ r ∈ t.alarms.list, r.code = .handleFault → r.detail = some k → r.state = .clearedUnack)
         ∧ moves s.cab.ackButton t.cab.ackButton ack ∧ moves s.cab.restartButton t.cab.restartButton restart
         ∧ t.cab.walkSample = walk
         ∧ t.cab.walkMode = (if walk = s.cab.walkSample then walk else s.cab.walkMode)
         ∧ t.cab.xferHeard = s.cab.xferHeard ∧ t.cab.shareHeard = s.cab.shareHeard
         ∧ (admits → sends .reference (ReferenceFields.words
             ⟨(s.time.cycle + 1).setWidth 16 + BitVec.ofNat 16 s.params.cab.lead,
              value 0, value 1, value 2, value 3, inRange 0, inRange 1, inRange 2, inRange 3,
              t.cab.walkMode⟩))
         ∧ (admits → s.cab.ackButton = .edge → ack = true →
             sends .alarmAck (Stamp.words ⟨s.time.cycle + 1, 0⟩))
         ∧ (s.cab.restartButton = .edge → restart = true →
             (noRestart → t.table.refusalFlash = 50)
             ∧ (admits ∨ s.share.borrowedRecords = []
                   ∨ (t.alarms.list.length < 24 ∧ ListsOrdered s ∧ LoanDropsCleared s) →
                 ¬ noRestart → t.table.refusalFlash = s.table.refusalFlash - 1
                   ∧ (admits → sends .restart [])))
         ∧ (s.cab.restartButton ≠ .edge ∨ restart = false →
             t.table.refusalFlash = s.table.refusalFlash - 1)))
  ∧ ∀ s : State,
      let on (k : Nat) : Prop := s.discreteOutputs.getLsbD k = true
      let unacked (v : Severity) : Prop := ∃ r ∈ s.table.records, r.severity = v ∧ r.state ≠ .activeAck
      let acked (v : Severity) : Prop := ∃ r ∈ s.table.records, r.severity = v ∧ r.state = .activeAck
      let lit (v : Severity) (flash : Prop) : Prop :=
        ((unacked v ∨ flash) ∧ s.table.flashPhase = true) ∨ (¬ (unacked v ∨ flash) ∧ acked v)
      (s.role ≠ .cab ∨ s.joined = false → s.discreteOutputs = 0)
      ∧ (s.role = .cab → s.joined = true →
          (on 0 ↔ ∃ r ∈ s.table.records, r.state ≠ .activeAck)
          ∧ (on 1 ↔ lit .trip (0 < s.table.refusalFlash)) ∧ (on 2 ↔ lit .stop False)
          ∧ (on 3 ↔ lit .warn False)
          ∧ (s.table.firstOut = none → ¬ on 4 ∧ ¬ on 5 ∧ ¬ on 6)
          ∧ (∀ f, s.table.firstOut = some f → f.source < 8 →
              f.source = s.discreteOutputs.toNat / 16 % 8)
          ∧ (on 7 ↔ s.table.episode ≠ .closed ∧ s.table.firstOut ≠ none))

/-! ### Demand shares (chapter 6) -/

/-- A SHARE-ASK answered by the first row of TABLE 6-3 that holds (R102). -/
def Obligations.ShareAskAnswered : Prop :=
  ∀ (b : Bulletin) (s : State), Takes .shareAsk b s → hasSpace s → ∃ t, exec (.shareAsk b) s = .next t
    ∧ Frame [.line, .share] (begin s) t
    ∧ (let count := min 64 (countOf b.words)
       let answers (k : Kind) (words : List Word) := t.line = { (taken s).line with
         queue := (taken s).line.queue ++ [queued k (BitVec.ofNat 4 b.sender.toNat) words] }
       let refusedWith (n : Nat) := answers .shareRefuse (reasonWords n) ∧ t.share = s.share
       (count = 0 → refusedWith 1)
       ∧ (count ≠ 0 → s.share.fresh = true → refusedWith 2)
       ∧ (count ≠ 0 → s.share.fresh = false → s.spare = 0 → refusedWith 3)
       ∧ (count ≠ 0 → s.share.fresh = false → s.spare ≠ 0 →
           answers .shareGrant (grantWords (min count s.spare) s.share.grantNumber)
           ∧ t.share = { s.share with grantNumber := s.share.grantNumber + 1,
                                      promised := s.share.promised + min count s.spare }))

/-- A SHARE-GRANT taken books its tokens as borrowed, in one record for its lender, and ends the ask it
answers (R101, R103); a SHARE-REFUSE ends the ask it answers and changes nothing else (R101). That the counts
grow without a bound at 64 is the model's choice, log entry 41. -/
def Obligations.AskAnswersTaken : Prop :=
  ∀ (b : Bulletin) (s : State), s.share.fresh = false →
    (Takes .shareGrant b s → 1 ≤ countOf b.words → countOf b.words ≤ 64 →
      ∃ t, exec (.shareGrant b) s = .next t ∧ Frame [.line, .share] (begin s) t
      ∧ t.share.borrowed = s.share.borrowed + countOf b.words ∧ t.share.own = s.share.own
      ∧ t.share.lent = s.share.lent ∧ t.share.lentRecords = s.share.lentRecords
      ∧ (s.share.ask.any (fun a => a.peer == b.sender.toNat) = true → t.share.ask = none)
      ∧ (s.share.ask.any (fun a => a.peer == b.sender.toNat) = false → t.share.ask = s.share.ask)
      ∧ ((∀ r ∈ s.share.borrowedRecords, r.peer ≠ b.sender.toNat) →
          t.share.borrowedRecords = s.share.borrowedRecords ++
            [⟨b.sender.toNat, countOf b.words, s.globals.loanTerm, grantOf b.words, .holding, 0, 0, none⟩])
      ∧ ((∃ r ∈ s.share.borrowedRecords, r.peer = b.sender.toNat) →
          t.share.borrowedRecords = s.share.borrowedRecords.map fun r =>
            if r.peer = b.sender.toNat then
              { r with count := r.count + countOf b.words, term := s.globals.loanTerm,
                       grantNumber := grantOf b.words }
            else r))
    ∧ (Takes .shareRefuse b s →
      (s.share.ask.any (fun a => a.peer == b.sender.toNat) = true →
        ∃ t, exec (.shareRefuse b) s = .next t ∧ Frame [.line, .share] (begin s) t
          ∧ t.share = { s.share with ask := none })
      ∧ (s.share.ask.any (fun a => a.peer == b.sender.toNat) = false →
          exec (.shareRefuse b) s = .next (taken s)))

/-- A SHARE-RETURN taken at the lender moves the smaller of its count and the record's from lent to own; at
0 the record leaves. One whose grant number is not the record's has no effect. At the borrower, a delivered
return takes its count from the record of its grant, which leaves at 0 and else is HOLDING again; a return
without a taker drops that loan and raises SHARE LOAN DROPPED; where a merged grant has changed the grant
number, the record is HOLDING again with its tokens (R108). A return whose record a fresh flag ended moves
nothing, and its outcome raises nothing (R112). How an outcome finds its record is the model's reading, log
entry 17. -/
def Obligations.ReturnTakenMovesTokens : Prop :=
  (∀ (b : Bulletin) (s : State), Takes .shareReturn b s → s.share.fresh = false →
    ((∀ r ∈ s.share.lentRecords, r.peer ≠ b.sender.toNat ∨ r.grantNumber ≠ grantOf b.words) →
      exec (.shareReturn b) s = .next (taken s))
    ∧ ∀ r ∈ s.share.lentRecords, r.peer = b.sender.toNat → r.grantNumber = grantOf b.words →
        (s.share.lentRecords.map (·.peer)).Nodup → 1 ≤ countOf b.words → countOf b.words ≤ 64 →
        ∃ t, exec (.shareReturn b) s = .next t ∧ Frame [.line, .share] (begin s) t
        ∧ t.line = (taken s).line
        ∧ (let m := min (countOf b.words) r.count
           t.share.own = s.share.own + m ∧ t.share.lent = s.share.lent - m
           ∧ t.share.borrowed = s.share.borrowed
           ∧ (m < r.count → { r with count := r.count - m } ∈ t.share.lentRecords)
           ∧ (r.count ≤ countOf b.words → ∀ x ∈ t.share.lentRecords, x.peer ≠ b.sender.toNat)
           ∧ ∀ x, x.peer ≠ b.sender.toNat → 0 < x.count →
               (x ∈ t.share.lentRecords ↔ x ∈ s.share.lentRecords)))
  ∧ ∀ (s : State) (k : Nat) (e : Entry), FlightAt s k e → e.kind = .shareReturn → s.alarms.list = [] →
      (s.share.borrowedRecords.map (·.peer)).Nodup →
      (let peer := e.target.toNat
       let gone := fun r : BorrowedRecord =>
         ¬ (r.peer = peer ∧ r.inFlight = some (countOf e.words, grantOf e.words))
       let others (t : State) := t.share = { s.share with
           borrowed := t.share.borrowed, borrowedRecords := t.share.borrowedRecords }
         ∧ ∀ x, x.peer ≠ peer → 0 < x.count →
           (x ∈ t.share.borrowedRecords ↔ x ∈ s.share.borrowedRecords)
       let held (r : BorrowedRecord) (n : Nat) : BorrowedRecord :=
         { r with count := n, state := .holding, shed := 0, shedWait := 0, inFlight := none }
       let drops (t : State) := ∃ r ∈ t.alarms.list, r.code = .shareLoanDropped ∧ r.detail = some peer
         ∧ r.state = .clearedUnack ∧ r.raised = s.now
       (∃ t, exec (.attemptEnd true) s = .next t ∧ others t ∧ t.alarms = s.alarms
         ∧ Frame [.line, .share] (begin s) t
         ∧ ((∀ r ∈ s.share.borrowedRecords, gone r) → t.share = s.share)
         ∧ ∀ r ∈ s.share.borrowedRecords, ¬ gone r → 0 < r.count →
             (r.grantNumber = grantOf e.words →
               t.share.borrowed = s.share.borrowed - min (countOf e.words) r.count
               ∧ (countOf e.words < r.count → held r (r.count - countOf e.words) ∈ t.share.borrowedRecords)
               ∧ (r.count ≤ countOf e.words → ∀ x ∈ t.share.borrowedRecords, x.peer ≠ peer))
             ∧ (r.grantNumber ≠ grantOf e.words → t.share.borrowed = s.share.borrowed
               ∧ held r r.count ∈ t.share.borrowedRecords))
       ∧ (e.attempts = 3 → ∃ t, exec (.attemptEnd false) s = .next t ∧ others t
         ∧ Frame [.line, .share, .alarms, .table] (begin s) t
         ∧ (e.muted = true → t.alarms = s.alarms)
         ∧ (e.muted = false → s.joined = true → drops t)
         ∧ ((∀ r ∈ s.share.borrowedRecords, gone r) → t.share = s.share)
         ∧ ∀ r ∈ s.share.borrowedRecords, ¬ gone r →
             (r.grantNumber = grantOf e.words → t.share.borrowed = s.share.borrowed - r.count
               ∧ ∀ x ∈ t.share.borrowedRecords, x.peer ≠ peer)
             ∧ (r.grantNumber ≠ grantOf e.words → t.share.borrowed = s.share.borrowed
               ∧ held r r.count ∈ t.share.borrowedRecords)))

/-- A SHARE-RECALL taken: the sender's record sheds as TABLE 6-4 says, and no token moves yet (R110); a
fresh station acts on none (R97). -/
def Obligations.RecallTakenSheds : Prop :=
  ∀ (b : Bulletin) (s : State), Takes .shareRecall b s →
    (s.share.fresh = true → exec (.shareRecall b) s = .next (taken s))
    ∧ (s.share.fresh = false → ∃ t, exec (.shareRecall b) s = .next t ∧ Frame [.line, .share] (begin s) t
    ∧ t.line = (taken s).line
    ∧ (let c := if countOf b.words < 1 then 1 else if 64 < countOf b.words then 64 else countOf b.words
       t.share = { s.share with borrowedRecords := s.share.borrowedRecords.map fun r =>
         if r.peer ≠ b.sender.toNat then r
         else match r.state with
           | .holding => { r with state := .shedding, shed := min c r.count, shedWait := 0 }
           | .shedding => { r with shed := max r.shed (min c r.count) }
           | .returning => r }))

/-! ### Picture, ring and queries (chapters 3 and 4) -/

/-- A STATUS taken, or passed on in LISTENING or LINE FAULT, is the sender's record from then on, with age 0;
the numbers it skipped count as gaps; the foreign flag follows the signature, PEER SILENT of a joined station
clears; a fresh flag ends the loans between the two (R39 to R42, R112). -/
def Obligations.StatusTakenUpdatesRecord : Prop :=
  ∀ (b : Bulletin) (x : StatusFields) (s : State), Reaches .status b s → s.picture.peers.length = 8 →
    StatusFields.ofWords b.words = some x → ∃ t, exec (.status b) s = .next t
    ∧ (let p := s.peer b.sender.toNat
       let skipped := (b.seq - p.lastSeq - 1#8).toNat
       let missed := if p.heard = false ∨ (x.fresh = true ∧ b.seq = 1#8) ∨ skipped = 255 then 0 else skipped
       t.peer b.sender.toNat =
         { heard := true, age := 0, lastSeq := b.seq, gaps := min 65535 (p.gaps + missed),
           foreign := decide (x.signature ≠ s.startup.signature), status := x }
       ∧ t.line.counters.sequenceGaps = min 65535 (s.line.counters.sequenceGaps + missed))
    ∧ (∀ n, n ≠ b.sender.toNat → t.peer n = s.peer n)
    ∧ (∀ r ∈ t.alarms.list, r.code = .peerSilent → r.detail = some b.sender.toNat → s.joined = true →
        ListsOrdered s → r.state = .clearedUnack)
    ∧ (x.fresh = false → t.share = s.share)
    ∧ (x.fresh = true →
        (let back := ((s.share.lentRecords.filter fun r => r.peer = b.sender.toNat).map (·.count)).sum
         let gone :=
           ((s.share.borrowedRecords.filter fun r => r.peer = b.sender.toNat).map (·.count)).sum
         t.share = { s.share with
           own := s.share.own + back, lent := s.share.lent - back, borrowed := s.share.borrowed - gone,
           lentRecords := s.share.lentRecords.filter fun r => r.peer ≠ b.sender.toNat,
           borrowedRecords := s.share.borrowedRecords.filter fun r => r.peer ≠ b.sender.toNat }))
    ∧ Frame [.line, .picture, .share, .alarms, .table] (begin s) t

/-- The ring rules on a REFERENCE of the CAB station, taken or passed on in LISTENING or LINE FAULT, by the
distance of its tag from the cycle number (R63, R64, TABLE 4-6); one from another station, or while the timer
stands stopped, is not used. -/
def Obligations.ReferenceRuled : Prop :=
  ∀ (b : Bulletin) (s : State), Reaches .reference b s → s.role.isAxis = true →
    (s.numberOf .cab ≠ some b.sender.toNat ∨ s.time.running = false →
      exec (.reference b) s = .next (handed s))
    ∧ (s.numberOf .cab = some b.sender.toNat → s.time.running = true →
      ∃ t, exec (.reference b) s = .next t ∧ Frame [.line, .ring] (begin s) t
      ∧ (let e := (ReferenceFields.ofWords b.words).entryFor s.role
         let d := (e.tag - s.time.cycle.setWidth 16).toNat
         (d = 0 ∨ 32768 ≤ d → t.ring = s.ring ∧ t.line.counters = { s.line.counters with
            lateReferences := min 65535 (s.line.counters.lateReferences + 1) })
         ∧ (s.globals.window < d → d < 32768 → t.ring = s.ring ∧ t.line.counters = { s.line.counters with
            outOfWindow := min 65535 (s.line.counters.outOfWindow + 1) })
         ∧ (1 ≤ d → d ≤ s.globals.window → d < 32768 → t.line = (handed s).line
            ∧ slotEntry (slotOf e.tag) t.ring.slots = some e
            ∧ (∀ n, n ≠ slotOf e.tag → slotEntry n t.ring.slots = slotEntry n s.ring.slots)
            ∧ ((∃ x, slotEntry (slotOf e.tag) s.ring.slots = some x ∧ x.tag = e.tag) →
                t.ring.rewritten = min 65535 (s.ring.rewritten + 1))
            ∧ ((¬ ∃ x, slotEntry (slotOf e.tag) s.ring.slots = some x ∧ x.tag = e.tag) →
                t.ring.rewritten = s.ring.rewritten)
            ∧ t.ring = { s.ring with slots := t.ring.slots, rewritten := t.ring.rewritten })))

/-- A QUERY taken goes to the back of the query queue (R18). A cycle start in ACTIVE answers the oldest where
the transmit queue has room, and keeps it where the REPLY is refused: a REPLY entry to its sender, echoing
item, part and index (R18, R49). -/
def Obligations.QueryQueuedAndAnswered : Prop :=
  (∀ (b : Bulletin) (s : State), Takes .query b s → ∃ t, exec (.query b) s = .next t
    ∧ t.line = { (taken s).line with queries := s.line.queries ++ [queryOf b] }
    ∧ Frame [.line] (begin s) t)
  ∧ (∀ (q : Query) (rest : List Query) (i : Inputs) (s : State), s.time.running = true →
      s.line.state = .active → s.line.queries = q :: rest → s.statusOffset ≠ 0 →
      ∃ t, exec (.cycleStart i) s = .next t
      ∧ (t.line.queries = rest ∨ t.line.queries = q :: rest ∧ ¬ hasSpace t)
      ∧ (t.line.queries = rest → ∃ e ∈ t.line.queue, e.kind = .reply ∧ e.target = q.tag.setWidth 4
          ∧ e.words = replyWords t q ∧ e.inFlight = false ∧ e.waited = 0))
  ∧ ∀ (q : Query) (s : State), s.line.state = .active → hasSpace s →
      (s.line.queries = [] → answerQuery s = s)
      ∧ ∀ rest, s.line.queries = q :: rest →
        (answerQuery s).line.queries = rest ∧ Frame [.line] s (answerQuery s)
        ∧ ∃ e ∈ (answerQuery s).line.queue, e.kind = .reply ∧ e.target = q.tag.setWidth 4
          ∧ e.words = replyWords s q ∧ e.words.length = 6
          ∧ (q.item < 16 → wordField (payloadWord e.words 0) 0 4 = q.item)
          ∧ (q.part < 4 → wordField (payloadWord e.words 0) 4 2 = q.part)
          ∧ (q.index < 256 → wordField (payloadWord e.words 0) 8 8 = q.index)

/-! ### Pins: captured edges, the encoder, the drive hook, the emergency input -/

/-- A slave edge goes to the front of its unit's queue of 8 and counts (R32); a master edge records a result:
its stamp, its number, the slave edges since the last, and the slave entry the lead selects, with their
difference (R33, R34). One change of level that is both is a slave edge first; a unit that does not select
the change stands (R31). Units capture only in JOINED (R31). An edge command is the sample at which its
input, or the encoder index, has changed and no other input has: the model's choice, log entry 45. -/
def Obligations.EdgesCaptured : Prop :=
  ∀ (u : UnitIndex) (s : State),
    let sel := captureSel u s.params
    let c := s.captureUnit u
    let o := captureSel (otherUnit u) s.params
    let edge : SlaveEdge := ⟨s.now, s.encoder⟩
    let otherStands := fun t : State => t.captureUnit (otherUnit u) = s.captureUnit (otherUnit u)
    let otherSelects := (sel.slaveSource = 1 ∧ selects o sel.slaveInput sel.slaveRising)
      ∨ (2 ≤ sel.slaveSource ∧ 2 ≤ o.slaveSource ∧ o.slaveRising = sel.slaveRising)
    let noEmergency := fun t : State => s.role ≠ .cab
      ∨ s.cab.emergency = some (t.inputActive s.params.cab.emergencyInput)
    let atMost := fun t : State => Frame [.line, .unit0, .unit1, .inputs, .cab, .drive, .share, .rope, .swing,
      .walk, .alarms, .table] (begin s) t
    (s.joined = false → exec (.slaveEdge u) s = .next (begin s) ∧ exec (.masterEdge u) s = .next (begin s))
    ∧ (s.joined = true → sel.slaveSource = 0 → exec (.slaveEdge u) s = .next (begin s))
    ∧ (s.joined = true → sel.slaveSource ≠ 0 → ∃ t, exec (.slaveEdge u) s = .next t
        ∧ (t.captureUnit u).slaveQueue = (edge :: c.slaveQueue).take 8
        ∧ (t.captureUnit u).slaveCount = (c.slaveCount + 1) % 65536
        ∧ (¬ bothEdges sel → t.captureUnit u = withSlave edge c)
        ∧ (¬ otherSelects → otherStands t)
        ∧ (¬ bothEdges sel → ¬ otherSelects → noEmergency t →
            Frame [.unit0, .unit1, .inputs, .drive] (begin s) t)
        ∧ (2 ≤ sel.slaveSource → t.inputs = s.inputs)
        ∧ (sel.slaveSource = 1 → t.inputs.din.getLsbD sel.slaveInput = sel.slaveRising
            ∧ ∀ k < 8, k ≠ sel.slaveInput.val → t.inputs.din.getLsbD k = s.inputs.din.getLsbD k)
        ∧ atMost t)
    ∧ (s.joined = true → ∃ t, exec (.masterEdge u) s = .next t
        ∧ (¬ selects o sel.masterInput sel.masterRising → otherStands t)
        ∧ t.inputs.din.getLsbD sel.masterInput = sel.masterRising
        ∧ (∀ k < 8, k ≠ sel.masterInput.val → t.inputs.din.getLsbD k = s.inputs.din.getLsbD k)
        ∧ (∀ c' : CaptureUnit, (bothEdges sel → c' = withSlave edge c) → (¬ bothEdges sel → c' = c) →
            ∃ r, t.captureUnit u = { c' with masterCount := (c.masterCount + 1) % 65536,
                                             recordedSlave := c'.slaveCount, lastResult := some r }
            ∧ r.masterTime = s.now
            ∧ r.masterSnapshot = s.encoder ∧ r.masterCount = (c.masterCount + 1) % 65536
            ∧ r.slaveEdges = (c'.slaveCount + 65536 - c.recordedSlave) % 65536
            ∧ (sel.slaveSource = 0 ∨ c'.slaveQueue.length ≤ sel.lead → r.slave = none)
            ∧ ∀ e, sel.slaveSource ≠ 0 → c'.slaveQueue[sel.lead]? = some e → r.slave =
                some ⟨e.time, e.snapshot, max (-2147483647) (min 2147483647
                  ((s.time.cycle - e.time.cycle).toInt * s.units + (s.time.offset - e.time.offset : Int)))⟩)
        ∧ (s.role = .none ∨ s.role = .cab → noEmergency t →
            Frame [.unit0, .unit1, .inputs, .drive] (begin s) t)
        ∧ atMost t)

/-- Where a master edge of unit 0 calibrates or corrects: the rope's base from the snapshot, unless the
correction is above 50 cm (R117); the swing's base by the mark error of the matched slave snapshot, passed
clockwise (R135 to R137); the walk's step counter and its change to SETTLING (R158). One of unit 1 ends the
walk's step (R159). The swing count, the angle, the reported calibrated state and the parked-for-walk report
follow at a cycle start (R134, R137, R142), and so do a rope station's position, load and calibrated state and the
hoist's bucket class (R115, R116, R118, R121). That a unit's edge is told apart from one the other unit selects
too is the model's choice of order, log entry 45. -/
def Obligations.MarksCorrectPositions : Prop :=
  ∀ s : State, s.joined = true →
    (s.role.isRope = true → ∃ t, exec (.masterEdge .unit0) s = .next t
      ∧ (let p := s.params.rope
         let q := (s.encoder.toInt * 100).tdiv p.countsPerMetre
         let e := (p.refPosition : Int) - (q + s.rope.base)
         (s.rope.calibrated = true → 50 < e.natAbs → t.rope = s.rope)
         ∧ (s.rope.calibrated = false ∨ e.natAbs ≤ 50 →
             t.rope = { s.rope with base := p.refPosition - q, calibrated := true })))
    ∧ (s.role.isRope = true → s.time.running = true →
      ∀ i, NoEdges s.inputs.din i.din s → ∃ t, exec (.cycleStart i) s = .next t
      ∧ (let p := s.params.rope
         let r := t.rope
         let most := 3 * s.params.drive.countsPerCycle
         r.base = s.rope.base ∧ t.positionField = r.position
         ∧ (r.position : Int)
             = max 0 (min 65535 ((s.encoder.toInt * 100).tdiv p.countsPerMetre + s.rope.base))
         ∧ (r.load : Int) = max 0 (min 2500 ((((i.ch2.toNat : Int) - p.loadZero) * 1000).tdiv p.loadSpan))
         ∧ (s.drive.prevEncoder = none → r.calibrated = s.rope.calibrated)
         ∧ (∀ e, s.drive.prevEncoder = some e →
             ((s.encoder - e).toInt.natAbs ≤ most ∨ s.rope.encoderFault = true →
               r.calibrated = s.rope.calibrated)
             ∧ (most < (s.encoder - e).toInt.natAbs → s.rope.encoderFault = false → r.calibrated = false))
         ∧ r.calReport = r.calibrated
         ∧ (s.role = .hoist → r.bucket =
             if r.calibrated = false then .unknown
             else if r.position ≤ p.clearMark then .clear
             else if p.groundMark ≤ r.position ∧ r.load < p.slackThreshold then .grounded
             else .low)))
    ∧ (s.role = .swing → 0 < s.params.swing.countsPerRev → ∃ t r, exec (.masterEdge .unit0) s = .next t
      ∧ t.unit0.lastResult = some r
      ∧ (let p := s.params.swing
         let w := s.swing
         (r.slave = none → t.swing = w ∧ t.alarms = s.alarms)
         ∧ ∀ m, r.slave = some m →
           ((r.masterSnapshot - m.snapshot).toInt ≤ 0 → t.swing = w ∧ t.alarms = s.alarms)
           ∧ (0 < (r.masterSnapshot - m.snapshot).toInt →
               (let from0 : Int := match w.circle.sample with
                  | none => m.snapshot.toInt
                  | some e => w.circle.count + (m.snapshot - e).toInt
                let reduced : Nat := (from0 % (p.countsPerRev : Int)).toNat
                let a : Nat := (reduced * 3600 / p.countsPerRev + w.circle.base) % 3600
                ∃ e : Int, -1800 ≤ e ∧ e ≤ 1799 ∧ (a + e - p.markAngle) % 3600 = 0
                  ∧ (w.calibrated = false ∨ e.natAbs ≤ p.markTolerance → t.swing = { w with
                      markError := e, calibrated := true,
                      circle := { w.circle with base := ((w.circle.base + e) % 3600).toNat } })
                  ∧ (w.calibrated = true → e.natAbs ≤ p.markTolerance → ListsOrdered s →
                      ∀ x ∈ t.alarms.list, x.code = .swingMarkMismatch → x.detail = none →
                        x.state = .clearedUnack)
                  ∧ (w.calibrated = true → p.markTolerance < e.natAbs →
                      t.swing = { w with markError := e } ∧ standsOrLost .swingMarkMismatch s t)))))
    ∧ (s.role = .swing → s.time.running = true → 0 < s.params.swing.countsPerRev →
      ∀ i, NoEdges s.inputs.din i.din s → ∃ t, exec (.cycleStart i) s = .next t
      ∧ (let n : Int := s.params.swing.countsPerRev
         let c := t.swing.circle
         c.sample = some s.encoder ∧ c.base = s.swing.circle.base
         ∧ (s.swing.circle.sample = none → (c.count : Int) = s.encoder.toInt % n)
         ∧ (∀ e x, s.swing.circle.sample = some x → s.drive.prevEncoder = some e →
             (c.count : Int) = (s.swing.circle.count + (s.encoder - e).toInt) % n)
         ∧ c.angle = (c.count * 3600 / s.params.swing.countsPerRev + c.base) % 3600
         ∧ t.swing.calibrated = s.swing.calibrated ∧ t.swing.markError = s.swing.markError
         ∧ t.swing.calReport = s.swing.calibrated ∧ t.calibratedField = s.swing.calibrated
         ∧ t.positionField = c.angle
         ∧ (t.swing.parked = true ↔ s.swing.calibrated = true
             ∧ (∃ d : Int, d.natAbs ≤ s.params.swing.walkWindow ∧ -1800 ≤ d ∧ d ≤ 1799
                 ∧ (c.angle + d - s.params.swing.walkAngle) % 3600 = 0)
             ∧ t.inputActive s.params.brakeInput = true ∧ t.drive.speed.natAbs ≤ 5)))
    ∧ (s.role = .walk →
      (¬ selects s.params.unit1 s.params.unit0.masterInput s.params.unit0.masterRising →
        ∃ t, exec (.masterEdge .unit0) s = .next t
        ∧ t.walk.stepCounter = min 65535 (s.walk.stepCounter + 1) ∧ t.walk.referenced = true
        ∧ (s.walk.state = .stepping → t.walk.state = .settling)
        ∧ (s.walk.state ≠ .stepping → t.walk.state = s.walk.state))
      ∧ (¬ selects s.params.unit0 s.params.unit1.masterInput s.params.unit1.masterRising →
        ∃ t, exec (.masterEdge .unit1) s = .next t
        ∧ (s.walk.state ≠ .settling → t.walk = s.walk)
        ∧ (s.walk.state = .settling → s.drive.postTarget = 0 →
            t.walk = { s.walk with state := .ready, stateCount := 0 })
        ∧ (s.walk.state = .settling → s.drive.postTarget ≠ 0 →
            t.walk = { s.walk with state := .stepping, stateCount := 0, stepCount := 0 })))

/-- A transition of the encoder is one count, from the end of full reset on (R73); a frame's acknowledge ends
its wait (R89). That it counts in every start state but RESET is the model's reading, log entry 24. -/
def Obligations.EncoderAndLinkPins : Prop :=
  ∀ s : State,
    (∀ rises, ∃ t, exec (.encoderTransition rises) s = .next t ∧ Frame [.encoder] (begin s) t
      ∧ (s.startup.state = .reset → t.encoder = s.encoder)
      ∧ (s.startup.state ≠ .reset → t.encoder = if rises then s.encoder + 1 else s.encoder - 1))
    ∧ ∃ t, exec .fieldLinkAck s = .next t ∧ Frame [.drive] (begin s) t
      ∧ t.drive = { s.drive with awaiting := false }

/-- At the sample at which the owned hook goes false, drive enable, output, field word and ramp state go and
a stop frame is sent, the brake command standing (R88); a sample that shows no captured edge and does not
change the hook changes nothing but the inputs. Before the drive chain's first run no frame awaits an
acknowledge: the model's reading of R89, log entry 9. -/
def Obligations.OwnedHookLossStopsDrive : Prop :=
  ∀ (din : Byte) (s : State), s.joined = true → s.role.isAxis = true → EnableOwned s →
    ∃ t, exec (.ownedHookLoss din) s = .next t ∧ t.inputs = { s.inputs with din }
    ∧ (NoEdges s.inputs.din din s → Frame [.drive, .inputs] (begin s) t)
    ∧ Frame [.line, .unit0, .unit1, .drive, .rope, .swing, .walk, .alarms, .table, .inputs] (begin s) t
    ∧ (s.ownedHook = true → t.ownedHook = false → t.drive =
        { s.drive with f := 0, fieldWord := 0, enable := false, frameWord := 0, frameEnable := false,
                       awaiting := s.drive.ran, ownedSeen := false })
    ∧ (t.ownedHook = s.ownedHook → t.drive = s.drive)

/-- OPERATOR_STOP completes at every station, and away from a joined cab leaves cab function and alarm list
alone but for captured marks. The cab's emergency input: its first active sample raises OPERATOR STOP, which
trips the station and sends a TRIP; an inactive sample after an active one clears it, the mode standing
(R184, R173). The list is that one record more where the TRIP evicts no bulletin. -/
def Obligations.EmergencyInputTrips : Prop :=
  (∀ (din : Byte) (s : State), ∃ t, exec (.operatorStop din) s = .next t
    ∧ t.inputs = { s.inputs with din }
    ∧ (s.joined = false ∨ s.role ≠ .cab → t.cab = s.cab ∧ t.alarms.mode = s.alarms.mode
        ∧ (NoEdges s.inputs.din din s → Frame [.drive, .inputs] (begin s) t)))
  ∧ ∀ (din : Byte) (s : State), s.joined = true → s.role = .cab →
    ∃ t, exec (.operatorStop din) s = .next t ∧ t.inputs = { s.inputs with din }
    ∧ t.cab.emergency = some (t.inputActive s.params.cab.emergencyInput)
    ∧ (t.inputActive s.params.cab.emergencyInput = true → s.cab.emergency ≠ some true →
        s.alarms.list.length < 24 → (∀ r ∈ s.alarms.list, r.code ≠ .operatorStop) →
        t.alarms.mode = .tripped
        ∧ (∃ r ∈ t.alarms.list, r.code = .operatorStop ∧ r.detail = none ∧ r.raised = s.now
            ∧ r.state = .activeUnack)
        ∧ (s.line.state ≠ .active ∨ (∀ e ∈ s.line.queue, e.reserved = false)
              ∨ (generalEntries s.line.queue).length < 7 →
            t.alarms.list = alarmInsert ⟨.operatorStop, none, s.now, .activeUnack, 0⟩ s.alarms.list)
        ∧ (s.line.state = .active → (∀ e ∈ s.line.queue, e.reserved = false) →
            ∃ e ∈ t.line.queue, e.kind = .trip ∧ e.reserved = true
              ∧ e.words = tripWords .operatorStop none s.now))
    ∧ (t.inputActive s.params.cab.emergencyInput = false → s.cab.emergency = some true →
        ListsOrdered s → t.alarms.mode = s.alarms.mode
        ∧ ∀ r ∈ t.alarms.list, r.code = .operatorStop → r.detail = none → r.state = .clearedUnack)
    ∧ (s.cab.emergency = some (t.inputActive s.params.cab.emergencyInput) →
        t.alarms = s.alarms ∧ t.cab = s.cab ∧ Frame [.inputs, .drive, .unit0, .unit1] (begin s) t)

/-! ### The events of a cycle start -/

/-- The command of a cycle-start event is the cycle start at which that event falls; where the coming cycle
start would not bring it about, nothing occurs: the model's choice, log entry 1. -/
def Obligations.EventRowsAreCycleStarts : Prop :=
  ∀ (e : Event) (i : Inputs) (s : State),
    (fallsDue e i s = false → exec (e.command i) s = .next s)
    ∧ (fallsDue e i s = true → ∃ t, exec (e.command i) s = .next t ∧ exec (.cycleStart i) s = .next t
        ∧ e ∈ t.events ∧ t.time.cycle = s.time.cycle + 1 ∧ t.time.offset = 0)

/-- Events that counts of the line, the picture, the ring and the cab bring about: the long cycle (R29), the
end of DUPLICATE STATION (R11), the line rejoin, its PROBE at the present sequence number (R20, R5), a peer
going stale (R44), the hold limit of the ring (R66), the flash phase and the refusal flash (R181), the purge of
the table (R179). That the end of the DUPLICATE STATION count drops a raise still held is the model's reading,
log entry 31; so is how long the PROBE's arbitration lasts, in which a status point of that cycle start falls, log
entry 32. -/
def Obligations.CountedEventsFall : Prop :=
  ∀ (i : Inputs) (s : State), s.time.running = true →
    (s.globals.longLength ≤ s.time.longCount + 1 →
      ∃ t, exec (.longCycle i) s = .next t ∧ t.time.longCount = 0 ∧ t.time.cycle = s.time.cycle + 1)
    ∧ (s.line.dupCounting = true → 63 ≤ s.line.dupCount →
      ∃ t, exec (.duplicateStationClear i) s = .next t ∧ t.line.dupCounting = false
        ∧ t.line.dupHeld = false ∧ (s.joined = true → ListsOrdered s →
            ∀ r ∈ t.alarms.list, r.code = .duplicateStation → r.detail = none → r.state = .clearedUnack))
    ∧ (s.line.state = .lineFault → 63 ≤ s.line.faultStarts →
      ∃ t, exec (.lineRejoin i) s = .next t ∧ t.line.state = .rejoining ∧ t.line.loopback = true
        ∧ t.probe.seq = t.picture.seq)
    ∧ (∀ n, n < 8 → n ≠ s.station → (s.peer n).heard = true → (s.peer n).age = s.globals.staleness →
      s.globals.staleness < 255 → ∃ t, exec (.peerSilent i) s = .next t
        ∧ t.isStale (t.peer n) = true ∧ (t.peer n).age = s.globals.staleness + 1)
    ∧ (s.role.isAxis = true → s.ring.starved = false → s.params.holdLimit ≤ s.ring.hold →
      (∀ e ∈ s.ring.slots, e.tag ≠ (s.time.cycle + 1).setWidth 16) →
      ∃ t, exec (.referenceStarved i) s = .next t ∧ t.ring.starved = true ∧ t.ring.current = 0)
    ∧ (s.role = .cab → 24 ≤ s.table.flashCount →
      ∃ t, exec (.flashPhaseInvert i) s = .next t ∧ t.table.flashPhase = !s.table.flashPhase
        ∧ t.table.flashCount = 0)
    ∧ (s.role = .cab → s.table.refusalFlash = 1 → s.cab.restartButton ≠ .edge →
      ∃ t, exec (.refusalFlashEnd i) s = .next t ∧ t.table.refusalFlash = 0)
    ∧ (fallsDue .tablePurge i s = true → ∃ t, exec (.tablePurge i) s = .next t
        ∧ (∃ r ∈ s.table.records, 25 ≤ r.age) ∧ ∀ r ∈ t.table.records, r.age < 26)

/-- The share unit at a long cycle: the quarantine's end with the home share its own tokens (R98), a borrowed
record whose term runs out leaves (R105), a lent record whose grace runs out is reinstated (R106); the
ask-wait end clears the pending ask (R101). The pressure act falls at a count of 5, and a recall or an ask
stands in the queue or is tried again (R100); the voluntary return falls at a count of 20, and a record is
returning or was dropped at a refused placement (R107, R108). A SHEDDING record whose shed wait reaches 20, or
any where the demand is 0, is RETURNING its shed count at that cycle start, or was dropped at a refused
placement (R111); a walk in RETURNING, which returns every loan in full (R104, R154), is left to that rule. That
LOAN_GRACE_END names the entry to the grace too, and PRESSURE every placement tried, is the model's choice, log
entry 1. -/
def Obligations.ShareEventsFall : Prop :=
  (∀ (i : Inputs) (s : State), s.time.running = true → s.joined = true →
      (s.globals.longLength ≤ s.time.longCount + 1 → s.share.fresh = true →
        s.globals.loanTerm + 1 ≤ s.share.quarantine → s.globals.loanTerm ≤ 255 →
        (∀ n, n < 8 → n ≠ s.station → (s.peer n).foreign = false) → ListsOrdered s →
        ∃ t, exec (.quarantineEnd i) s = .next t ∧ t.share.fresh = false
          ∧ t.share.own = (s.entryOf s.station).homeShare
          ∧ ∀ r ∈ t.alarms.list, r.code = .stationStarted → r.detail = none → r.state = .clearedUnack)
      ∧ (s.globals.longLength ≤ s.time.longCount + 1 → (∀ e ∈ s.line.queue, e.kind ≠ .shareReturn) →
        ∀ r ∈ s.share.borrowedRecords, r.term ≤ 1 →
        ∃ t, exec (.loanTermEnd i) s = .next t ∧ ∀ x ∈ t.share.borrowedRecords, x.peer ≠ r.peer)
      ∧ (s.globals.longLength ≤ s.time.longCount + 1 → s.share.fresh = false →
        (let ends := fun r : LentRecord => r.grace.any (· ≤ 1)
         let back := ((s.share.lentRecords.filter ends).map (·.count)).sum
         (∃ r ∈ s.share.lentRecords, ends r = true ∨ (r.grace = none ∧ r.term ≤ 1)) →
          ∃ t, exec (.loanGraceEnd i) s = .next t ∧ t.share.own = s.share.own + back
            ∧ t.share.lent = s.share.lent - back
            ∧ (∀ r ∈ s.share.lentRecords, r.grace = none → r.term ≤ 1 →
                { r with term := 0, grace := some 2 } ∈ t.share.lentRecords)
            ∧ t.share.lentRecords.length = (s.share.lentRecords.filter fun r => !ends r).length))
      ∧ (∀ a, s.share.ask = some a → 19 ≤ a.wait → (∀ e ∈ s.line.queue, e.kind ≠ .shareAsk) →
        ∃ t, exec (.askWaitEnd i) s = .next t ∧ (t.share.ask = none ∨ ∃ n, t.share.ask = some ⟨n, 0⟩))
      ∧ (s.time.longCount + 1 < s.globals.longLength → (∀ e ∈ s.line.queue, e.kind ≠ .shareReturn) →
        (s.share.borrowedRecords.map (·.peer)).Nodup → s.role ≠ .walk ∨ s.walk.state ≠ .returning →
        ∃ t, exec (.cycleStart i) s = .next t ∧ ∀ r ∈ s.share.borrowedRecords, r.state = .shedding →
          s.role.isAxis = false ∨ t.drive.demand = 0 ∨ 19 ≤ r.shedWait →
          ((∃ x ∈ t.share.borrowedRecords, x = { r with
              state := .returning, shedWait := min 20 (r.shedWait + 1),
              inFlight := some (r.shed, r.grantNumber) })
            ∧ ∃ e ∈ t.line.queue, e.kind = .shareReturn ∧ e.target = BitVec.ofNat 4 r.peer
                ∧ e.words = grantWords r.shed r.grantNumber)
          ∨ ((∀ x ∈ t.share.borrowedRecords, x.peer ≠ r.peer)
            ∧ (s.line.counters.refused < t.line.counters.refused ∨ t.line.counters.refused = 65535))))
  ∧ ∀ (i : Inputs) (s : State),
      (fallsDue .pressure i s = true → ∃ t, exec (.pressure i) s = .next t ∧ 4 ≤ s.share.pressure
        ∧ t.share.fresh = false ∧ (t.share.pressure = 5 ∨ (t.share.pressure = 0
          ∧ ∃ e ∈ t.line.queue, e.kind = .shareRecall ∨ e.kind = .shareAsk)))
      ∧ (fallsDue .voluntaryReturn i s = true → ∃ t, exec (.voluntaryReturn i) s = .next t
        ∧ 19 ≤ s.share.voluntary ∧ t.share.voluntary = 0
        ∧ ((∃ r ∈ t.share.borrowedRecords, r.state = .returning)
            ∨ t.share.borrowedRecords.length < s.share.borrowedRecords.length))

/-- The drive chain's checks at a cycle start: the third unanswered frame trips the station (R89), the brake
disagreement past its limit (R91) and the third slip (R92) raise a STOP, and STALL HELD comes at a count of 50
(R87). In RUN the brake command follows R90: commanded SET where the motion has been still, at most 5 per mille
under a target of 0, for the brake delay, the delay count beginning anew where either fails, and RELEASED by a
target other than 0. That the feedback check reads the command as the cycle start finds it is the model's reading
of R78 against TABLE 5-6, log entry 38, and that the brake reads a target of 0 under the walk limit its reading of
R140, log entry 40. -/
def Obligations.DriveEventsFall : Prop :=
  ∀ (i : Inputs) (s : State), s.time.running = true → s.joined = true → s.role.isAxis = true →
    (s.drive.ran = true → s.drive.awaiting = true → s.drive.missing = 2 →
      ∃ t, exec (.fieldLinkLost i) s = .next t ∧ t.drive.missing = 3 ∧ t.alarms.mode = .tripped
        ∧ driveSafe t.drive)
    ∧ (s.drive.brake = .set → (i.din.getLsbD s.params.brakeInput.number == s.params.brakeInput.high) = false →
      s.drive.disagree = s.params.drive.brakeCheck → s.params.drive.brakeCheck < 255 →
      ∃ t, exec (.brakeFeedback i) s = .next t ∧ t.drive.disagree = s.params.drive.brakeCheck + 1
        ∧ standsOrLost .brakeFeedback s t)
    ∧ (∀ e, s.drive.brake = .set →
      (i.din.getLsbD s.params.brakeInput.number == s.params.brakeInput.high) = true →
      s.drive.prevEncoder = some e → s.drive.slip = 2 →
      20 < (measuredSpeed s.role (s.encoder - e).toInt s.params.drive.countsPerCycle).natAbs →
      ∃ t, exec (.brakeSlip i) s = .next t ∧ t.drive.slip = 3 ∧ standsOrLost .brakeSlip s t)
    ∧ (fallsDue .brakeSet i s = true → ∃ t, exec (.brakeSet i) s = .next t
      ∧ s.drive.brake = .released ∧ t.drive.brake = .set
      ∧ s.params.drive.brakeDelay ≤ s.drive.delay + 1 ∧ t.drive.speed.natAbs ≤ 5
      ∧ (t.drive.postTarget = 0 ∨ (s.role = .swing ∧ walkLimit t = true)))
    ∧ (fallsDue .stallHeld i s = true → ∃ t, exec (.stallHeld i) s = .next t
      ∧ s.drive.stall = 49 ∧ t.drive.stall = 50)
    ∧ ∃ t, exec (.cycleStart i) s = .next t
      ∧ (let stops := t.drive.postTarget = 0 ∨ (s.role = .swing ∧ walkLimit t = true)
         (s.drive.brake = .released → t.alarms.mode = .run → stops → t.drive.speed.natAbs ≤ 5 →
           s.params.drive.brakeDelay ≤ s.drive.delay + 1 → exec (.brakeSet i) s = .next t)
         ∧ (s.drive.brake = .released → t.alarms.mode = .run →
           ¬ (stops ∧ t.drive.speed.natAbs ≤ 5 ∧ s.params.drive.brakeDelay ≤ s.drive.delay + 1) →
           t.drive.brake = .released
             ∧ t.drive.delay = if stops ∧ t.drive.speed.natAbs ≤ 5 then s.drive.delay + 1 else 0)
         ∧ (s.drive.brake = .set → t.alarms.mode = .run →
           t.drive.brake = (if stops then .set else .released) ∧ (¬ stops → t.drive.delay = 0))
         ∧ (s.drive.stall = 49 → t.drive.stall = 50 → exec (.stallHeld i) s = .next t))

/-- HOIST and DRAG: SLACK ROPE at a count of 5 (R123), the yield limit that returns the drag to DIGGING (R129),
the yield wait that makes it reclaim under re-arm (R130). WALK and the contactor: the ask wait ends in
PARKED (R151), a transfer or return past its limit in FAULTED with the coil off (R152, R154, R155), a
disagreeing or contrary reading trips the station (R147, R148), a step reaches its time limit (R160). Each falls
at a cycle start that meets its rule's condition: said of the state before it, and where the rule reads what that
cycle start forms, of the state `t` it leaves. -/
def Obligations.AxisEventsFall : Prop :=
  (∀ (i : Inputs) (s : State),
      (fallsDue .slackRope i s = true → ∃ t, exec (.slackRope i) s = .next t
        ∧ s.role = .hoist ∧ s.rope.slack = 4 ∧ t.rope.slack = 5 ∧ slackLimitOn t = true)
      ∧ (fallsDue .yieldLimit i s = true → ∃ t, exec (.yieldLimit i) s = .next t
        ∧ s.rope.ownership = .yielding ∧ s.params.rope.yieldLimit ≤ s.rope.yieldCount + 1
        ∧ t.rope.ownership = .digging ∧ t.rope.yieldSent = false)
      ∧ (fallsDue .yieldWaitExpiry i s = true → ∃ t, exec (.yieldWaitExpiry i) s = .next t
        ∧ s.rope.ownership = .yielded ∧ t.rope.ownership = .reclaiming ∧ t.ring.rearm = true))
  ∧ (∀ (i : Inputs) (s : State),
      (fallsDue .askWaitExpiry i s = true → ∃ t, exec (.askWaitExpiry i) s = .next t
        ∧ s.walk.state = .asking ∧ s.params.walk.askWait ≤ s.walk.askWait + 1 ∧ t.walk.state = .parked)
      ∧ (fallsDue .transferFailed i s = true → ∃ t, exec (.transferFailed i) s = .next t
        ∧ (s.walk.state = .transferring ∨ s.walk.state = .returning)
        ∧ t.walk.state = .faulted ∧ t.walk.coil = false ∧ standsOrLost .transferFailed s t)
      ∧ (fallsDue .contactorDisagree i s = true → ∃ t, exec (.contactorDisagree i) s = .next t
        ∧ t.contactor.raised = true ∧ t.dragSide = false ∧ t.walkSide = false
        ∧ t.alarms.mode = .tripped ∧ driveSafe t.drive)
      ∧ (fallsDue .contactorContrary i s = true → ∃ t, exec (.contactorContrary i) s = .next t
        ∧ t.contactor.contrary = s.globals.contactorLimit + 1
        ∧ t.alarms.mode = .tripped ∧ driveSafe t.drive)
      ∧ (SettingsHeld s → fallsDue .stepOvertime i s = true → ∃ t, exec (.stepOvertime i) s = .next t
        ∧ s.walk.stepCount + 1 = s.params.walk.stepLimit
        ∧ (t.walk.stepCount = s.params.walk.stepLimit ∨ t.alarms.mode = .tripped
          ∨ i.din ≠ s.inputs.din)))
  ∧ ∀ (i : Inputs) (s : State), s.time.running = true → s.joined = true →
      ∃ t, exec (.cycleStart i) s = .next t
      ∧ (let now : State := { s with inputs := i }
         let limit := s.globals.contactorLimit
         let stopped := t.inputActive s.params.brakeInput = true ∧ t.drive.brake = .set ∧ t.drive.speed.natAbs ≤ 5
         let allowed : Nat := if now.bothOpen = true ∧ (s.role = .drag → s.rope.ownership = .yielded)
           ∧ (s.role = .walk → s.walk.state ≠ .parked ∧ s.walk.state ≠ .faulted) then max 5 limit else 5
         (s.role = .hoist → s.rope.slack = 4 → t.rope.bucket = .low → t.rope.load < s.params.rope.slackThreshold →
           exec (.slackRope i) s = .next t)
         ∧ (s.role = .drag → s.rope.ownership = .yielding → s.rope.yieldSent = false → now.walkSide = false →
           s.params.rope.yieldLimit ≤ s.rope.yieldCount + 1 → ¬ stopped → exec (.yieldLimit i) s = .next t)
         ∧ (s.role = .drag → s.rope.ownership = .yielded → now.dragSide = true → s.rope.walkSeen = false →
           s.rope.reclaimPending = false → s.params.rope.yieldLimit ≤ min 1000 (s.rope.yieldWait + 1) →
           exec (.yieldWaitExpiry i) s = .next t)
         ∧ (s.role = .walk → s.walk.state = .asking →
           (∀ e ∈ s.line.queue, e.kind = .xferAsk → e.waited + 1 < 8) →
           s.params.walk.askWait ≤ s.walk.askWait + 1 → t.ring.currentWalkMode = true → t.alarms.mode = .run →
           exec (.askWaitExpiry i) s = .next t)
         ∧ (s.role = .walk → s.walk.state = .transferring → now.walkSide = false →
           limit ≤ min 65535 (s.walk.stateCount + 1) → t.alarms.mode = .run →
           exec (.transferFailed i) s = .next t)
         ∧ (s.role = .walk → s.walk.state = .returning → now.dragSide = false →
           limit ≤ min 65535 (s.walk.stateCount + 1) → exec (.transferFailed i) s = .next t)
         ∧ (s.role = .drag ∨ s.role = .walk → now.dragSide = false → now.walkSide = false →
           s.contactor.raised = false → allowed < min 255 (s.contactor.disagree + 1) →
           exec (.contactorDisagree i) s = .next t)
         ∧ (s.role = .walk → s.contactor.contrary = limit → limit < 255 →
           (s.walk.coil = false ∧ now.walkSide = true) ∨ (t.walk.coil = true ∧ now.dragSide = true) →
           exec (.contactorContrary i) s = .next t)
         ∧ (s.role = .walk → s.walk.state = .stepping ∨ s.walk.state = .settling →
           NoEdges s.inputs.din i.din s → s.walk.stepCount + 1 = s.params.walk.stepLimit →
           s.params.walk.stepLimit ≤ 65535 → t.alarms.mode = .run → exec (.stepOvertime i) s = .next t))

/-! ### What every step keeps -/

/-- Line state, start state and cycle timer stay together (TABLE 1-1, TABLE 11-1, R27); the settings image, once
formed, keeps its ranges until full reset (R187). -/
def Obligations.StepKeepsStartAgrees : Prop := Kept (fun s => StartAgrees s ∧ SettingsHeld s) fun _ => True

/-- The outputs stay safe in TRIPPED, at a station of no axis role and outside JOINED; drive enable stands
only while the owned hook is true; the output stays in range, with its field word (R88, R93, R94). -/
def Obligations.StepKeepsOutputsSafe : Prop :=
  Kept (fun s => SafeOutputs s ∧ EnableOwned s ∧ OutputInRange s) StartAgrees

/-- Queues, list and table stay within their sizes (R15, R18, R32, R37, R165, R177). -/
def Obligations.StepKeepsBounded : Prop := Kept Bounded fun _ => True

/-- The alarm list and the machine table stay ordered, no key twice (R165, R177), and no SHARE LOAN DROPPED
stands active, since its raise clears it, nor counts as more than a warning of its own station (R108, R177). -/
def Obligations.StepKeepsListsOrdered : Prop :=
  Kept ListsOrdered (fun _ => True) ∧ Kept LoanDropsCleared StartAgrees

/-- The ring holds only tags 1 to W ahead, one for each slot (R64, R67). -/
def Obligations.StepKeepsRing : Prop := Kept RingKept StartAgrees

/-- Tokens are neither made nor lost: own and lent make up the home share from the quarantine's end on, and
every account agrees with its records and queued grants (R95, R103, R105 to R108, R112, R113); only a STATUS, a
REFERENCE or a PACE is ever marked replaced (R16). -/
def Obligations.StepKeepsTokens : Prop := Kept TokensAgree fun s => StartAgrees s ∧ Bounded s

/-! ### Motion -/

/-- After a cycle start, a swing above creep has a fresh hoist at CLEAR and a walk not known to be away from
PARKED (R139 to R141); the walk moves only under its permissive (R161); a rope whose hardware limit input
is active is not hauled in (R120). -/
def Obligations.MotionNeedsItsConditions : Prop :=
  ∀ (i : Inputs) (s t : State), s.time.running = true → s.joined = true → exec (.cycleStart i) s = .next t →
    (s.role = .swing → (s.params.drive.creep : Int) < t.drive.f.natAbs →
      t.roleReports .hoist 3 = true ∧ walkLimit t = false)
    ∧ (s.role = .walk → t.drive.f ≠ 0 → walkPermissive t = true)
    ∧ (s.role.isRope = true → t.inputActive s.params.rope.hardLimit = true → t.drive.f ≤ 0)

/-- The ramp moves from its state toward the target by the rows of R83: away from 0 by at most the acceleration
limit, toward 0 by at most the deceleration limit. With both above 0 it comes closer at every cycle start, never
past the target and never through 0. With no tokens held nothing leaves the ceiling stage (R85). -/
def Obligations.RampAndCeilingLimitMotion : Prop :=
  (∀ (accel decel : Nat) (u x : Int),
    (let r := stageRamp accel decel u x
     0 ≤ u * r
     ∧ (u = 0 → 0 ≤ x * r)
     ∧ (0 ≤ u * x → u.natAbs < x.natAbs → r.natAbs = min x.natAbs (u.natAbs + accel))
     ∧ (0 < u * x → x.natAbs ≤ u.natAbs → r.natAbs = max x.natAbs (u.natAbs - decel))
     ∧ (u * x ≤ 0 → u ≠ 0 → r.natAbs = u.natAbs - decel)
     ∧ (u = 0 → x = 0 → r = 0)))
  ∧ (∀ (accel decel : Nat) (u x : Int), 0 < accel → 0 < decel →
    (let r := stageRamp accel decel u x
     0 ≤ u * r ∧ 0 ≤ (u - x) * (r - x) ∧ (r - u).natAbs ≤ max accel decel ∧ (u ≠ x → (r - x).natAbs < (u - x).natAbs)
     ∧ (u = x → r = x)))
  ∧ ∀ (s : State) (b : Bounds) (post : Int), s.held = 0 → beforeStall s b post = 0

/-! ### Encodings (TABLE 1-3, chapter 12) -/

/-- The cells of a bulletin read back as the bulletin that was sent (TABLE 1-3, TABLE 12-1). -/
def Obligations.BulletinCellsRoundTrip : Prop :=
  ∀ r : RawBulletin, r.wf = true → RawBulletin.ofCells r.cells = some r

/-- Every field within the range its cells can carry reads back as it was written: the payloads of STATUS,
REFERENCE, TRIP and ALARM (TABLE 12-2, TABLE 12-4). -/
def Obligations.PayloadsRoundTrip : Prop :=
  (∀ x : StatusFields, x.axis ≤ x.role.maxAxis → x.position < 65536 → -1999 ≤ x.speed → x.speed ≤ 1999 →
    x.own ≤ 64 → x.spare ≤ 64 → x.borrowed ≤ 64 → x.lent ≤ 64 → StatusFields.ofWords x.words = some x)
  ∧ (∀ r : ReferenceFields,
      (∀ v ∈ [r.hoist, r.drag, r.swing, r.walk], -32768 ≤ v ∧ v ≤ 32767) →
      ReferenceFields.ofWords r.words = r)
  ∧ (∀ (c : AlarmCode) (d : Option Nat) (t : Stamp), t.offset < 65536 → d.all (· < 16) = true →
      tripOf (tripWords c d t) = some (c, d, t))
  ∧ ∀ (n : Nat) (r : AlarmRecord) (removed refresh : Bool), r.raised.offset < 65536 →
      r.detail.all (· < 16) = true → mergeOf n (alarmWords r removed refresh) =
        some ⟨n, r.code, r.detail, if removed then none else some r.state, r.raised, refresh⟩
end

