-- ==== Sys2Proof/Laws/Frame.lean ====
section
/-! SUPPORT. How frames compose, and the frame of each one-block update. -/

namespace Sys2Proof.Machine

theorem Frame.refl (bs : List Block) (s : State) : Frame bs s s :=
  ⟨fun b _ => by cases b <;> rfl, rfl⟩

theorem Frame.trans {bs : List Block} {s t u : State} (h : Frame bs s t) (k : Frame bs t u) :
    Frame bs s u := by
  refine ⟨fun b hb => ?_, k.2.trans h.2⟩
  have h1 := h.1 b hb
  have k1 := k.1 b hb
  cases b <;> simp only [Block.same] at h1 k1 ⊢ <;> exact k1.trans h1

theorem Frame.mono {bs cs : List Block} {s t : State} (h : Frame bs s t) (hs : ∀ b ∈ bs, b ∈ cs) :
    Frame cs s t := ⟨fun b hb => h.1 b fun m => hb (hs b m), h.2⟩

/-- A chain of two frames inside a common set of blocks. -/
theorem Frame.comp {bs cs ds : List Block} {s t u : State} (h : Frame bs s t) (k : Frame cs t u)
    (hb : ∀ b ∈ bs, b ∈ ds) (hc : ∀ b ∈ cs, b ∈ ds) : Frame ds s u := (h.mono hb).trans (k.mono hc)

theorem Frame.foldl {α : Type} {bs : List Block} {f : State → α → State}
    (h : ∀ s x, Frame bs s (f s x)) (l : List α) (s : State) : Frame bs s (l.foldl f s) := by
  induction l generalizing s with
  | nil => exact .refl bs s
  | cons x l ih => exact (h s x).trans (ih _)

theorem Frame.ite {bs : List Block} {s t u : State} {c : Prop} [Decidable c] (h : Frame bs s t)
    (k : Frame bs s u) : Frame bs s (if c then t else u) := by split <;> assumption

section
variable (s : State)

theorem onLine_frame (g : LineUnit → LineUnit) : Frame [.line] s (s.onLine g) :=
  ⟨fun b hb => by cases b <;> first | rfl | simp at hb, rfl⟩
theorem onTime_frame (g : LineTime → LineTime) : Frame [.time] s (s.onTime g) :=
  ⟨fun b hb => by cases b <;> first | rfl | simp at hb, rfl⟩
theorem onUnit0_frame (g : CaptureUnit → CaptureUnit) : Frame [.unit0] s (s.onUnit0 g) :=
  ⟨fun b hb => by cases b <;> first | rfl | simp at hb, rfl⟩
theorem onUnit1_frame (g : CaptureUnit → CaptureUnit) : Frame [.unit1] s (s.onUnit1 g) :=
  ⟨fun b hb => by cases b <;> first | rfl | simp at hb, rfl⟩
theorem onPicture_frame (g : Picture → Picture) : Frame [.picture] s (s.onPicture g) :=
  ⟨fun b hb => by cases b <;> first | rfl | simp at hb, rfl⟩
theorem onRing_frame (g : Ring → Ring) : Frame [.ring] s (s.onRing g) :=
  ⟨fun b hb => by cases b <;> first | rfl | simp at hb, rfl⟩
theorem onCab_frame (g : Cab → Cab) : Frame [.cab] s (s.onCab g) :=
  ⟨fun b hb => by cases b <;> first | rfl | simp at hb, rfl⟩
theorem onDrive_frame (g : Drive → Drive) : Frame [.drive] s (s.onDrive g) :=
  ⟨fun b hb => by cases b <;> first | rfl | simp at hb, rfl⟩
theorem onShare_frame (g : Share → Share) : Frame [.share] s (s.onShare g) :=
  ⟨fun b hb => by cases b <;> first | rfl | simp at hb, rfl⟩
theorem onRope_frame (g : Rope → Rope) : Frame [.rope] s (s.onRope g) :=
  ⟨fun b hb => by cases b <;> first | rfl | simp at hb, rfl⟩
theorem onSwing_frame (g : Swing → Swing) : Frame [.swing] s (s.onSwing g) :=
  ⟨fun b hb => by cases b <;> first | rfl | simp at hb, rfl⟩
theorem onWalk_frame (g : Walk → Walk) : Frame [.walk] s (s.onWalk g) :=
  ⟨fun b hb => by cases b <;> first | rfl | simp at hb, rfl⟩
theorem onContactor_frame (g : Contactor → Contactor) : Frame [.contactor] s (s.onContactor g) :=
  ⟨fun b hb => by cases b <;> first | rfl | simp at hb, rfl⟩
theorem onAlarms_frame (g : Alarms → Alarms) : Frame [.alarms] s (s.onAlarms g) :=
  ⟨fun b hb => by cases b <;> first | rfl | simp at hb, rfl⟩
theorem onTable_frame (g : MachineTable → MachineTable) : Frame [.table] s (s.onTable g) :=
  ⟨fun b hb => by cases b <;> first | rfl | simp at hb, rfl⟩
theorem onStartup_frame (g : StartUp → StartUp) : Frame [.startup] s (s.onStartup g) :=
  ⟨fun b hb => by cases b <;> first | rfl | simp at hb, rfl⟩
theorem note_frame (e : Event) : Frame [] s (s.note e) := ⟨fun b _ => by cases b <;> rfl, rfl⟩
theorem begin_frame : Frame [.line] s (begin s) :=
  ⟨fun b hb => by cases b <;> first | rfl | simp at hb, rfl⟩

end

end Sys2Proof.Machine
end

