-- ==== Sys2Proof/Laws/State.lean ====
section
/-! SUPPORT. What each one-block update of the state reads as, field by field. -/

namespace Sys2Proof.Machine

@[simp] theorem State.onLine_line (s : State) (g : LineUnit → LineUnit) : (s.onLine g).line = g s.line := rfl
@[simp] theorem State.onLine_time (s : State) (g : LineUnit → LineUnit) : (s.onLine g).time = s.time := rfl
@[simp] theorem State.onLine_unit0 (s : State) (g : LineUnit → LineUnit) : (s.onLine g).unit0 = s.unit0 := rfl
@[simp] theorem State.onLine_unit1 (s : State) (g : LineUnit → LineUnit) : (s.onLine g).unit1 = s.unit1 := rfl
@[simp] theorem State.onLine_picture (s : State) (g : LineUnit → LineUnit) : (s.onLine g).picture = s.picture := rfl
@[simp] theorem State.onLine_ring (s : State) (g : LineUnit → LineUnit) : (s.onLine g).ring = s.ring := rfl
@[simp] theorem State.onLine_cab (s : State) (g : LineUnit → LineUnit) : (s.onLine g).cab = s.cab := rfl
@[simp] theorem State.onLine_drive (s : State) (g : LineUnit → LineUnit) : (s.onLine g).drive = s.drive := rfl
@[simp] theorem State.onLine_share (s : State) (g : LineUnit → LineUnit) : (s.onLine g).share = s.share := rfl
@[simp] theorem State.onLine_rope (s : State) (g : LineUnit → LineUnit) : (s.onLine g).rope = s.rope := rfl
@[simp] theorem State.onLine_swing (s : State) (g : LineUnit → LineUnit) : (s.onLine g).swing = s.swing := rfl
@[simp] theorem State.onLine_walk (s : State) (g : LineUnit → LineUnit) : (s.onLine g).walk = s.walk := rfl
@[simp] theorem State.onLine_contactor (s : State) (g : LineUnit → LineUnit) : (s.onLine g).contactor = s.contactor := rfl
@[simp] theorem State.onLine_alarms (s : State) (g : LineUnit → LineUnit) : (s.onLine g).alarms = s.alarms := rfl
@[simp] theorem State.onLine_table (s : State) (g : LineUnit → LineUnit) : (s.onLine g).table = s.table := rfl
@[simp] theorem State.onLine_startup (s : State) (g : LineUnit → LineUnit) : (s.onLine g).startup = s.startup := rfl
@[simp] theorem State.onLine_encoder (s : State) (g : LineUnit → LineUnit) : (s.onLine g).encoder = s.encoder := rfl
@[simp] theorem State.onLine_inputs (s : State) (g : LineUnit → LineUnit) : (s.onLine g).inputs = s.inputs := rfl
@[simp] theorem State.onLine_events (s : State) (g : LineUnit → LineUnit) : (s.onLine g).events = s.events := rfl
@[simp] theorem State.onLine_pending (s : State) (g : LineUnit → LineUnit) : (s.onLine g).pending = s.pending := rfl

@[simp] theorem State.onTime_line (s : State) (g : LineTime → LineTime) : (s.onTime g).line = s.line := rfl
@[simp] theorem State.onTime_time (s : State) (g : LineTime → LineTime) : (s.onTime g).time = g s.time := rfl
@[simp] theorem State.onTime_unit0 (s : State) (g : LineTime → LineTime) : (s.onTime g).unit0 = s.unit0 := rfl
@[simp] theorem State.onTime_unit1 (s : State) (g : LineTime → LineTime) : (s.onTime g).unit1 = s.unit1 := rfl
@[simp] theorem State.onTime_picture (s : State) (g : LineTime → LineTime) : (s.onTime g).picture = s.picture := rfl
@[simp] theorem State.onTime_ring (s : State) (g : LineTime → LineTime) : (s.onTime g).ring = s.ring := rfl
@[simp] theorem State.onTime_cab (s : State) (g : LineTime → LineTime) : (s.onTime g).cab = s.cab := rfl
@[simp] theorem State.onTime_drive (s : State) (g : LineTime → LineTime) : (s.onTime g).drive = s.drive := rfl
@[simp] theorem State.onTime_share (s : State) (g : LineTime → LineTime) : (s.onTime g).share = s.share := rfl
@[simp] theorem State.onTime_rope (s : State) (g : LineTime → LineTime) : (s.onTime g).rope = s.rope := rfl
@[simp] theorem State.onTime_swing (s : State) (g : LineTime → LineTime) : (s.onTime g).swing = s.swing := rfl
@[simp] theorem State.onTime_walk (s : State) (g : LineTime → LineTime) : (s.onTime g).walk = s.walk := rfl
@[simp] theorem State.onTime_contactor (s : State) (g : LineTime → LineTime) : (s.onTime g).contactor = s.contactor := rfl
@[simp] theorem State.onTime_alarms (s : State) (g : LineTime → LineTime) : (s.onTime g).alarms = s.alarms := rfl
@[simp] theorem State.onTime_table (s : State) (g : LineTime → LineTime) : (s.onTime g).table = s.table := rfl
@[simp] theorem State.onTime_startup (s : State) (g : LineTime → LineTime) : (s.onTime g).startup = s.startup := rfl
@[simp] theorem State.onTime_encoder (s : State) (g : LineTime → LineTime) : (s.onTime g).encoder = s.encoder := rfl
@[simp] theorem State.onTime_inputs (s : State) (g : LineTime → LineTime) : (s.onTime g).inputs = s.inputs := rfl
@[simp] theorem State.onTime_events (s : State) (g : LineTime → LineTime) : (s.onTime g).events = s.events := rfl
@[simp] theorem State.onTime_pending (s : State) (g : LineTime → LineTime) : (s.onTime g).pending = s.pending := rfl

@[simp] theorem State.onUnit0_line (s : State) (g : CaptureUnit → CaptureUnit) : (s.onUnit0 g).line = s.line := rfl
@[simp] theorem State.onUnit0_time (s : State) (g : CaptureUnit → CaptureUnit) : (s.onUnit0 g).time = s.time := rfl
@[simp] theorem State.onUnit0_unit0 (s : State) (g : CaptureUnit → CaptureUnit) : (s.onUnit0 g).unit0 = g s.unit0 := rfl
@[simp] theorem State.onUnit0_unit1 (s : State) (g : CaptureUnit → CaptureUnit) : (s.onUnit0 g).unit1 = s.unit1 := rfl
@[simp] theorem State.onUnit0_picture (s : State) (g : CaptureUnit → CaptureUnit) : (s.onUnit0 g).picture = s.picture := rfl
@[simp] theorem State.onUnit0_ring (s : State) (g : CaptureUnit → CaptureUnit) : (s.onUnit0 g).ring = s.ring := rfl
@[simp] theorem State.onUnit0_cab (s : State) (g : CaptureUnit → CaptureUnit) : (s.onUnit0 g).cab = s.cab := rfl
@[simp] theorem State.onUnit0_drive (s : State) (g : CaptureUnit → CaptureUnit) : (s.onUnit0 g).drive = s.drive := rfl
@[simp] theorem State.onUnit0_share (s : State) (g : CaptureUnit → CaptureUnit) : (s.onUnit0 g).share = s.share := rfl
@[simp] theorem State.onUnit0_rope (s : State) (g : CaptureUnit → CaptureUnit) : (s.onUnit0 g).rope = s.rope := rfl
@[simp] theorem State.onUnit0_swing (s : State) (g : CaptureUnit → CaptureUnit) : (s.onUnit0 g).swing = s.swing := rfl
@[simp] theorem State.onUnit0_walk (s : State) (g : CaptureUnit → CaptureUnit) : (s.onUnit0 g).walk = s.walk := rfl
@[simp] theorem State.onUnit0_contactor (s : State) (g : CaptureUnit → CaptureUnit) : (s.onUnit0 g).contactor = s.contactor := rfl
@[simp] theorem State.onUnit0_alarms (s : State) (g : CaptureUnit → CaptureUnit) : (s.onUnit0 g).alarms = s.alarms := rfl
@[simp] theorem State.onUnit0_table (s : State) (g : CaptureUnit → CaptureUnit) : (s.onUnit0 g).table = s.table := rfl
@[simp] theorem State.onUnit0_startup (s : State) (g : CaptureUnit → CaptureUnit) : (s.onUnit0 g).startup = s.startup := rfl
@[simp] theorem State.onUnit0_encoder (s : State) (g : CaptureUnit → CaptureUnit) : (s.onUnit0 g).encoder = s.encoder := rfl
@[simp] theorem State.onUnit0_inputs (s : State) (g : CaptureUnit → CaptureUnit) : (s.onUnit0 g).inputs = s.inputs := rfl
@[simp] theorem State.onUnit0_events (s : State) (g : CaptureUnit → CaptureUnit) : (s.onUnit0 g).events = s.events := rfl
@[simp] theorem State.onUnit0_pending (s : State) (g : CaptureUnit → CaptureUnit) : (s.onUnit0 g).pending = s.pending := rfl

@[simp] theorem State.onUnit1_line (s : State) (g : CaptureUnit → CaptureUnit) : (s.onUnit1 g).line = s.line := rfl
@[simp] theorem State.onUnit1_time (s : State) (g : CaptureUnit → CaptureUnit) : (s.onUnit1 g).time = s.time := rfl
@[simp] theorem State.onUnit1_unit0 (s : State) (g : CaptureUnit → CaptureUnit) : (s.onUnit1 g).unit0 = s.unit0 := rfl
@[simp] theorem State.onUnit1_unit1 (s : State) (g : CaptureUnit → CaptureUnit) : (s.onUnit1 g).unit1 = g s.unit1 := rfl
@[simp] theorem State.onUnit1_picture (s : State) (g : CaptureUnit → CaptureUnit) : (s.onUnit1 g).picture = s.picture := rfl
@[simp] theorem State.onUnit1_ring (s : State) (g : CaptureUnit → CaptureUnit) : (s.onUnit1 g).ring = s.ring := rfl
@[simp] theorem State.onUnit1_cab (s : State) (g : CaptureUnit → CaptureUnit) : (s.onUnit1 g).cab = s.cab := rfl
@[simp] theorem State.onUnit1_drive (s : State) (g : CaptureUnit → CaptureUnit) : (s.onUnit1 g).drive = s.drive := rfl
@[simp] theorem State.onUnit1_share (s : State) (g : CaptureUnit → CaptureUnit) : (s.onUnit1 g).share = s.share := rfl
@[simp] theorem State.onUnit1_rope (s : State) (g : CaptureUnit → CaptureUnit) : (s.onUnit1 g).rope = s.rope := rfl
@[simp] theorem State.onUnit1_swing (s : State) (g : CaptureUnit → CaptureUnit) : (s.onUnit1 g).swing = s.swing := rfl
@[simp] theorem State.onUnit1_walk (s : State) (g : CaptureUnit → CaptureUnit) : (s.onUnit1 g).walk = s.walk := rfl
@[simp] theorem State.onUnit1_contactor (s : State) (g : CaptureUnit → CaptureUnit) : (s.onUnit1 g).contactor = s.contactor := rfl
@[simp] theorem State.onUnit1_alarms (s : State) (g : CaptureUnit → CaptureUnit) : (s.onUnit1 g).alarms = s.alarms := rfl
@[simp] theorem State.onUnit1_table (s : State) (g : CaptureUnit → CaptureUnit) : (s.onUnit1 g).table = s.table := rfl
@[simp] theorem State.onUnit1_startup (s : State) (g : CaptureUnit → CaptureUnit) : (s.onUnit1 g).startup = s.startup := rfl
@[simp] theorem State.onUnit1_encoder (s : State) (g : CaptureUnit → CaptureUnit) : (s.onUnit1 g).encoder = s.encoder := rfl
@[simp] theorem State.onUnit1_inputs (s : State) (g : CaptureUnit → CaptureUnit) : (s.onUnit1 g).inputs = s.inputs := rfl
@[simp] theorem State.onUnit1_events (s : State) (g : CaptureUnit → CaptureUnit) : (s.onUnit1 g).events = s.events := rfl
@[simp] theorem State.onUnit1_pending (s : State) (g : CaptureUnit → CaptureUnit) : (s.onUnit1 g).pending = s.pending := rfl

@[simp] theorem State.onPicture_line (s : State) (g : Picture → Picture) : (s.onPicture g).line = s.line := rfl
@[simp] theorem State.onPicture_time (s : State) (g : Picture → Picture) : (s.onPicture g).time = s.time := rfl
@[simp] theorem State.onPicture_unit0 (s : State) (g : Picture → Picture) : (s.onPicture g).unit0 = s.unit0 := rfl
@[simp] theorem State.onPicture_unit1 (s : State) (g : Picture → Picture) : (s.onPicture g).unit1 = s.unit1 := rfl
@[simp] theorem State.onPicture_picture (s : State) (g : Picture → Picture) : (s.onPicture g).picture = g s.picture := rfl
@[simp] theorem State.onPicture_ring (s : State) (g : Picture → Picture) : (s.onPicture g).ring = s.ring := rfl
@[simp] theorem State.onPicture_cab (s : State) (g : Picture → Picture) : (s.onPicture g).cab = s.cab := rfl
@[simp] theorem State.onPicture_drive (s : State) (g : Picture → Picture) : (s.onPicture g).drive = s.drive := rfl
@[simp] theorem State.onPicture_share (s : State) (g : Picture → Picture) : (s.onPicture g).share = s.share := rfl
@[simp] theorem State.onPicture_rope (s : State) (g : Picture → Picture) : (s.onPicture g).rope = s.rope := rfl
@[simp] theorem State.onPicture_swing (s : State) (g : Picture → Picture) : (s.onPicture g).swing = s.swing := rfl
@[simp] theorem State.onPicture_walk (s : State) (g : Picture → Picture) : (s.onPicture g).walk = s.walk := rfl
@[simp] theorem State.onPicture_contactor (s : State) (g : Picture → Picture) : (s.onPicture g).contactor = s.contactor := rfl
@[simp] theorem State.onPicture_alarms (s : State) (g : Picture → Picture) : (s.onPicture g).alarms = s.alarms := rfl
@[simp] theorem State.onPicture_table (s : State) (g : Picture → Picture) : (s.onPicture g).table = s.table := rfl
@[simp] theorem State.onPicture_startup (s : State) (g : Picture → Picture) : (s.onPicture g).startup = s.startup := rfl
@[simp] theorem State.onPicture_encoder (s : State) (g : Picture → Picture) : (s.onPicture g).encoder = s.encoder := rfl
@[simp] theorem State.onPicture_inputs (s : State) (g : Picture → Picture) : (s.onPicture g).inputs = s.inputs := rfl
@[simp] theorem State.onPicture_events (s : State) (g : Picture → Picture) : (s.onPicture g).events = s.events := rfl
@[simp] theorem State.onPicture_pending (s : State) (g : Picture → Picture) : (s.onPicture g).pending = s.pending := rfl

@[simp] theorem State.onRing_line (s : State) (g : Ring → Ring) : (s.onRing g).line = s.line := rfl
@[simp] theorem State.onRing_time (s : State) (g : Ring → Ring) : (s.onRing g).time = s.time := rfl
@[simp] theorem State.onRing_unit0 (s : State) (g : Ring → Ring) : (s.onRing g).unit0 = s.unit0 := rfl
@[simp] theorem State.onRing_unit1 (s : State) (g : Ring → Ring) : (s.onRing g).unit1 = s.unit1 := rfl
@[simp] theorem State.onRing_picture (s : State) (g : Ring → Ring) : (s.onRing g).picture = s.picture := rfl
@[simp] theorem State.onRing_ring (s : State) (g : Ring → Ring) : (s.onRing g).ring = g s.ring := rfl
@[simp] theorem State.onRing_cab (s : State) (g : Ring → Ring) : (s.onRing g).cab = s.cab := rfl
@[simp] theorem State.onRing_drive (s : State) (g : Ring → Ring) : (s.onRing g).drive = s.drive := rfl
@[simp] theorem State.onRing_share (s : State) (g : Ring → Ring) : (s.onRing g).share = s.share := rfl
@[simp] theorem State.onRing_rope (s : State) (g : Ring → Ring) : (s.onRing g).rope = s.rope := rfl
@[simp] theorem State.onRing_swing (s : State) (g : Ring → Ring) : (s.onRing g).swing = s.swing := rfl
@[simp] theorem State.onRing_walk (s : State) (g : Ring → Ring) : (s.onRing g).walk = s.walk := rfl
@[simp] theorem State.onRing_contactor (s : State) (g : Ring → Ring) : (s.onRing g).contactor = s.contactor := rfl
@[simp] theorem State.onRing_alarms (s : State) (g : Ring → Ring) : (s.onRing g).alarms = s.alarms := rfl
@[simp] theorem State.onRing_table (s : State) (g : Ring → Ring) : (s.onRing g).table = s.table := rfl
@[simp] theorem State.onRing_startup (s : State) (g : Ring → Ring) : (s.onRing g).startup = s.startup := rfl
@[simp] theorem State.onRing_encoder (s : State) (g : Ring → Ring) : (s.onRing g).encoder = s.encoder := rfl
@[simp] theorem State.onRing_inputs (s : State) (g : Ring → Ring) : (s.onRing g).inputs = s.inputs := rfl
@[simp] theorem State.onRing_events (s : State) (g : Ring → Ring) : (s.onRing g).events = s.events := rfl
@[simp] theorem State.onRing_pending (s : State) (g : Ring → Ring) : (s.onRing g).pending = s.pending := rfl

@[simp] theorem State.onCab_line (s : State) (g : Cab → Cab) : (s.onCab g).line = s.line := rfl
@[simp] theorem State.onCab_time (s : State) (g : Cab → Cab) : (s.onCab g).time = s.time := rfl
@[simp] theorem State.onCab_unit0 (s : State) (g : Cab → Cab) : (s.onCab g).unit0 = s.unit0 := rfl
@[simp] theorem State.onCab_unit1 (s : State) (g : Cab → Cab) : (s.onCab g).unit1 = s.unit1 := rfl
@[simp] theorem State.onCab_picture (s : State) (g : Cab → Cab) : (s.onCab g).picture = s.picture := rfl
@[simp] theorem State.onCab_ring (s : State) (g : Cab → Cab) : (s.onCab g).ring = s.ring := rfl
@[simp] theorem State.onCab_cab (s : State) (g : Cab → Cab) : (s.onCab g).cab = g s.cab := rfl
@[simp] theorem State.onCab_drive (s : State) (g : Cab → Cab) : (s.onCab g).drive = s.drive := rfl
@[simp] theorem State.onCab_share (s : State) (g : Cab → Cab) : (s.onCab g).share = s.share := rfl
@[simp] theorem State.onCab_rope (s : State) (g : Cab → Cab) : (s.onCab g).rope = s.rope := rfl
@[simp] theorem State.onCab_swing (s : State) (g : Cab → Cab) : (s.onCab g).swing = s.swing := rfl
@[simp] theorem State.onCab_walk (s : State) (g : Cab → Cab) : (s.onCab g).walk = s.walk := rfl
@[simp] theorem State.onCab_contactor (s : State) (g : Cab → Cab) : (s.onCab g).contactor = s.contactor := rfl
@[simp] theorem State.onCab_alarms (s : State) (g : Cab → Cab) : (s.onCab g).alarms = s.alarms := rfl
@[simp] theorem State.onCab_table (s : State) (g : Cab → Cab) : (s.onCab g).table = s.table := rfl
@[simp] theorem State.onCab_startup (s : State) (g : Cab → Cab) : (s.onCab g).startup = s.startup := rfl
@[simp] theorem State.onCab_encoder (s : State) (g : Cab → Cab) : (s.onCab g).encoder = s.encoder := rfl
@[simp] theorem State.onCab_inputs (s : State) (g : Cab → Cab) : (s.onCab g).inputs = s.inputs := rfl
@[simp] theorem State.onCab_events (s : State) (g : Cab → Cab) : (s.onCab g).events = s.events := rfl
@[simp] theorem State.onCab_pending (s : State) (g : Cab → Cab) : (s.onCab g).pending = s.pending := rfl

@[simp] theorem State.onDrive_line (s : State) (g : Drive → Drive) : (s.onDrive g).line = s.line := rfl
@[simp] theorem State.onDrive_time (s : State) (g : Drive → Drive) : (s.onDrive g).time = s.time := rfl
@[simp] theorem State.onDrive_unit0 (s : State) (g : Drive → Drive) : (s.onDrive g).unit0 = s.unit0 := rfl
@[simp] theorem State.onDrive_unit1 (s : State) (g : Drive → Drive) : (s.onDrive g).unit1 = s.unit1 := rfl
@[simp] theorem State.onDrive_picture (s : State) (g : Drive → Drive) : (s.onDrive g).picture = s.picture := rfl
@[simp] theorem State.onDrive_ring (s : State) (g : Drive → Drive) : (s.onDrive g).ring = s.ring := rfl
@[simp] theorem State.onDrive_cab (s : State) (g : Drive → Drive) : (s.onDrive g).cab = s.cab := rfl
@[simp] theorem State.onDrive_drive (s : State) (g : Drive → Drive) : (s.onDrive g).drive = g s.drive := rfl
@[simp] theorem State.onDrive_share (s : State) (g : Drive → Drive) : (s.onDrive g).share = s.share := rfl
@[simp] theorem State.onDrive_rope (s : State) (g : Drive → Drive) : (s.onDrive g).rope = s.rope := rfl
@[simp] theorem State.onDrive_swing (s : State) (g : Drive → Drive) : (s.onDrive g).swing = s.swing := rfl
@[simp] theorem State.onDrive_walk (s : State) (g : Drive → Drive) : (s.onDrive g).walk = s.walk := rfl
@[simp] theorem State.onDrive_contactor (s : State) (g : Drive → Drive) : (s.onDrive g).contactor = s.contactor := rfl
@[simp] theorem State.onDrive_alarms (s : State) (g : Drive → Drive) : (s.onDrive g).alarms = s.alarms := rfl
@[simp] theorem State.onDrive_table (s : State) (g : Drive → Drive) : (s.onDrive g).table = s.table := rfl
@[simp] theorem State.onDrive_startup (s : State) (g : Drive → Drive) : (s.onDrive g).startup = s.startup := rfl
@[simp] theorem State.onDrive_encoder (s : State) (g : Drive → Drive) : (s.onDrive g).encoder = s.encoder := rfl
@[simp] theorem State.onDrive_inputs (s : State) (g : Drive → Drive) : (s.onDrive g).inputs = s.inputs := rfl
@[simp] theorem State.onDrive_events (s : State) (g : Drive → Drive) : (s.onDrive g).events = s.events := rfl
@[simp] theorem State.onDrive_pending (s : State) (g : Drive → Drive) : (s.onDrive g).pending = s.pending := rfl

@[simp] theorem State.onShare_line (s : State) (g : Share → Share) : (s.onShare g).line = s.line := rfl
@[simp] theorem State.onShare_time (s : State) (g : Share → Share) : (s.onShare g).time = s.time := rfl
@[simp] theorem State.onShare_unit0 (s : State) (g : Share → Share) : (s.onShare g).unit0 = s.unit0 := rfl
@[simp] theorem State.onShare_unit1 (s : State) (g : Share → Share) : (s.onShare g).unit1 = s.unit1 := rfl
@[simp] theorem State.onShare_picture (s : State) (g : Share → Share) : (s.onShare g).picture = s.picture := rfl
@[simp] theorem State.onShare_ring (s : State) (g : Share → Share) : (s.onShare g).ring = s.ring := rfl
@[simp] theorem State.onShare_cab (s : State) (g : Share → Share) : (s.onShare g).cab = s.cab := rfl
@[simp] theorem State.onShare_drive (s : State) (g : Share → Share) : (s.onShare g).drive = s.drive := rfl
@[simp] theorem State.onShare_share (s : State) (g : Share → Share) : (s.onShare g).share = g s.share := rfl
@[simp] theorem State.onShare_rope (s : State) (g : Share → Share) : (s.onShare g).rope = s.rope := rfl
@[simp] theorem State.onShare_swing (s : State) (g : Share → Share) : (s.onShare g).swing = s.swing := rfl
@[simp] theorem State.onShare_walk (s : State) (g : Share → Share) : (s.onShare g).walk = s.walk := rfl
@[simp] theorem State.onShare_contactor (s : State) (g : Share → Share) : (s.onShare g).contactor = s.contactor := rfl
@[simp] theorem State.onShare_alarms (s : State) (g : Share → Share) : (s.onShare g).alarms = s.alarms := rfl
@[simp] theorem State.onShare_table (s : State) (g : Share → Share) : (s.onShare g).table = s.table := rfl
@[simp] theorem State.onShare_startup (s : State) (g : Share → Share) : (s.onShare g).startup = s.startup := rfl
@[simp] theorem State.onShare_encoder (s : State) (g : Share → Share) : (s.onShare g).encoder = s.encoder := rfl
@[simp] theorem State.onShare_inputs (s : State) (g : Share → Share) : (s.onShare g).inputs = s.inputs := rfl
@[simp] theorem State.onShare_events (s : State) (g : Share → Share) : (s.onShare g).events = s.events := rfl
@[simp] theorem State.onShare_pending (s : State) (g : Share → Share) : (s.onShare g).pending = s.pending := rfl

@[simp] theorem State.onRope_line (s : State) (g : Rope → Rope) : (s.onRope g).line = s.line := rfl
@[simp] theorem State.onRope_time (s : State) (g : Rope → Rope) : (s.onRope g).time = s.time := rfl
@[simp] theorem State.onRope_unit0 (s : State) (g : Rope → Rope) : (s.onRope g).unit0 = s.unit0 := rfl
@[simp] theorem State.onRope_unit1 (s : State) (g : Rope → Rope) : (s.onRope g).unit1 = s.unit1 := rfl
@[simp] theorem State.onRope_picture (s : State) (g : Rope → Rope) : (s.onRope g).picture = s.picture := rfl
@[simp] theorem State.onRope_ring (s : State) (g : Rope → Rope) : (s.onRope g).ring = s.ring := rfl
@[simp] theorem State.onRope_cab (s : State) (g : Rope → Rope) : (s.onRope g).cab = s.cab := rfl
@[simp] theorem State.onRope_drive (s : State) (g : Rope → Rope) : (s.onRope g).drive = s.drive := rfl
@[simp] theorem State.onRope_share (s : State) (g : Rope → Rope) : (s.onRope g).share = s.share := rfl
@[simp] theorem State.onRope_rope (s : State) (g : Rope → Rope) : (s.onRope g).rope = g s.rope := rfl
@[simp] theorem State.onRope_swing (s : State) (g : Rope → Rope) : (s.onRope g).swing = s.swing := rfl
@[simp] theorem State.onRope_walk (s : State) (g : Rope → Rope) : (s.onRope g).walk = s.walk := rfl
@[simp] theorem State.onRope_contactor (s : State) (g : Rope → Rope) : (s.onRope g).contactor = s.contactor := rfl
@[simp] theorem State.onRope_alarms (s : State) (g : Rope → Rope) : (s.onRope g).alarms = s.alarms := rfl
@[simp] theorem State.onRope_table (s : State) (g : Rope → Rope) : (s.onRope g).table = s.table := rfl
@[simp] theorem State.onRope_startup (s : State) (g : Rope → Rope) : (s.onRope g).startup = s.startup := rfl
@[simp] theorem State.onRope_encoder (s : State) (g : Rope → Rope) : (s.onRope g).encoder = s.encoder := rfl
@[simp] theorem State.onRope_inputs (s : State) (g : Rope → Rope) : (s.onRope g).inputs = s.inputs := rfl
@[simp] theorem State.onRope_events (s : State) (g : Rope → Rope) : (s.onRope g).events = s.events := rfl
@[simp] theorem State.onRope_pending (s : State) (g : Rope → Rope) : (s.onRope g).pending = s.pending := rfl

@[simp] theorem State.onSwing_line (s : State) (g : Swing → Swing) : (s.onSwing g).line = s.line := rfl
@[simp] theorem State.onSwing_time (s : State) (g : Swing → Swing) : (s.onSwing g).time = s.time := rfl
@[simp] theorem State.onSwing_unit0 (s : State) (g : Swing → Swing) : (s.onSwing g).unit0 = s.unit0 := rfl
@[simp] theorem State.onSwing_unit1 (s : State) (g : Swing → Swing) : (s.onSwing g).unit1 = s.unit1 := rfl
@[simp] theorem State.onSwing_picture (s : State) (g : Swing → Swing) : (s.onSwing g).picture = s.picture := rfl
@[simp] theorem State.onSwing_ring (s : State) (g : Swing → Swing) : (s.onSwing g).ring = s.ring := rfl
@[simp] theorem State.onSwing_cab (s : State) (g : Swing → Swing) : (s.onSwing g).cab = s.cab := rfl
@[simp] theorem State.onSwing_drive (s : State) (g : Swing → Swing) : (s.onSwing g).drive = s.drive := rfl
@[simp] theorem State.onSwing_share (s : State) (g : Swing → Swing) : (s.onSwing g).share = s.share := rfl
@[simp] theorem State.onSwing_rope (s : State) (g : Swing → Swing) : (s.onSwing g).rope = s.rope := rfl
@[simp] theorem State.onSwing_swing (s : State) (g : Swing → Swing) : (s.onSwing g).swing = g s.swing := rfl
@[simp] theorem State.onSwing_walk (s : State) (g : Swing → Swing) : (s.onSwing g).walk = s.walk := rfl
@[simp] theorem State.onSwing_contactor (s : State) (g : Swing → Swing) : (s.onSwing g).contactor = s.contactor := rfl
@[simp] theorem State.onSwing_alarms (s : State) (g : Swing → Swing) : (s.onSwing g).alarms = s.alarms := rfl
@[simp] theorem State.onSwing_table (s : State) (g : Swing → Swing) : (s.onSwing g).table = s.table := rfl
@[simp] theorem State.onSwing_startup (s : State) (g : Swing → Swing) : (s.onSwing g).startup = s.startup := rfl
@[simp] theorem State.onSwing_encoder (s : State) (g : Swing → Swing) : (s.onSwing g).encoder = s.encoder := rfl
@[simp] theorem State.onSwing_inputs (s : State) (g : Swing → Swing) : (s.onSwing g).inputs = s.inputs := rfl
@[simp] theorem State.onSwing_events (s : State) (g : Swing → Swing) : (s.onSwing g).events = s.events := rfl
@[simp] theorem State.onSwing_pending (s : State) (g : Swing → Swing) : (s.onSwing g).pending = s.pending := rfl

@[simp] theorem State.onWalk_line (s : State) (g : Walk → Walk) : (s.onWalk g).line = s.line := rfl
@[simp] theorem State.onWalk_time (s : State) (g : Walk → Walk) : (s.onWalk g).time = s.time := rfl
@[simp] theorem State.onWalk_unit0 (s : State) (g : Walk → Walk) : (s.onWalk g).unit0 = s.unit0 := rfl
@[simp] theorem State.onWalk_unit1 (s : State) (g : Walk → Walk) : (s.onWalk g).unit1 = s.unit1 := rfl
@[simp] theorem State.onWalk_picture (s : State) (g : Walk → Walk) : (s.onWalk g).picture = s.picture := rfl
@[simp] theorem State.onWalk_ring (s : State) (g : Walk → Walk) : (s.onWalk g).ring = s.ring := rfl
@[simp] theorem State.onWalk_cab (s : State) (g : Walk → Walk) : (s.onWalk g).cab = s.cab := rfl
@[simp] theorem State.onWalk_drive (s : State) (g : Walk → Walk) : (s.onWalk g).drive = s.drive := rfl
@[simp] theorem State.onWalk_share (s : State) (g : Walk → Walk) : (s.onWalk g).share = s.share := rfl
@[simp] theorem State.onWalk_rope (s : State) (g : Walk → Walk) : (s.onWalk g).rope = s.rope := rfl
@[simp] theorem State.onWalk_swing (s : State) (g : Walk → Walk) : (s.onWalk g).swing = s.swing := rfl
@[simp] theorem State.onWalk_walk (s : State) (g : Walk → Walk) : (s.onWalk g).walk = g s.walk := rfl
@[simp] theorem State.onWalk_contactor (s : State) (g : Walk → Walk) : (s.onWalk g).contactor = s.contactor := rfl
@[simp] theorem State.onWalk_alarms (s : State) (g : Walk → Walk) : (s.onWalk g).alarms = s.alarms := rfl
@[simp] theorem State.onWalk_table (s : State) (g : Walk → Walk) : (s.onWalk g).table = s.table := rfl
@[simp] theorem State.onWalk_startup (s : State) (g : Walk → Walk) : (s.onWalk g).startup = s.startup := rfl
@[simp] theorem State.onWalk_encoder (s : State) (g : Walk → Walk) : (s.onWalk g).encoder = s.encoder := rfl
@[simp] theorem State.onWalk_inputs (s : State) (g : Walk → Walk) : (s.onWalk g).inputs = s.inputs := rfl
@[simp] theorem State.onWalk_events (s : State) (g : Walk → Walk) : (s.onWalk g).events = s.events := rfl
@[simp] theorem State.onWalk_pending (s : State) (g : Walk → Walk) : (s.onWalk g).pending = s.pending := rfl

@[simp] theorem State.onContactor_line (s : State) (g : Contactor → Contactor) : (s.onContactor g).line = s.line := rfl
@[simp] theorem State.onContactor_time (s : State) (g : Contactor → Contactor) : (s.onContactor g).time = s.time := rfl
@[simp] theorem State.onContactor_unit0 (s : State) (g : Contactor → Contactor) : (s.onContactor g).unit0 = s.unit0 := rfl
@[simp] theorem State.onContactor_unit1 (s : State) (g : Contactor → Contactor) : (s.onContactor g).unit1 = s.unit1 := rfl
@[simp] theorem State.onContactor_picture (s : State) (g : Contactor → Contactor) : (s.onContactor g).picture = s.picture := rfl
@[simp] theorem State.onContactor_ring (s : State) (g : Contactor → Contactor) : (s.onContactor g).ring = s.ring := rfl
@[simp] theorem State.onContactor_cab (s : State) (g : Contactor → Contactor) : (s.onContactor g).cab = s.cab := rfl
@[simp] theorem State.onContactor_drive (s : State) (g : Contactor → Contactor) : (s.onContactor g).drive = s.drive := rfl
@[simp] theorem State.onContactor_share (s : State) (g : Contactor → Contactor) : (s.onContactor g).share = s.share := rfl
@[simp] theorem State.onContactor_rope (s : State) (g : Contactor → Contactor) : (s.onContactor g).rope = s.rope := rfl
@[simp] theorem State.onContactor_swing (s : State) (g : Contactor → Contactor) : (s.onContactor g).swing = s.swing := rfl
@[simp] theorem State.onContactor_walk (s : State) (g : Contactor → Contactor) : (s.onContactor g).walk = s.walk := rfl
@[simp] theorem State.onContactor_contactor (s : State) (g : Contactor → Contactor) : (s.onContactor g).contactor = g s.contactor := rfl
@[simp] theorem State.onContactor_alarms (s : State) (g : Contactor → Contactor) : (s.onContactor g).alarms = s.alarms := rfl
@[simp] theorem State.onContactor_table (s : State) (g : Contactor → Contactor) : (s.onContactor g).table = s.table := rfl
@[simp] theorem State.onContactor_startup (s : State) (g : Contactor → Contactor) : (s.onContactor g).startup = s.startup := rfl
@[simp] theorem State.onContactor_encoder (s : State) (g : Contactor → Contactor) : (s.onContactor g).encoder = s.encoder := rfl
@[simp] theorem State.onContactor_inputs (s : State) (g : Contactor → Contactor) : (s.onContactor g).inputs = s.inputs := rfl
@[simp] theorem State.onContactor_events (s : State) (g : Contactor → Contactor) : (s.onContactor g).events = s.events := rfl
@[simp] theorem State.onContactor_pending (s : State) (g : Contactor → Contactor) : (s.onContactor g).pending = s.pending := rfl

@[simp] theorem State.onAlarms_line (s : State) (g : Alarms → Alarms) : (s.onAlarms g).line = s.line := rfl
@[simp] theorem State.onAlarms_time (s : State) (g : Alarms → Alarms) : (s.onAlarms g).time = s.time := rfl
@[simp] theorem State.onAlarms_unit0 (s : State) (g : Alarms → Alarms) : (s.onAlarms g).unit0 = s.unit0 := rfl
@[simp] theorem State.onAlarms_unit1 (s : State) (g : Alarms → Alarms) : (s.onAlarms g).unit1 = s.unit1 := rfl
@[simp] theorem State.onAlarms_picture (s : State) (g : Alarms → Alarms) : (s.onAlarms g).picture = s.picture := rfl
@[simp] theorem State.onAlarms_ring (s : State) (g : Alarms → Alarms) : (s.onAlarms g).ring = s.ring := rfl
@[simp] theorem State.onAlarms_cab (s : State) (g : Alarms → Alarms) : (s.onAlarms g).cab = s.cab := rfl
@[simp] theorem State.onAlarms_drive (s : State) (g : Alarms → Alarms) : (s.onAlarms g).drive = s.drive := rfl
@[simp] theorem State.onAlarms_share (s : State) (g : Alarms → Alarms) : (s.onAlarms g).share = s.share := rfl
@[simp] theorem State.onAlarms_rope (s : State) (g : Alarms → Alarms) : (s.onAlarms g).rope = s.rope := rfl
@[simp] theorem State.onAlarms_swing (s : State) (g : Alarms → Alarms) : (s.onAlarms g).swing = s.swing := rfl
@[simp] theorem State.onAlarms_walk (s : State) (g : Alarms → Alarms) : (s.onAlarms g).walk = s.walk := rfl
@[simp] theorem State.onAlarms_contactor (s : State) (g : Alarms → Alarms) : (s.onAlarms g).contactor = s.contactor := rfl
@[simp] theorem State.onAlarms_alarms (s : State) (g : Alarms → Alarms) : (s.onAlarms g).alarms = g s.alarms := rfl
@[simp] theorem State.onAlarms_table (s : State) (g : Alarms → Alarms) : (s.onAlarms g).table = s.table := rfl
@[simp] theorem State.onAlarms_startup (s : State) (g : Alarms → Alarms) : (s.onAlarms g).startup = s.startup := rfl
@[simp] theorem State.onAlarms_encoder (s : State) (g : Alarms → Alarms) : (s.onAlarms g).encoder = s.encoder := rfl
@[simp] theorem State.onAlarms_inputs (s : State) (g : Alarms → Alarms) : (s.onAlarms g).inputs = s.inputs := rfl
@[simp] theorem State.onAlarms_events (s : State) (g : Alarms → Alarms) : (s.onAlarms g).events = s.events := rfl
@[simp] theorem State.onAlarms_pending (s : State) (g : Alarms → Alarms) : (s.onAlarms g).pending = s.pending := rfl

@[simp] theorem State.onTable_line (s : State) (g : MachineTable → MachineTable) : (s.onTable g).line = s.line := rfl
@[simp] theorem State.onTable_time (s : State) (g : MachineTable → MachineTable) : (s.onTable g).time = s.time := rfl
@[simp] theorem State.onTable_unit0 (s : State) (g : MachineTable → MachineTable) : (s.onTable g).unit0 = s.unit0 := rfl
@[simp] theorem State.onTable_unit1 (s : State) (g : MachineTable → MachineTable) : (s.onTable g).unit1 = s.unit1 := rfl
@[simp] theorem State.onTable_picture (s : State) (g : MachineTable → MachineTable) : (s.onTable g).picture = s.picture := rfl
@[simp] theorem State.onTable_ring (s : State) (g : MachineTable → MachineTable) : (s.onTable g).ring = s.ring := rfl
@[simp] theorem State.onTable_cab (s : State) (g : MachineTable → MachineTable) : (s.onTable g).cab = s.cab := rfl
@[simp] theorem State.onTable_drive (s : State) (g : MachineTable → MachineTable) : (s.onTable g).drive = s.drive := rfl
@[simp] theorem State.onTable_share (s : State) (g : MachineTable → MachineTable) : (s.onTable g).share = s.share := rfl
@[simp] theorem State.onTable_rope (s : State) (g : MachineTable → MachineTable) : (s.onTable g).rope = s.rope := rfl
@[simp] theorem State.onTable_swing (s : State) (g : MachineTable → MachineTable) : (s.onTable g).swing = s.swing := rfl
@[simp] theorem State.onTable_walk (s : State) (g : MachineTable → MachineTable) : (s.onTable g).walk = s.walk := rfl
@[simp] theorem State.onTable_contactor (s : State) (g : MachineTable → MachineTable) : (s.onTable g).contactor = s.contactor := rfl
@[simp] theorem State.onTable_alarms (s : State) (g : MachineTable → MachineTable) : (s.onTable g).alarms = s.alarms := rfl
@[simp] theorem State.onTable_table (s : State) (g : MachineTable → MachineTable) : (s.onTable g).table = g s.table := rfl
@[simp] theorem State.onTable_startup (s : State) (g : MachineTable → MachineTable) : (s.onTable g).startup = s.startup := rfl
@[simp] theorem State.onTable_encoder (s : State) (g : MachineTable → MachineTable) : (s.onTable g).encoder = s.encoder := rfl
@[simp] theorem State.onTable_inputs (s : State) (g : MachineTable → MachineTable) : (s.onTable g).inputs = s.inputs := rfl
@[simp] theorem State.onTable_events (s : State) (g : MachineTable → MachineTable) : (s.onTable g).events = s.events := rfl
@[simp] theorem State.onTable_pending (s : State) (g : MachineTable → MachineTable) : (s.onTable g).pending = s.pending := rfl

@[simp] theorem State.onStartup_line (s : State) (g : StartUp → StartUp) : (s.onStartup g).line = s.line := rfl
@[simp] theorem State.onStartup_time (s : State) (g : StartUp → StartUp) : (s.onStartup g).time = s.time := rfl
@[simp] theorem State.onStartup_unit0 (s : State) (g : StartUp → StartUp) : (s.onStartup g).unit0 = s.unit0 := rfl
@[simp] theorem State.onStartup_unit1 (s : State) (g : StartUp → StartUp) : (s.onStartup g).unit1 = s.unit1 := rfl
@[simp] theorem State.onStartup_picture (s : State) (g : StartUp → StartUp) : (s.onStartup g).picture = s.picture := rfl
@[simp] theorem State.onStartup_ring (s : State) (g : StartUp → StartUp) : (s.onStartup g).ring = s.ring := rfl
@[simp] theorem State.onStartup_cab (s : State) (g : StartUp → StartUp) : (s.onStartup g).cab = s.cab := rfl
@[simp] theorem State.onStartup_drive (s : State) (g : StartUp → StartUp) : (s.onStartup g).drive = s.drive := rfl
@[simp] theorem State.onStartup_share (s : State) (g : StartUp → StartUp) : (s.onStartup g).share = s.share := rfl
@[simp] theorem State.onStartup_rope (s : State) (g : StartUp → StartUp) : (s.onStartup g).rope = s.rope := rfl
@[simp] theorem State.onStartup_swing (s : State) (g : StartUp → StartUp) : (s.onStartup g).swing = s.swing := rfl
@[simp] theorem State.onStartup_walk (s : State) (g : StartUp → StartUp) : (s.onStartup g).walk = s.walk := rfl
@[simp] theorem State.onStartup_contactor (s : State) (g : StartUp → StartUp) : (s.onStartup g).contactor = s.contactor := rfl
@[simp] theorem State.onStartup_alarms (s : State) (g : StartUp → StartUp) : (s.onStartup g).alarms = s.alarms := rfl
@[simp] theorem State.onStartup_table (s : State) (g : StartUp → StartUp) : (s.onStartup g).table = s.table := rfl
@[simp] theorem State.onStartup_startup (s : State) (g : StartUp → StartUp) : (s.onStartup g).startup = g s.startup := rfl
@[simp] theorem State.onStartup_encoder (s : State) (g : StartUp → StartUp) : (s.onStartup g).encoder = s.encoder := rfl
@[simp] theorem State.onStartup_inputs (s : State) (g : StartUp → StartUp) : (s.onStartup g).inputs = s.inputs := rfl
@[simp] theorem State.onStartup_events (s : State) (g : StartUp → StartUp) : (s.onStartup g).events = s.events := rfl
@[simp] theorem State.onStartup_pending (s : State) (g : StartUp → StartUp) : (s.onStartup g).pending = s.pending := rfl

@[simp] theorem State.note_line (s : State) (e : Event) : (s.note e).line = s.line := rfl
@[simp] theorem State.note_time (s : State) (e : Event) : (s.note e).time = s.time := rfl
@[simp] theorem State.note_unit0 (s : State) (e : Event) : (s.note e).unit0 = s.unit0 := rfl
@[simp] theorem State.note_unit1 (s : State) (e : Event) : (s.note e).unit1 = s.unit1 := rfl
@[simp] theorem State.note_picture (s : State) (e : Event) : (s.note e).picture = s.picture := rfl
@[simp] theorem State.note_ring (s : State) (e : Event) : (s.note e).ring = s.ring := rfl
@[simp] theorem State.note_cab (s : State) (e : Event) : (s.note e).cab = s.cab := rfl
@[simp] theorem State.note_drive (s : State) (e : Event) : (s.note e).drive = s.drive := rfl
@[simp] theorem State.note_share (s : State) (e : Event) : (s.note e).share = s.share := rfl
@[simp] theorem State.note_rope (s : State) (e : Event) : (s.note e).rope = s.rope := rfl
@[simp] theorem State.note_swing (s : State) (e : Event) : (s.note e).swing = s.swing := rfl
@[simp] theorem State.note_walk (s : State) (e : Event) : (s.note e).walk = s.walk := rfl
@[simp] theorem State.note_contactor (s : State) (e : Event) : (s.note e).contactor = s.contactor := rfl
@[simp] theorem State.note_alarms (s : State) (e : Event) : (s.note e).alarms = s.alarms := rfl
@[simp] theorem State.note_table (s : State) (e : Event) : (s.note e).table = s.table := rfl
@[simp] theorem State.note_startup (s : State) (e : Event) : (s.note e).startup = s.startup := rfl
@[simp] theorem State.note_encoder (s : State) (e : Event) : (s.note e).encoder = s.encoder := rfl
@[simp] theorem State.note_inputs (s : State) (e : Event) : (s.note e).inputs = s.inputs := rfl
@[simp] theorem State.note_events (s : State) (e : Event) : (s.note e).events = e :: s.events := rfl
@[simp] theorem State.note_pending (s : State) (e : Event) : (s.note e).pending = s.pending := rfl

end Sys2Proof.Machine
end

