-- ==== Sys2Proof/Laws/Ops.lean ====
section
/-! SUPPORT. What each shared operation can change: one frame for each. A proof cites these in place of
unfolding the operation. -/

namespace Sys2Proof.Machine

/-! ### Transmit queue -/

theorem count_frame (s : State) (g : LineCounters → LineCounters) : Frame [.line] s (s.count g) :=
  onLine_frame s _

theorem countReplaced_frame (k : Kind) (s : State) : Frame [.line] s (countReplaced k s) := by
  unfold countReplaced; split
  · exact count_frame s _
  · exact count_frame s _
  · exact .refl _ s

theorem replaceOlder_frame (k : Kind) (s : State) : Frame [.line] s (replaceOlder k s) := by
  unfold replaceOlder; dsimp only; split
  · exact (onLine_frame s _).trans (countReplaced_frame k _)
  · exact onLine_frame s _

theorem admitGeneral_frame (e : Entry) (s : State) : Frame [.line] s (admitGeneral e s).1 := by
  unfold admitGeneral; dsimp only; split
  · exact onLine_frame s _
  · split
    · exact count_frame s _
    · exact (onLine_frame s _).trans (count_frame _ _)

theorem enqueue_frame (e : Entry) (s : State) : Frame [.line] s (enqueue e s).1 := by
  unfold enqueue; dsimp only
  split
  · exact count_frame s _
  · split
    · exact onLine_frame s _
    · split
      · exact (replaceOlder_frame _ s).trans (admitGeneral_frame _ _)
      · exact admitGeneral_frame _ s

theorem place_frame (e : Entry) (s : State) : Frame [.line] s (place e s) := enqueue_frame e s

/-- The frame of a placement, from an equation of its result. -/
theorem enqueue_eq_frame {e : Entry} {s t : State} {a : Admission} (h : enqueue e s = (t, a)) :
    Frame [.line] s t := by
  have := enqueue_frame e s
  rwa [h] at this

theorem settleWhere_frame (p : Entry → Bool) (s : State) : Frame [.line] s (settleWhere p s) := onLine_frame s _

theorem settle_frame (s : State) : Frame [.line] s (settle s) := onLine_frame s _

theorem elapse_frame (n : Nat) (s : State) : Frame [.line] s (elapse n s) := onLine_frame s _

theorem enterLoopback_frame (s : State) : Frame [.line] s (enterLoopback s) := onLine_frame s _

theorem leaveLoopback_frame (l : LineState) (s : State) : Frame [.line] s (leaveLoopback l s) := onLine_frame s _

theorem muteWhere_frame (p : Entry → Bool) (s : State) : Frame [.line] s (muteWhere p s) :=
  onLine_frame s _

theorem muteEntries_frame (k : Kind) (s : State) : Frame [.line] s (muteEntries k s) := muteWhere_frame _ s

/-! ### Re-arm, frames, the owned hook -/

theorem setRearm_frame (s : State) : Frame [.ring] s (setRearm s) := by
  unfold setRearm; split
  · exact onRing_frame s _
  · exact .refl _ s

theorem sendFrame_frame (w : Int) (e : Bool) (s : State) : Frame [.drive] s (sendFrame w e s) :=
  onDrive_frame s _

theorem stopFrame_frame (s : State) : Frame [.drive] s (stopFrame s) := onDrive_frame s _

theorem watchOwned_frame (s : State) : Frame [.drive] s (watchOwned s) := by
  unfold watchOwned; dsimp only
  refine Frame.trans ?_ (onDrive_frame _ _)
  split
  · exact (onDrive_frame s _).trans (stopFrame_frame _)
  · exact .refl _ s

theorem enterReclaiming_frame (s : State) : Frame [.ring, .drive, .rope] s (enterReclaiming s) :=
  ((onRope_frame s _).comp (setRearm_frame _) (by decide) (by decide)).trans
    ((watchOwned_frame _).mono (by decide))

theorem setWalkState_frame (w : WalkState) (s : State) :
    Frame [.line, .drive, .walk] s (setWalkState w s) := by
  unfold setWalkState; dsimp only
  refine Frame.trans ?_ ((onWalk_frame _ _).comp (watchOwned_frame _) (by decide) (by decide))
  split
  · exact (muteEntries_frame _ s).mono (by decide)
  · exact .refl _ s

theorem setCoil_frame (on : Bool) (s : State) : Frame [.walk] s (setCoil on s) := onWalk_frame s _

/-! ### Station alarm list -/

theorem reportAlarm_frame (r : AlarmRecord) (removed refresh : Bool) (s : State) :
    Frame [.line, .table] s (reportAlarm r removed refresh s) := by
  unfold reportAlarm; dsimp only
  have h := (place_frame
    { kind := .alarm, target := Config.broadcast, words := alarmWords r removed refresh } s).mono
      (cs := [.line, .table]) (by decide)
  split
  · exact h.trans ((onTable_frame _ _).mono (by decide))
  · exact h

theorem setAlarmList_frame (l : List AlarmRecord) (s : State) : Frame [.alarms] s (setAlarmList l s) :=
  onAlarms_frame s _

/-- A change of the list and its report. -/
theorem report_after_frame (r : AlarmRecord) (a b : Bool) (l : List AlarmRecord) (s : State) :
    Frame [.line, .alarms, .table] s (reportAlarm r a b (setAlarmList l s)) :=
  (setAlarmList_frame l s).comp (reportAlarm_frame r a b _) (by decide) (by decide)

theorem enterRecord_frame (r : AlarmRecord) (s : State) :
    Frame [.line, .alarms, .table] s (enterRecord r s).1 := by
  unfold enterRecord; dsimp only
  split
  · exact report_after_frame _ _ _ _ s
  · split
    · exact (onAlarms_frame s _).mono (by decide)
    · exact (report_after_frame _ _ _ _ s).trans (report_after_frame _ _ _ _ _)

theorem raiseRecord_frame (c : AlarmCode) (d : Option Nat) (s : State) :
    Frame [.line, .alarms, .table] s (raiseRecord c d s).1 := by
  unfold raiseRecord; dsimp only
  split
  · exact .refl _ s
  · split
    · exact enterRecord_frame _ s
    · split
      · exact report_after_frame _ _ _ _ s
      · exact report_after_frame _ _ _ _ s

/-- A quiet raise changes the list, its report's place in the queue and at the cab the table, no more. -/
theorem raiseQuiet_frame (c : AlarmCode) (d : Option Nat) (s : State) :
    Frame [.line, .alarms, .table] s (raiseQuiet c d s) := raiseRecord_frame c d s

/-- A clear changes what a quiet raise changes, and re-arms the ring where it ends the STOP inhibit. -/
theorem clearAlarm_frame (c : AlarmCode) (d : Option Nat) (s : State) :
    Frame [.line, .alarms, .table, .ring] s (clearAlarm c d s) := by
  have three : ∀ {t : State}, Frame [.line, .alarms, .table] s t → Frame [.line, .alarms, .table, .ring] s t :=
    fun h => h.mono (by decide)
  have rearmIf : ∀ (b : Prop) [Decidable b] (t : State), Frame [.line, .alarms, .table, .ring] s t →
      Frame [.line, .alarms, .table, .ring] s (if b then setRearm t else t) :=
    fun _ _ t h => .ite (h.trans ((setRearm_frame t).mono (by decide))) h
  unfold clearAlarm; dsimp only
  split
  · exact .refl _ s
  · split
    · exact .refl _ s
    · split
      · exact rearmIf _ _ (.refl _ s)
      · exact rearmIf _ _ (three (report_after_frame _ _ _ _ s))
      · exact rearmIf _ _ (three (report_after_frame _ _ _ _ s))

theorem raiseAndClear_frame (c : AlarmCode) (d : Option Nat) (s : State) :
    Frame [.line, .alarms, .table, .ring] s (raiseAndClear c d s) :=
  ((raiseQuiet_frame c d s).mono (by decide)).trans (clearAlarm_frame c d _)

theorem ackRecord_frame (t : Stamp) (s : State) (r : AlarmRecord) :
    Frame [.line, .alarms, .table] s (ackRecord t s r) := by
  unfold ackRecord
  split
  · split
    · exact .refl _ s
    · exact report_after_frame _ _ _ _ s
    · exact report_after_frame _ _ _ _ s
  · exact .refl _ s

theorem ackList_frame (t : Stamp) (s : State) : Frame [.line, .alarms, .table] s (ackList t s) := by
  unfold ackList; split
  · exact .foldl (ackRecord_frame t) _ s
  · exact .refl _ s

/-! ### Outcomes, TRIPPED, raises -/

/-- The blocks that an owner acting on a bulletin not delivered, or a raise, may change. -/
def raiseBlocks : List Block := [.line, .alarms, .table, .ring, .drive, .walk, .rope, .share]

theorem returnFailed_frame (peer : Nat) (ret : Nat × Word) (muted : Bool) (s : State) :
    Frame [.line, .alarms, .table, .ring, .share] s (returnFailed peer ret muted s) := by
  unfold returnFailed; dsimp only
  have h : ∀ t : State, Frame [.line, .alarms, .table, .ring, .share] s t →
      Frame [.line, .alarms, .table, .ring, .share] s (if muted then t else loanDropped peer t) :=
    fun t ht => .ite ht (ht.trans ((raiseAndClear_frame _ _ t).mono (by decide)))
  apply h
  split
  · exact .refl _ s
  · split <;> exact (onShare_frame s _).mono (by decide)

theorem transferRefused_frame (reason : Nat) (s : State) : Frame raiseBlocks s (transferRefused reason s) :=
  (raiseAndClear_frame _ _ s).comp (setWalkState_frame _ _) (by decide) (by decide)

theorem outcomeFailed_frame (e : Entry) (s : State) : Frame raiseBlocks s (outcomeFailed e s) := by
  unfold outcomeFailed
  split
  · exact .ite (.refl _ s) ((onShare_frame s _).mono (by decide))
  · exact (onShare_frame s _).mono (by decide)
  · exact (returnFailed_frame _ _ _ s).mono (by decide)
  · exact .ite (transferRefused_frame _ s) (.refl _ s)
  · exact .ite ((enterReclaiming_frame s).mono (by decide)) (.refl _ s)
  · exact .refl _ s

theorem enterFaulted_frame (d : Nat) (s : State) : Frame raiseBlocks s (enterFaulted d s) :=
  (((setCoil_frame false s).comp (setWalkState_frame _ _) (by decide) (by decide)).trans
    ((place_frame _ _).mono (by decide))).trans ((raiseQuiet_frame _ _ _).mono (by decide))

theorem driveTripped_frame (s : State) : Frame [.drive] s (driveTripped s) := by
  unfold driveTripped; split
  · exact (onDrive_frame s _).trans (stopFrame_frame _)
  · exact .refl _ s

theorem walkTripped_frame (s : State) : Frame raiseBlocks s (walkTripped s) := by
  unfold walkTripped; split
  · split
    case h_1 => exact enterFaulted_frame 3 s
    case h_2 => exact enterFaulted_frame 3 s
    case h_3 => exact ((onWalk_frame s _).comp (setWalkState_frame _ _) (by decide) (by decide)).trans
                  ((clearAlarm_frame _ _ _).mono (by decide))
    case h_4 => exact ((onWalk_frame s _).comp (setWalkState_frame _ _) (by decide) (by decide)).trans
                  ((clearAlarm_frame _ _ _).mono (by decide))
    all_goals exact .refl _ s
  · exact .refl _ s

theorem openEpisode_frame (w : Bool) (s : State) : Frame [.table] s (openEpisode w s) := by
  unfold openEpisode; split
  · exact onTable_frame s _
  · exact .refl _ s

/-- Entry to TRIPPED changes no token, no ownership and no time. -/
theorem enterTripped_frame (s : State) : Frame raiseBlocks s (enterTripped s) := by
  unfold enterTripped; dsimp only
  exact (((onAlarms_frame s _).comp (driveTripped_frame _) (by decide) (by decide)).trans
    (walkTripped_frame _)).trans ((openEpisode_frame _ _).mono (by decide))

theorem placeTrip_frame (c : AlarmCode) (d : Option Nat) (t : Stamp) (s : State) :
    Frame raiseBlocks s (placeTrip c d t s) := by
  unfold placeTrip
  split
  next s' e h => exact ((enqueue_eq_frame h).mono (by decide)).trans (outcomeFailed_frame e s')
  next s' a _ h => exact (enqueue_eq_frame h).mono (by decide)

/-- Whatever a raise brings about stays within these blocks: the time, the picture, the settings, the
capture units, the swing, the contactor counts, the cab's presses and the inputs stand. -/
theorem raise_frame (c : AlarmCode) (d : Option Nat) (s : State) : Frame raiseBlocks s (raise c d s) := by
  unfold raise; dsimp only
  have h := (raiseRecord_frame c d s).mono (cs := raiseBlocks) (by decide)
  split
  · have h2 := h.trans (enterTripped_frame _)
    split
    · exact h2
    · exact h2.trans (placeTrip_frame _ _ _ _)
  · exact h

theorem raiseThenClear_frame (c : AlarmCode) (d : Option Nat) (s : State) :
    Frame raiseBlocks s (raiseThenClear c d s) :=
  (raise_frame c d s).trans ((clearAlarm_frame c d _).mono (by decide))

end Sys2Proof.Machine
end

