-- ==== Sys2Proof/Laws/Capture.lean ====
section
/-! SUPPORT. What a 10 µs sample of the inputs can change, and when it captures nothing. -/

namespace Sys2Proof.Machine

/-! ### Edges (R31) -/

theorem isEdge_self (rising b : Bool) : isEdge rising b b = false := by simp [isEdge]

theorem isEdge_selected (rising : Bool) : isEdge rising (!rising) rising = true := by
  cases rising <;> rfl

theorem showsSlave_self (sel : CaptureSel) (din : Byte) : showsSlave sel din din none = false := by
  unfold showsSlave
  split
  · rfl
  · split
    · exact isEdge_self _ _
    · rfl

theorem showsMaster_self (sel : CaptureSel) (din : Byte) : showsMaster sel din din = false :=
  isEdge_self _ _

/-- A sample that shows the levels of the one before it captures nothing (R31). -/
theorem captureEdges_same (s : State) : captureEdges s.inputs.din none s = s := by
  have h : ∀ u t, t = s → captureAt u s.inputs.din none t = s := by
    rintro u t rfl
    unfold captureAt; dsimp only
    simp [showsSlave_self, showsMaster_self]
  unfold captureEdges
  exact h _ _ (h _ _ rfl)

/-- What a changed input reads as. -/
theorem withInput_same (din : Byte) (k : Fin 8) (level : Bool) :
    (withInput din k level).getLsbD k.val = level := by
  have hk := k.isLt
  cases level <;> simp [withInput, hk]

/-- Every other input stands. -/
theorem withInput_other (din : Byte) {j k : Fin 8} (level : Bool) (h : j ≠ k) :
    (withInput din k level).getLsbD j.val = din.getLsbD j.val := by
  have hj := j.isLt
  have hv : j.val ≠ k.val := fun e => h (Fin.ext e)
  rcases Nat.lt_or_gt_of_ne hv with hl | hg
  · cases level <;> simp [withInput, hj, hl]
  · have h1 : ¬ j.val < k.val := by omega
    have h2 : ¬ j.val - k.val = 0 := by omega
    cases level <;> simp [withInput, hj, h1, h2]

/-! ### Frames -/

/-- The blocks that a captured edge and its result may change. -/
def captureBlocks : List Block := .unit0 :: .unit1 :: .swing :: raiseBlocks

theorem onUnit_frame (u : UnitIndex) (s : State) (g : CaptureUnit → CaptureUnit) :
    Frame [.unit0, .unit1] s (s.onUnit u g) := by
  cases u
  · exact (onUnit0_frame s g).mono (by decide)
  · exact (onUnit1_frame s g).mono (by decide)

theorem slaveEdgeAt_frame (u : UnitIndex) (s : State) : Frame [.unit0, .unit1] s (slaveEdgeAt u s) := by
  unfold slaveEdgeAt
  exact .ite (onUnit_frame u s _) (.refl _ s)

theorem ropeResult_frame (n : DWord) (s : State) : Frame captureBlocks s (ropeResult n s) := by
  unfold ropeResult; dsimp only
  have h := fun g => (onRope_frame s g).mono (cs := captureBlocks) (by decide)
  exact .ite (h _) (.ite ((h _).trans ((clearAlarm_frame _ _ _).mono (by decide)))
    ((raiseQuiet_frame _ _ s).mono (by decide)))

theorem swingResult_frame (r : CaptureResult) (s : State) : Frame captureBlocks s (swingResult r s) := by
  unfold swingResult
  split
  · exact .refl _ s
  · dsimp only
    have h := fun (t : State) g => (onSwing_frame t g).mono (cs := captureBlocks) (by decide)
    refine .ite ((h s _).trans ((raiseQuiet_frame _ _ _).mono (by decide))) (.ite ?_ ?_)
    · exact ((h s _).trans (h _ _)).trans ((clearAlarm_frame _ _ _).mono (by decide))
    · exact (h s _).trans (h _ _)

theorem walkTopCentre_frame (r : CaptureResult) (s : State) :
    Frame captureBlocks s (walkTopCentre r s) := by
  unfold walkTopCentre; dsimp only
  have h := fun g => (onWalk_frame s g).mono (cs := captureBlocks) (by decide)
  have k := fun (c : Prop) [Decidable c] g => Frame.ite (c := c)
    ((h g).trans ((clearAlarm_frame .camPhase none _).mono (cs := captureBlocks) (by decide)))
    ((h g).trans ((raiseQuiet_frame .camPhase none _).mono (by decide)))
  exact .ite ((k _ _).trans ((setWalkState_frame _ _).mono (by decide))) (k _ _)

theorem walkTubRest_frame (s : State) : Frame captureBlocks s (walkTubRest s) := by
  unfold walkTubRest; dsimp only
  refine .ite ?_ (.refl _ s)
  exact (((onWalk_frame s _).mono (by decide)).trans ((setWalkState_frame _ _).mono (by decide))).trans
    ((clearAlarm_frame _ _ _).mono (by decide))

/-- A result changes its role's axis function, and what its alarms bring. -/
theorem deliverResult_frame (u : UnitIndex) (r : CaptureResult) (s : State) :
    Frame captureBlocks s (deliverResult u r s) := by
  unfold deliverResult
  split
  · split
    · exact ropeResult_frame _ s
    · exact ropeResult_frame _ s
    · exact swingResult_frame r s
    · exact walkTopCentre_frame r s
    all_goals exact .refl _ s
  · split
    · exact walkTubRest_frame s
    all_goals exact .refl _ s

theorem masterEdgeAt_frame (u : UnitIndex) (s : State) : Frame captureBlocks s (masterEdgeAt u s) := by
  unfold masterEdgeAt; dsimp only
  exact .ite (((onUnit_frame u s _).mono (by decide)).trans (deliverResult_frame u _ _)) (.refl _ s)

theorem captureAt_frame (u : UnitIndex) (before : Byte) (index : Option Bool) (s : State) :
    Frame captureBlocks s (captureAt u before index s) := by
  unfold captureAt; dsimp only
  have h := fun (c : Prop) [Decidable c] =>
    Frame.ite (c := c) ((slaveEdgeAt_frame u s).mono (cs := captureBlocks) (by decide)) (.refl _ s)
  exact .ite ((h _).trans (masterEdgeAt_frame u _)) (h _)

theorem captureEdges_frame (before : Byte) (index : Option Bool) (s : State) :
    Frame captureBlocks s (captureEdges before index s) :=
  (captureAt_frame _ _ _ s).trans (captureAt_frame _ _ _ _)

/-- The blocks a sample of the inputs may change. -/
def sampleBlocks : List Block := .cab :: .inputs :: captureBlocks

theorem emergencySample_frame (s : State) : Frame (.cab :: raiseBlocks) s (emergencySample s) := by
  unfold emergencySample; dsimp only
  split
  · have h := (onCab_frame s fun c =>
      { c with emergency := some (s.inputActive s.params.cab.emergencyInput) }).mono
        (cs := .cab :: raiseBlocks) (by decide)
    split
    · exact h.trans ((raise_frame _ _ _).mono (by decide))
    · split
      · exact h.trans ((clearAlarm_frame _ _ _).mono (by decide))
      · exact h
  · exact .refl _ s

theorem inputs_frame (i : Inputs) (s : State) : Frame [.inputs] s { s with inputs := i } :=
  ⟨fun b hb => by cases b <;> first | rfl | simp at hb, rfl⟩

theorem sampleAfter_frame (before : Byte) (index : Option Bool) (i : Inputs) (s : State) :
    Frame sampleBlocks s (sampleAfter before index i s) :=
  (((inputs_frame i s).comp (watchOwned_frame _) (by decide) (by decide)).trans
    ((emergencySample_frame _).mono (by decide))).trans ((captureEdges_frame _ _ _).mono (by decide))

theorem sampleInputs_frame (i : Inputs) (s : State) : Frame sampleBlocks s (sampleInputs i s) :=
  sampleAfter_frame _ _ i s

theorem sampleDiscrete_frame (din : Byte) (s : State) : Frame sampleBlocks s (sampleDiscrete din s) :=
  sampleInputs_frame _ s

theorem slaveEdge_frame (u : UnitIndex) (s : State) : Frame sampleBlocks s (slaveEdge u s) := by
  unfold slaveEdge; dsimp only
  exact .ite (.refl _ s) (.ite (sampleAfter_frame _ _ _ s) (sampleAfter_frame _ _ _ s))

theorem masterEdge_frame (u : UnitIndex) (s : State) : Frame sampleBlocks s (masterEdge u s) := by
  unfold masterEdge; dsimp only
  exact .ite (sampleAfter_frame _ _ _ s) (.refl _ s)

end Sys2Proof.Machine
end

