-- ==== Sys2Proof/Laws/Cycle.lean ====
section
/-! SUPPORT. What the blocks' work of a cycle start can change. The settings, the capture units, the encoder
count, the inputs and the waiting commands stand through all of it; the sample before it may capture edges. -/

namespace Sys2Proof.Machine

/-- The blocks the work of a cycle start may change. -/
def cycleBlocks : List Block :=
  [.line, .time, .picture, .ring, .cab, .drive, .share, .rope, .swing, .walk, .contactor, .alarms, .table]

/-- The line and the alarm unit, which every quiet raise and clear stays within. -/
def alarmBlocks : List Block := [.line, .alarms, .table, .ring]

theorem Frame.note {bs : List Block} {s t : State} (h : Frame bs s t) (e : Event) : Frame bs s (t.note e) :=
  h.trans ((note_frame t e).mono (by simp))

theorem quiet_frame (c : AlarmCode) (d : Option Nat) (s : State) :
    Frame alarmBlocks s (raiseQuiet c d s) := (raiseQuiet_frame c d s).mono (by decide)

theorem clear_frame (c : AlarmCode) (d : Option Nat) (s : State) : Frame alarmBlocks s (clearAlarm c d s) :=
  (clearAlarm_frame c d s).mono (by decide)

/-! ### Line unit and picture -/

theorem entryExpired_frame (s : State) (e : Entry) : Frame raiseBlocks s (entryExpired s e) :=
  ((count_frame s _).mono (by decide)).trans (outcomeFailed_frame e _)

theorem ageQueue_frame (s : State) : Frame raiseBlocks s (ageQueue s) :=
  ((onLine_frame s _).mono (by decide)).trans (.foldl entryExpired_frame _ _)

theorem duplicateCycle_frame (s : State) : Frame alarmBlocks s (duplicateCycle s) := by
  unfold duplicateCycle
  refine .ite (.refl _ s) (.ite ?_ ((onLine_frame s _).mono (by decide)))
  exact (((onLine_frame s _).mono (by decide)).trans (clear_frame _ _ _)).note _

theorem faultCycle_frame (s : State) : Frame [.line] s (faultCycle s) := by
  unfold faultCycle; dsimp only
  refine .ite (.ite ?_ (onLine_frame s _)) (.refl _ s)
  exact (((onLine_frame s _).trans (onLine_frame _ _)).trans (enterLoopback_frame _)).note _

theorem lineCycle_frame (s : State) : Frame raiseBlocks s (lineCycle s) :=
  ((ageQueue_frame s).trans ((duplicateCycle_frame _).mono (by decide))).trans
    ((faultCycle_frame _).mono (by decide))

theorem setPeer_frame (n : Nat) (g : PeerRecord → PeerRecord) (s : State) :
    Frame [.picture] s (setPeer n g s) := onPicture_frame s _

/-- Ageing the picture changes the records and the alarm unit. -/
theorem pictureCycle_frame (s : State) : Frame (.picture :: alarmBlocks) s (pictureCycle s) := by
  unfold pictureCycle; dsimp only
  have h := ((onPicture_frame s fun p => { p with peers := p.peers.map ageRecord }).mono
      (cs := .picture :: alarmBlocks) (by decide)).trans
    (.foldl (f := fun s n => raiseQuiet .peerSilent (some n) s)
      (fun t n => (quiet_frame _ _ t).mono (by decide)) (goingStale s) _)
  exact .ite h (h.note _)

theorem reSequence_frame (seq : Byte) (s : State) : Frame [.line] s (reSequence seq s) := by
  unfold reSequence
  exact .ite (onLine_frame s _) (.refl _ s)

theorem composeStatus_frame (s : State) : Frame [.line, .picture] s (composeStatus s) := by
  unfold composeStatus; dsimp only
  exact .ite ((onPicture_frame s _).comp ((reSequence_frame _ _).trans (place_frame _ _)) (by decide)
    (by decide)) (.refl _ s)

theorem statusPointNow_frame (s : State) : Frame [.line, .time, .picture] s (statusPointNow s) := by
  unfold statusPointNow
  exact .ite ((((elapse_frame _ s).mono (by decide)).trans ((onTime_frame _ _).mono (by decide))).trans
    ((composeStatus_frame _).mono (by decide))) (.refl _ s)

/-! ### Ring, cab, annunciator -/

theorem ringCycle_frame (s : State) : Frame alarmBlocks s (ringCycle s) := by
  unfold ringCycle; dsimp only
  have h := fun g => (onRing_frame s g).mono (cs := alarmBlocks) (by decide)
  exact .ite (.ite ((h _).trans (clear_frame _ _ _))
    (.ite (((h _).trans (quiet_frame _ _ _)).note _) (h _))) (.refl _ s)

theorem judgeHandle_frame (s : State) (k : Nat) : Frame (.cab :: alarmBlocks) s (judgeHandle s k) := by
  unfold judgeHandle; dsimp only
  have h := fun g => (onCab_frame s g).mono (cs := .cab :: alarmBlocks) (by decide)
  split
  · exact (h _).trans ((quiet_frame _ _ _).mono (by decide))
  · split
    · exact (h _).trans ((clear_frame _ _ _).mono (by decide))
    · exact h _

theorem restartPress_frame (s : State) : Frame [.line, .table] s (restartPress s) := by
  unfold restartPress
  exact .ite ((onTable_frame s _).mono (by decide)) ((place_frame _ s).mono (by decide))

theorem sampleButtons_frame (s : State) : Frame [.line, .cab, .table] s (sampleButtons s) := by
  unfold sampleButtons; dsimp only
  have h := fun g => (onCab_frame s g).mono (cs := [.line, .cab, .table]) (by decide)
  have h2 := fun (c : Prop) [Decidable c] g =>
    Frame.ite (c := c) ((h g).trans ((restartPress_frame _).mono (by decide))) (h g)
  exact .ite ((h2 _ _).trans ((place_frame _ _).mono (by decide))) (h2 _ _)

theorem cabCycle_frame (s : State) : Frame (.cab :: alarmBlocks) s (cabCycle s) := by
  unfold cabCycle; dsimp only
  refine .ite ?_ (.refl _ s)
  exact (((Frame.foldl judgeHandle_frame _ s).trans ((onCab_frame _ _).mono (by decide))).trans
    ((sampleButtons_frame _).mono (by decide))).trans ((place_frame _ _).mono (by decide))

theorem annunciatorCycle_frame (s : State) : Frame [.table] s (annunciatorCycle s) := by
  unfold annunciatorCycle; dsimp only
  refine .ite ?_ (.refl _ s)
  have h := fun g (c : Prop) [Decidable c] e =>
    Frame.ite (c := c) ((onTable_frame s g).note e) (onTable_frame s g)
  exact .ite ((h _ _ _).note _) (h _ _ _)

/-! ### Share unit -/

theorem placeGrant_frame (peer count : Nat) (s : State) :
    Frame [.line, .share] s (placeGrant peer count s).1 := by
  unfold placeGrant; dsimp only
  have h := (onShare_frame s fun h => { h with grantNumber := h.grantNumber + 1 }).mono
    (cs := [.line, .share]) (by decide)
  split
  · exact h.trans ((enqueue_eq_frame ‹_›).mono (by decide))
  · exact (h.trans ((enqueue_eq_frame ‹_›).mono (by decide))).trans ((onShare_frame _ _).mono (by decide))

theorem requestGrant_frame (peer count : Nat) (s : State) :
    Frame [.line, .share] s (requestGrant peer count s) := by
  unfold requestGrant; dsimp only
  exact .ite (.refl _ s) (placeGrant_frame _ _ s)

/-- The share unit's returns. -/
def returnBlocks : List Block := [.line, .alarms, .table, .ring, .share]

theorem sendReturn_frame (peer k : Nat) (g : Word) (s : State) :
    Frame returnBlocks s (sendReturn peer k g s) := by
  unfold sendReturn
  split
  · exact ((enqueue_eq_frame ‹_›).mono (by decide)).trans (returnFailed_frame _ _ _ _)
  · exact (enqueue_eq_frame ‹_›).mono (by decide)

theorem returnRecord_frame (peer k : Nat) (s : State) : Frame returnBlocks s (returnRecord peer k s) := by
  unfold returnRecord
  split
  · exact .refl _ s
  · exact ((onShare_frame s _).mono (by decide)).trans (sendReturn_frame _ _ _ _)

theorem returnAll_frame (s : State) : Frame returnBlocks s (returnAll s) :=
  .foldl (fun s _ => returnRecord_frame _ _ s) _ s

theorem endAsk_frame (s : State) : Frame [.line, .share] s (endAsk s) :=
  (onShare_frame s _).comp (muteEntries_frame _ _) (by decide) (by decide)

theorem placeRecall_frame (r : LentRecord) (s : State) : Frame [.line, .share] s (placeRecall r s) := by
  unfold placeRecall
  split
  · exact (enqueue_eq_frame ‹_›).mono (by decide)
  · exact ((enqueue_eq_frame ‹_›).mono (by decide)).trans ((onShare_frame _ _).mono (by decide))

theorem placeAsk_frame (peer : Nat) (s : State) : Frame [.line, .share] s (placeAsk peer s) := by
  unfold placeAsk
  split
  · exact (enqueue_eq_frame ‹_›).mono (by decide)
  · exact ((enqueue_eq_frame ‹_›).mono (by decide)).trans ((onShare_frame _ _).mono (by decide))

theorem pressureAct_frame (s : State) : Frame [.line, .share] s (pressureAct s) := by
  unfold pressureAct
  refine .ite (.refl _ s) ?_
  split
  · exact (placeRecall_frame _ s).note _
  · refine .ite (.refl _ s) ?_
    split
    · exact .refl _ s
    · exact (placeAsk_frame _ s).note _

theorem pressureCycle_frame (s : State) : Frame [.line, .share] s (pressureCycle s) := by
  unfold pressureCycle; dsimp only
  have h := fun g => (onShare_frame s g).mono (cs := [.line, .share]) (by decide)
  exact .ite ((h _).trans (pressureAct_frame _)) (h _)

theorem askWaitCycle_frame (s : State) : Frame [.line, .share] s (askWaitCycle s) := by
  unfold askWaitCycle
  split
  · exact .refl _ s
  · exact .ite ((endAsk_frame s).note _) ((onShare_frame s _).mono (by decide))

theorem voluntaryCycle_frame (s : State) : Frame returnBlocks s (voluntaryCycle s) := by
  unfold voluntaryCycle
  have h := fun g => (onShare_frame s g).mono (cs := returnBlocks) (by decide)
  split
  · exact h _
  · exact .ite (h _) (.ite (((h _).trans (returnRecord_frame _ _ _)).note _) (h _))

theorem shedCycle_frame (s : State) : Frame returnBlocks s (shedCycle s) :=
  ((onShare_frame s _).mono (by decide)).trans (.foldl (fun s _ => returnRecord_frame _ _ s) _ _)

/-- The share unit at a cycle start changes tokens, the queue and the alarm unit. -/
theorem shareCycle_frame (s : State) : Frame returnBlocks s (shareCycle s) := by
  unfold shareCycle
  exact .ite ((((askWaitCycle_frame s).mono (by decide)).trans
    ((pressureCycle_frame _).mono (by decide))).trans
      ((voluntaryCycle_frame _).trans (shedCycle_frame _))) (.refl _ s)

theorem borrowedTermOut_frame (s : State) (r : BorrowedRecord) :
    Frame returnBlocks s (borrowedTermOut s r) := by
  unfold borrowedTermOut; dsimp only
  have h := fun g => ((onShare_frame s g).mono (cs := returnBlocks) (by decide)).note .loanTermEnd
  exact .ite (h _) ((h _).trans (sendReturn_frame _ _ _ _))

theorem lentTerms_frame (s : State) : Frame [.share] s (lentTerms s) := by
  unfold lentTerms; dsimp only
  exact .ite ((onShare_frame s _).note _) (onShare_frame s _)

theorem quarantineStep_frame (s : State) : Frame returnBlocks s (quarantineStep s) := by
  unfold quarantineStep; dsimp only
  have h := fun g => (onShare_frame s g).mono (cs := returnBlocks) (by decide)
  refine .ite (.ite ?_ ?_) (h _)
  · exact (((h _).trans ((onShare_frame _ _).mono (by decide))).trans
      ((clear_frame _ _ _).mono (by decide))).note _
  · exact (h _).trans (.foldl (fun s n => (quiet_frame _ _ s).mono (by decide)) _ _)

theorem shareLongCycle_frame (s : State) : Frame returnBlocks s (shareLongCycle s) := by
  unfold shareLongCycle
  refine .ite ?_ (.refl _ s)
  have h : Frame returnBlocks s (borrowedTerms s) :=
    ((onShare_frame s _).mono (by decide)).trans (.foldl borrowedTermOut_frame _ _)
  exact (h.trans ((lentTerms_frame _).mono (by decide))).trans (quarantineStep_frame _)

/-! ### Drive chain and axis functions -/

/-- The blocks the drive chain and the axis function may change. -/
def chainBlocks : List Block :=
  [.line, .alarms, .table, .ring, .drive, .walk, .rope, .share, .swing, .contactor]

theorem raise_chain_frame (c : AlarmCode) (d : Option Nat) (s : State) : Frame chainBlocks s (raise c d s) :=
  (raise_frame c d s).mono (by decide)

theorem clear_chain_frame (c : AlarmCode) (d : Option Nat) (s : State) :
    Frame chainBlocks s (clearAlarm c d s) := (clearAlarm_frame c d s).mono (by decide)

theorem quiet_chain_frame (c : AlarmCode) (d : Option Nat) (s : State) :
    Frame chainBlocks s (raiseQuiet c d s) := (raiseQuiet_frame c d s).mono (by decide)

theorem onDrive_chain_frame (s : State) (g : Drive → Drive) : Frame chainBlocks s (s.onDrive g) :=
  (onDrive_frame s g).mono (by decide)

theorem onRope_chain_frame (s : State) (g : Rope → Rope) : Frame chainBlocks s (s.onRope g) :=
  (onRope_frame s g).mono (by decide)

theorem onWalk_chain_frame (s : State) (g : Walk → Walk) : Frame chainBlocks s (s.onWalk g) :=
  (onWalk_frame s g).mono (by decide)

theorem onSwing_chain_frame (s : State) (g : Swing → Swing) : Frame chainBlocks s (s.onSwing g) :=
  (onSwing_frame s g).mono (by decide)

theorem setWalkState_chain_frame (w : WalkState) (s : State) : Frame chainBlocks s (setWalkState w s) :=
  (setWalkState_frame w s).mono (by decide)

theorem place_chain_frame (e : Entry) (s : State) : Frame chainBlocks s (place e s) :=
  (place_frame e s).mono (by decide)

theorem checkCurrent_frame (s : State) : Frame chainBlocks s (checkCurrent s) := by
  unfold checkCurrent; dsimp only
  have h := onDrive_chain_frame s
  exact .ite ((h _).trans (raise_chain_frame _ _ _))
    (.ite ((h _).trans (clear_chain_frame _ _ _)) (h _))

theorem checkLink_frame (s : State) : Frame chainBlocks s (checkLink s) := by
  unfold checkLink; dsimp only
  have h := onDrive_chain_frame s
  exact .ite (.refl _ s) (.ite (.ite (((h _).trans (raise_chain_frame _ _ _)).note _) (h _))
    ((h _).trans (clear_chain_frame _ _ _)))

theorem checkBrake_frame (s : State) : Frame chainBlocks s (checkBrake s) := by
  unfold checkBrake; dsimp only
  have h := onDrive_chain_frame s
  exact .ite (.ite (((h _).trans (raise_chain_frame _ _ _)).note _) (h _))
    ((h _).trans (clear_chain_frame _ _ _))

theorem checkSlip_frame (s : State) : Frame chainBlocks s (checkSlip s) := by
  unfold checkSlip; dsimp only
  have h := onDrive_chain_frame s
  exact .ite (.ite (((h _).trans (raise_chain_frame _ _ _)).note _) (h _))
    ((h _).trans (clear_chain_frame _ _ _))

theorem driveChecks_frame (s : State) : Frame chainBlocks s (driveChecks s) :=
  (((checkCurrent_frame s).trans (checkLink_frame _)).trans (checkBrake_frame _)).trans
    (checkSlip_frame _)

theorem countStall_frame (b : Bool) (s : State) : Frame chainBlocks s (countStall b s) := by
  unfold countStall; dsimp only
  have h := onDrive_chain_frame s
  exact .ite (((h _).trans (raise_chain_frame _ _ _)).note _)
    (.ite ((h _).trans (clear_chain_frame _ _ _)) (h _))

theorem brakeLogic_frame (x : Int) (s : State) : Frame [.drive] s (brakeLogic x s) := by
  unfold brakeLogic; dsimp only
  refine .ite (onDrive_frame s _) ?_
  split
  · exact .ite (onDrive_frame s _) (.refl _ s)
  · exact .ite (onDrive_frame s _) (.ite ((onDrive_frame s _).note _) (onDrive_frame s _))

theorem driveOutputs_frame (s : State) : Frame [.drive] s (driveOutputs s) :=
  (onDrive_frame s _).trans (sendFrame_frame _ _ _)

theorem ropeEncoder_frame (s : State) : Frame chainBlocks s (ropeEncoder s) := by
  unfold ropeEncoder; dsimp only
  have h := onRope_chain_frame s
  exact .ite (((h _).trans (onRope_chain_frame _ _)).trans (raise_chain_frame _ _ _))
    (.ite ((h _).trans (clear_chain_frame _ _ _)) (h _))

theorem raiseThenClear_chain_frame (c : AlarmCode) (d : Option Nat) (s : State) :
    Frame chainBlocks s (raiseThenClear c d s) := (raiseThenClear_frame c d s).mono (by decide)

theorem ropeOvertravel_frame (s : State) : Frame chainBlocks s (ropeOvertravel s) := by
  unfold ropeOvertravel; dsimp only
  have h := onRope_chain_frame s
  have h2 := fun (c : Prop) [Decidable c] g =>
    Frame.ite (c := c) ((h g).trans (raiseThenClear_chain_frame .zoneOvertravel (some 1) _)) (h g)
  exact .ite ((h2 _ _).trans (raiseThenClear_chain_frame _ _ _)) (h2 _ _)

theorem ropeHardLimit_frame (s : State) : Frame chainBlocks s (ropeHardLimit s) := by
  unfold ropeHardLimit; dsimp only
  have h := onRope_chain_frame s
  exact .ite ((h _).trans (raiseThenClear_chain_frame _ _ _)) (h _)

theorem hoistOverload_frame (s : State) : Frame chainBlocks s (hoistOverload s) := by
  unfold hoistOverload; dsimp only
  have h := onRope_chain_frame s
  exact .ite ((h _).trans (quiet_chain_frame _ _ _)) (.ite ((h _).trans (clear_chain_frame _ _ _)) (h _))

theorem hoistSlack_frame (s : State) : Frame chainBlocks s (hoistSlack s) := by
  unfold hoistSlack; dsimp only
  have h := onRope_chain_frame s
  exact .ite (((h _).trans (quiet_chain_frame _ _ _)).note _)
    (.ite ((h _).trans (clear_chain_frame _ _ _)) (h _))

theorem setOwnership_frame (o : Ownership) (s : State) : Frame [.drive, .rope] s (setOwnership o s) :=
  (onRope_frame s _).comp (watchOwned_frame _) (by decide) (by decide)

theorem enterReclaiming_chain_frame (s : State) : Frame chainBlocks s (enterReclaiming s) :=
  (enterReclaiming_frame s).mono (by decide)

theorem yieldedCycle_frame (s : State) : Frame chainBlocks s (yieldedCycle s) := by
  unfold yieldedCycle; dsimp only
  have h := onRope_chain_frame s
  exact .ite (h _) (.ite (.ite (enterReclaiming_chain_frame s)
    (.ite (((h _).trans (enterReclaiming_chain_frame _)).note _) (h _))) (.refl _ s))

theorem dragToYielded_frame (s : State) : Frame chainBlocks s (dragToYielded s) :=
  (((muteEntries_frame _ s).mono (by decide)).trans (onRope_chain_frame _ _)).trans
    ((setOwnership_frame _ _).mono (by decide))

theorem ownershipCycle_frame (s : State) : Frame chainBlocks s (ownershipCycle s) := by
  unfold ownershipCycle
  have o := fun x => (setOwnership_frame x s).mono (cs := chainBlocks) (by decide)
  split
  · exact yieldedCycle_frame s
  · exact .ite (dragToYielded_frame s) (.refl _ s)
  · exact .ite (dragToYielded_frame s) (.refl _ s)
  · exact .ite (dragToYielded_frame s) (.ite (o _) (.refl _ s))

theorem ropeReport_frame (s : State) : Frame chainBlocks s (ropeReport s) := onRope_chain_frame s _

theorem ropeStep_frame (s : State) : Frame chainBlocks s (ropeStep s) := by
  unfold ropeStep; dsimp only
  have h := ((((onRope_chain_frame s _).trans (ropeEncoder_frame (ropeMeasure s))).trans
    (ropeOvertravel_frame _)).trans (ropeHardLimit_frame _)).trans (ropeReport_frame _)
  split
  · exact ((h.trans (onRope_chain_frame _ _)).trans (hoistOverload_frame _)).trans (hoistSlack_frame _)
  · exact h.trans (ownershipCycle_frame _)
  all_goals exact h

theorem swingStep_frame (s : State) : Frame [.swing] s (swingStep s) :=
  (onSwing_frame s _).trans (onSwing_frame _ _)

theorem enterFaulted_chain_frame (d : Nat) (s : State) : Frame chainBlocks s (enterFaulted d s) :=
  (enterFaulted_frame d s).mono (by decide)

theorem parkedCycle_frame (s : State) : Frame chainBlocks s (parkedCycle s) := by
  unfold parkedCycle
  refine .ite ?_ (.refl _ s)
  split
  · exact (count_frame s _).mono (by decide)
  · exact (((enqueue_eq_frame ‹_›).mono (by decide)).trans (onWalk_chain_frame _ _)).trans
      (setWalkState_chain_frame _ _)

theorem askingCycle_frame (s : State) : Frame chainBlocks s (askingCycle s) := by
  unfold askingCycle; dsimp only
  have h := onWalk_chain_frame s
  have p := fun g n => (h g).trans (place_chain_frame
    { kind := .xferAbort, target := Config.broadcast, words := reasonWords n } (s.onWalk g))
  exact .ite ((p _ _).trans (setWalkState_chain_frame _ _))
    (.ite (((p _ _).trans ((transferRefused_frame _ _).mono (by decide))).note _) (h _))

theorem transferringCycle_frame (s : State) : Frame chainBlocks s (transferringCycle s) := by
  unfold transferringCycle
  refine .ite ?_ (.ite ((enterFaulted_chain_frame _ s).note _) (.refl _ s))
  exact ((setWalkState_chain_frame _ s).trans (place_chain_frame _ _)).trans
    ((setRearm_frame _).mono (by decide))

theorem readyCycle_frame (s : State) : Frame chainBlocks s (readyCycle s) := by
  unfold readyCycle
  refine .ite ?_ (.refl _ s)
  exact (((setCoil_frame false s).mono (by decide)).trans (setWalkState_chain_frame _ _)).trans
    (clear_chain_frame _ _ _)

theorem returningCycle_frame (s : State) : Frame chainBlocks s (returningCycle s) := by
  unfold returningCycle; dsimp only
  refine .ite ?_ (.ite ((enterFaulted_chain_frame _ s).note _) (.refl _ s))
  exact (((returnAll_frame s).mono (by decide)).trans (place_chain_frame _ _)).trans
    (setWalkState_chain_frame _ _)

theorem faultedCycle_frame (s : State) : Frame chainBlocks s (faultedCycle s) := by
  unfold faultedCycle
  refine .ite ?_ (.refl _ s)
  exact (setWalkState_chain_frame _ s).trans (.foldl (fun t d => clear_chain_frame _ _ t) _ _)

theorem walkTransition_frame (s : State) : Frame chainBlocks s (walkTransition s) := by
  unfold walkTransition
  split
  · exact parkedCycle_frame s
  · exact askingCycle_frame s
  · exact transferringCycle_frame s
  · exact readyCycle_frame s
  · exact .refl _ s
  · exact .refl _ s
  · exact returningCycle_frame s
  · exact faultedCycle_frame s

theorem stepCycle_frame (s : State) : Frame chainBlocks s (stepCycle s) := by
  unfold stepCycle; dsimp only
  have h := onWalk_chain_frame s
  exact .ite (.ite (((h _).trans (quiet_chain_frame _ _ _)).note _) (h _)) (.refl _ s)

theorem permissiveCycle_frame (s : State) : Frame chainBlocks s (permissiveCycle s) := by
  unfold permissiveCycle
  have h := onWalk_chain_frame s
  exact .ite ((h _).trans (clear_chain_frame _ _ _))
    (.ite ((h _).trans (quiet_chain_frame _ _ _)) (.refl _ s))

theorem walkStep_frame (s : State) : Frame chainBlocks s (walkStep s) :=
  (((onWalk_chain_frame s _).trans (stepCycle_frame _)).trans (walkTransition_frame _)).trans
    (permissiveCycle_frame _)

theorem axisStep_frame (s : State) : Frame chainBlocks s (axisStep s) := by
  unfold axisStep
  split
  · exact ropeStep_frame s
  · exact ropeStep_frame s
  · exact (swingStep_frame s).mono (by decide)
  · exact walkStep_frame s
  · exact .refl _ s
  · exact .refl _ s

theorem chainInputs_frame (s : State) : Frame chainBlocks s (chainInputs s) :=
  (((onDrive_chain_frame s _).trans ((onShare_frame (measure s) _).mono (by decide))).trans
    (driveChecks_frame _)).trans (axisStep_frame _)

theorem tightBite_frame (s : State) : Frame chainBlocks s (tightBite s) := by
  unfold tightBite; dsimp only
  have h := onRope_chain_frame s
  exact .ite ((h _).trans (quiet_chain_frame _ _ _)) (.ite ((h _).trans (clear_chain_frame _ _ _)) (h _))

theorem swingRefusal_frame (s : State) : Frame chainBlocks s (swingRefusal s) := by
  unfold swingRefusal; dsimp only
  have h := onSwing_chain_frame s
  exact .ite ((h _).trans (quiet_chain_frame _ _ _)) (.ite ((h _).trans (clear_chain_frame _ _ _)) (h _))

theorem axisJudge_frame (s : State) : Frame chainBlocks s (axisJudge s) := by
  unfold axisJudge
  split
  · exact tightBite_frame s
  · exact swingRefusal_frame s
  all_goals exact .refl _ s

theorem chainOutputs_frame (s : State) : Frame chainBlocks s (chainOutputs s) := by
  have t : Frame chainBlocks s (chainTarget s) := onDrive_chain_frame s _
  have st : Frame chainBlocks (axisJudge (chainTarget s)) (chainStages (axisJudge (chainTarget s))) :=
    (onDrive_chain_frame _ _).trans (countStall_frame _ _)
  exact ((((t.trans (axisJudge_frame _)).trans st).trans ((brakeLogic_frame _ _).mono (by decide))).trans
    ((driveOutputs_frame _).mono (by decide)))

theorem sendYield_frame (s : State) : Frame chainBlocks s (sendYield s) := by
  unfold sendYield; dsimp only
  have g := fun (n : Nat) => Frame.ite (c := 0 < n)
    ((requestGrant_frame ((s.numberOf .walk).getD 0) n s).mono (cs := chainBlocks) (by decide)) (.refl _ s)
  split
  · exact (((g _).trans (onRope_chain_frame _ _)).trans ((enqueue_eq_frame ‹_›).mono (by decide))).trans
      ((outcomeFailed_frame _ _).mono (by decide))
  · exact ((g _).trans (onRope_chain_frame _ _)).trans ((enqueue_eq_frame ‹_›).mono (by decide))

theorem yieldJudge_frame (s : State) : Frame chainBlocks s (yieldJudge s) := by
  unfold yieldJudge; dsimp only
  have h := onRope_chain_frame s
  refine .ite (.ite ((h _).trans (sendYield_frame _)) (.ite (Frame.note ?_ _) (h _))) (.refl _ s)
  exact ((h _).trans (place_chain_frame _ _)).trans ((setOwnership_frame _ _).mono (by decide))

theorem walkStart_frame (s : State) : Frame chainBlocks s (walkStart s) := by
  unfold walkStart
  exact .ite ((onWalk_chain_frame s _).trans (setWalkState_chain_frame _ _)) (.refl _ s)

theorem checkDisagree_frame (s : State) : Frame chainBlocks s (checkDisagree s) := by
  unfold checkDisagree; dsimp only
  have h := fun g => (onContactor_frame s g).mono (cs := chainBlocks) (by decide)
  exact .ite (((h _).trans (clear_chain_frame _ _ _)).trans (clear_chain_frame _ _ _))
    (.ite (((h _).trans (raise_chain_frame _ _ _)).note _) (h _))

theorem checkContrary_frame (s : State) : Frame chainBlocks s (checkContrary s) := by
  unfold checkContrary; dsimp only
  have h := fun g => (onContactor_frame s g).mono (cs := chainBlocks) (by decide)
  exact .ite (.ite (((h _).trans (raise_chain_frame _ _ _)).note _) (h _))
    ((h _).trans (clear_chain_frame _ _ _))

theorem contactorChecks_frame (s : State) : Frame chainBlocks s (contactorChecks s) := by
  unfold contactorChecks
  split
  · exact checkDisagree_frame s
  · exact (checkDisagree_frame s).trans (checkContrary_frame _)
  all_goals exact .refl _ s

/-- The drive chain and the axis function leave the picture, the cab and the time as they are. -/
theorem chainCycle_frame (s : State) : Frame chainBlocks s (chainCycle s) := by
  unfold chainCycle
  refine .ite ?_ (.refl _ s)
  exact (((((chainInputs_frame s).trans (chainOutputs_frame _)).trans (yieldJudge_frame _)).trans
    (walkStart_frame _)).trans (contactorChecks_frame _)).trans (onDrive_chain_frame _ _)

/-! ### The cycle start -/

theorem answerQuery_frame (s : State) : Frame [.line] s (answerQuery s) := by
  unfold answerQuery
  split
  · exact .refl _ s
  · split
    · exact enqueue_eq_frame ‹_›
    · exact (enqueue_eq_frame ‹_›).trans (onLine_frame _ _)

theorem refreshRound_frame (s : State) : Frame [.line, .alarms, .table] s (refreshRound s) := by
  unfold refreshRound; dsimp only
  refine .ite (Frame.trans ?_ ((onAlarms_frame _ _).mono (by decide))) (.refl _ s)
  split
  · exact (reportAlarm_frame _ _ _ s).mono (by decide)
  · exact .refl _ s

theorem tableLongCycle_frame (s : State) : Frame [.table] s (tableLongCycle s) := by
  unfold tableLongCycle; dsimp only
  exact .ite (.ite ((onTable_frame s _).note _) (onTable_frame s _)) (.refl _ s)

theorem longCycleWork_frame (s : State) : Frame returnBlocks s (longCycleWork s) :=
  (((shareLongCycle_frame s).trans ((refreshRound_frame _).mono (by decide))).trans
    ((tableLongCycle_frame _).mono (by decide))).note _

/-- The line unit, the picture and the long cycle leave the cab and the drive's contactor counts. -/
theorem cycleCounts_frame (s : State) : Frame cycleBlocks s (cycleCounts s) := by
  unfold cycleCounts; dsimp only
  have h := (((lineCycle_frame s).mono (cs := cycleBlocks) (by decide)).trans
    ((onTime_frame _ _).mono (by decide))).trans
      ((pictureCycle_frame (countLong (lineCycle s))).mono (by decide))
  exact .ite (h.trans ((longCycleWork_frame _).mono (by decide))) h

theorem cycleControl_frame (s : State) : Frame cycleBlocks s (cycleControl s) :=
  (((((ringCycle_frame s).mono (by decide)).trans ((annunciatorCycle_frame _).mono (by decide))).trans
    ((cabCycle_frame _).mono (by decide))).trans ((chainCycle_frame _).mono (by decide))).trans
      ((shareCycle_frame _).mono (by decide))

theorem statusPointAtStart_frame (s : State) :
    Frame [.line, .time, .picture] s (statusPointAtStart s) := by
  unfold statusPointAtStart
  exact .ite (((settle_frame s).mono (by decide)).trans (statusPointNow_frame _)) (.refl _ s)

/-- The work of a cycle start leaves the settings, the capture units, the encoder count and the inputs. -/
theorem cycleWork_frame (s : State) : Frame cycleBlocks s (cycleWork s) :=
  (((cycleCounts_frame s).trans (cycleControl_frame _)).trans ((answerQuery_frame _).mono (by decide))).trans
    ((statusPointAtStart_frame _).mono (by decide))

/-- The blocks a cycle start may change, its sample included. -/
def startBlocks : List Block := .inputs :: .unit0 :: .unit1 :: cycleBlocks

theorem cycleStartFor_frame (c : DWord) (i : Inputs) (s : State) :
    Frame startBlocks s (cycleStartFor c i s) :=
  (((onTime_frame s _).mono (by decide)).trans ((sampleInputs_frame i _).mono (by decide))).trans
    ((cycleWork_frame _).mono (by decide))

theorem placePace_frame (s : State) : Frame [.line] s (placePace s) :=
  (place_frame _ s).trans (settleWhere_frame _ _)

theorem timerExpiry_frame (i : Inputs) (s : State) : Frame startBlocks s (timerExpiry i s) := by
  unfold timerExpiry; dsimp only
  refine .ite ?_ (.refl _ s)
  have h := ((elapse_frame (s.units - 1 - s.time.offset) s).mono (cs := startBlocks) (by decide)).trans
    ((onTime_frame _ fun t => { t with cycle := s.time.cycle + 1, offset := 0, statusDone := false }).mono
      (by decide))
  exact (h.trans ((placePace_frame _).mono (by decide))).trans (cycleStartFor_frame _ i _)

end Sys2Proof.Machine
end

