-- ==== Sys2Proof/Laws/Receive.lean ====
section
/-! SUPPORT. What a received bulletin comes to, said once: its owner's act on `taken s`, or `untaken s`; and
that every command answers a next state. -/

namespace Sys2Proof.Machine

/-- The IN FLIGHT entry of an instant just begun. -/
theorem begin_queue (s : State) :
    (begin s).line.queue = s.line.queue.map fun e => { e with rank := 0 } := rfl

theorem setAck_begin_true (s : State) : setAck true (setAck false (begin s)) = taken s := rfl

theorem setAck_begin_false (s : State) : setAck false (begin s) = untaken s := rfl

/-- The filter reads the settings and the station number only. -/
theorem filterPasses_untaken (k : Kind) (b : Bulletin) (s : State) :
    filterPasses k b (untaken s) = filterPasses k b s := rfl

theorem hasRoom_untaken (k : Kind) (s : State) : hasRoom k (untaken s) = hasRoom k s := rfl

/-- A bulletin the line unit takes is handed to its owner, the slot driven (R9). -/
theorem receive_taken {k : Kind} {b : Bulletin} {s : State} (h : Takes k b s) (act : State → State) :
    receive k b act (begin s) = act (taken s) := by
  have ha : (untaken s).line.state = .active := h.active
  have hr : reads (untaken s) = true := by unfold reads; rw [ha]; rfl
  have hf : formatHolds k b.target b.words.length = true := h.form
  have ho : (k != Kind.query && b.sender.toNat == (untaken s).station) = false := by
    rcases h.other with hq | hs
    · subst hq; rfl
    · have : (b.sender.toNat == (untaken s).station) = false := beq_eq_false_iff_ne.2 hs
      rw [this, Bool.and_false]
  unfold receive; dsimp only
  rw [setAck_begin_false, hr, hf, ho]
  unfold judge
  rw [filterPasses_untaken, hasRoom_untaken, h.passes, h.room]
  simp only [Bool.not_true, Bool.false_eq_true, if_false, Bool.and_self, if_true, ha]
  rfl

/-- A well-formed bulletin that the filter does not pass, and that the cab does not overhear, is read and
left (R9, R10). -/
theorem receive_left {k : Kind} {b : Bulletin} {s : State} (hf : b.wf k = true)
    (ho : k = .query ∨ b.sender.toNat ≠ s.station) (hp : (filterPasses k b s && hasRoom k s) = false)
    (hh : overhears k b s = false) (act : State → State) :
    receive k b act (begin s) = untaken s := by
  have hf' : formatHolds k b.target b.words.length = true := hf
  have ho' : (k != Kind.query && b.sender.toNat == (untaken s).station) = false := by
    rcases ho with hq | hs
    · subst hq; rfl
    · have : (b.sender.toNat == (untaken s).station) = false := beq_eq_false_iff_ne.2 hs
      rw [this, Bool.and_false]
  unfold receive; dsimp only
  rw [setAck_begin_false, hf', ho']
  unfold judge
  rw [filterPasses_untaken, hasRoom_untaken, hp]
  have hh' : overhears k b (untaken s) = false := hh
  rw [hh']
  simp

/-- The frame of the instant of a taken bulletin: only the line unit has changed so far. -/
theorem taken_frame (s : State) : Frame [.line] (begin s) (taken s) := onLine_frame _ _

theorem untaken_frame (s : State) : Frame [.line] (begin s) (untaken s) := onLine_frame _ _

/-- Every command answers a next state: the block has no fault, and the model refuses no command. -/
theorem exec_next (c : Instr) (s : State) : ∃ t, exec c s = .next t := by
  cases c with
  | arbitrationLoss =>
    simp only [exec, execArbitrationLoss]; split <;> exact ⟨_, rfl⟩
  | bitError => simp only [exec, execBitError]; split <;> exact ⟨_, rfl⟩
  | attemptEnd a => simp only [exec, execAttemptEnd]; split <;> exact ⟨_, rfl⟩
  | bulletinDiscard r =>
    simp only [exec, execBulletinDiscard]
    split
    · exact ⟨_, rfl⟩
    · split
      · exact ⟨_, rfl⟩
      · split <;> exact ⟨_, rfl⟩
  | _ => exact ⟨_, rfl⟩

end Sys2Proof.Machine
end

