-- ==== Sys2Proof/Laws/Ring.lean ====
section
/-! SUPPORT. The ring's operations keep its canonical form: filled slots in rising slot number. -/

namespace Sys2Proof.Machine

theorem Ring.wf_iff (l : List RingEntry) :
    Ring.wf l = true ↔ l.Pairwise fun a b => slotOf a.tag < slotOf b.tag := by simp [Ring.wf]

theorem Ring.wf_filter {l : List RingEntry} (h : Ring.wf l = true) (p : RingEntry → Bool) :
    Ring.wf (l.filter p) = true := by
  rw [Ring.wf_iff] at *; exact h.filter p

theorem emptySlot_wf {l : List RingEntry} (h : Ring.wf l = true) (n : Nat) :
    Ring.wf (emptySlot n l) = true := Ring.wf_filter h _

theorem emptyOutside_wf {l : List RingEntry} (h : Ring.wf l = true) (c : DWord) (w : Nat) :
    Ring.wf (emptyOutside c w l) = true := Ring.wf_filter h _

theorem mem_putSorted {e x : RingEntry} {l : List RingEntry} :
    x ∈ putSorted e l ↔ x = e ∨ x ∈ l := by
  induction l with
  | nil => simp [putSorted]
  | cons y l ih =>
    unfold putSorted; split
    · simp
    · simp only [List.mem_cons, ih]; tauto

/-- Putting an entry of a slot no other entry fills keeps the order. -/
theorem putSorted_wf {e : RingEntry} {l : List RingEntry} (h : Ring.wf l = true)
    (hn : ∀ x ∈ l, slotOf x.tag ≠ slotOf e.tag) : Ring.wf (putSorted e l) = true := by
  rw [Ring.wf_iff] at *
  induction l with
  | nil => simp [putSorted]
  | cons y l ih =>
    rw [List.pairwise_cons] at h
    unfold putSorted; split
    · next hlt =>
      refine List.Pairwise.cons (fun x hx => ?_) (List.pairwise_cons.2 h)
      rcases List.mem_cons.1 hx with rfl | hx
      · exact hlt
      · exact hlt.trans (h.1 x hx)
    · next hge =>
      refine List.Pairwise.cons (fun x hx => ?_) (ih h.2 fun x hx => hn x (by simp [hx]))
      rcases mem_putSorted.1 hx with rfl | hx
      · exact lt_of_le_of_ne (not_lt.1 hge) (hn y (by simp))
      · exact h.1 x hx

/-- Writing a slot keeps the canonical form (R64). -/
theorem writeSlot_wf {l : List RingEntry} (h : Ring.wf l = true) (e : RingEntry) :
    Ring.wf (writeSlot e l) = true :=
  putSorted_wf (emptySlot_wf h _) fun x hx => by
    have := (List.mem_filter.1 hx).2
    simpa using this

/-- What a slot holds after a write: the entry written, or what another slot held before. -/
theorem mem_writeSlot {e x : RingEntry} {l : List RingEntry} :
    x ∈ writeSlot e l ↔ x = e ∨ (x ∈ l ∧ slotOf x.tag ≠ slotOf e.tag) := by
  simp [writeSlot, mem_putSorted, emptySlot]

end Sys2Proof.Machine
end

