-- ==== Sys2Proof/Tests/Demo.lean ====
section
/-! SUPPORT. The small joined stations on which the tests and the witnesses are stated. -/

namespace Sys2Proof.Tests

open Sys2Proof.Machine

/-- A machine table entry that takes every broadcast kind. -/
def entry (role : Role) (home : Nat) : TableEntry := ⟨role, home, 0x7FFFFF⟩

/-- Stations 1 HOIST, 2 DRAG, 4 SWING, 5 CAB, 6 WALK. -/
def demoTable : List TableEntry :=
  [{}, entry .hoist 20, entry .drag 24, {}, entry .swing 12, entry .cab 4, entry .walk 4, {}]

/-- TABLE 12-7 defaults. -/
def demoGlobals : Globals := ⟨10, 2, 10, 5, 8, 6400, 30, 900, 600, 30⟩

/-- TABLE 5-1 values of the worked cases. -/
def demoDrive : DriveParams := ⟨1365, 1024, 500, 2400, 20, 30, 40, 800, 1150, 1400, 10, 20⟩

/-- TABLE 7-1 defaults of the HOIST. -/
def demoRope : RopeParams :=
  ⟨2500, 1850, 1200, 9000, 150, 2000, 400, 2000, 3000, 6500, 1100, 80, 150, 200, ⟨5, true⟩⟩

/-- Parameters with every role's fields filled. -/
def demoParams : Params :=
  { reserve := 10, holdLimit := 3, brakeInput := ⟨0, true⟩, drive := demoDrive,
    unit0 := { masterInput := 2, masterRising := true, slaveSource := 2, lead := 1 },
    cab := { handles := List.replicate 4 ⟨2048, 1800, 60⟩, lead := 3, ackInput := ⟨0, true⟩,
             restartInput := ⟨1, true⟩, walkModeInput := ⟨2, true⟩, emergencyInput := ⟨3, true⟩ },
    rope := demoRope, swing := ⟨360000, 1200, 20, 1200, 50⟩,
    walk := ⟨20, 72000, 1800, 300, 50000, 600000, 1500⟩, ds := ⟨6, true⟩, ws := ⟨7, true⟩ }

/-- A station joined, past its quarantine, in RUN and ACTIVE, its timer at (100, 5). -/
def demo (n : BitVec 3) : State := watchOwned
  { State.reset with
    startup := { state := .joined, station := n, rate := 1,
                 settings := ⟨demoTable, demoGlobals, demoParams⟩, signature := 1234 },
    line := { state := .active },
    time := { cycle := 100, offset := 5, running := true },
    share := { own := (demoTable.getD n.toNat {}).homeShare, fresh := false },
    alarms := { mode := .run },
    ring := { rearm := false } }

/-- The stations of the machine. -/
def hoist : State := demo 1
def drag : State := demo 2
def swing : State := demo 4
def cab : State := demo 5
def walk : State := demo 6

/-- Inputs with every channel at mid scale. -/
def inputs (din : Byte) : Inputs := ⟨2048, 2048, 400, 2048, din⟩

/-- The state an outcome answers; a stop answers the reset state. -/
def after (o : Host.Outcome State Fault Refusal) : State :=
  match o with
  | .next s => s
  | .fault _ => State.reset
  | .refused _ => State.reset

/-- A bulletin to station `target`, or a broadcast for 15. -/
def bulletin (sender : BitVec 3) (target : BitVec 4) (words : List Word) : Bulletin :=
  ⟨sender, target, 1, words, true⟩

end Sys2Proof.Tests
end

