-- ==== Sys2Proof/Tests/Slice0.lean ====
section
/-! SUPPORT. Tests on one small step each, and for every statement with hypotheses a state and operands that
meet them, at the boundary values of its clauses. -/

namespace Sys2Proof.Tests

open Sys2Proof.Machine

set_option Elab.async false

/-- The state a command answers. -/
def ex (c : Instr) (s : State) : State := after (exec c s)

theorem takes_mk {k : Kind} {b : Bulletin} {s : State}
    (h : (s.line.state == .active && b.wf k && (k == .query || b.sender.toNat != s.station)
      && filterPasses k b s && hasRoom k s) = true) : Takes k b s := by
  simp only [Bool.and_eq_true, Bool.or_eq_true, beq_iff_eq, bne_iff_ne, ne_eq] at h
  exact ⟨h.1.1.1.1, h.1.1.1.2, h.1.1.2, h.1.2, h.2⟩

theorem agrees_mk {s : State}
    (h : lineStateFits s.startup.state s.line.state = true
      ∧ (s.line.state ≠ .active → s.line.queue = [] ∧ s.line.queries = [])
      ∧ (s.startup.state = .joined → s.time.running = true)
      ∧ (s.time.running = true → s.startup.state = .listen ∨ s.startup.state = .joined)
      ∧ (s.time.running = false → s.time.offset = 0)) : StartAgrees s :=
  ⟨h.1, h.2.1, h.2.2.1, h.2.2.2.1, h.2.2.2.2⟩

theorem ordered_mk {s : State}
    (h : s.alarms.list.Pairwise (fun a b => a.raised.le b.raised = true)
      ∧ (s.alarms.list.map AlarmRecord.key).Nodup
      ∧ s.table.records.Pairwise (fun a b => tableBefore b a = false)
      ∧ (s.table.records.map TableRecord.key).Nodup) : ListsOrdered s :=
  ⟨h.1, h.2.1, h.2.2.1, h.2.2.2⟩

theorem owned_mk {s : State} (h : (s.joined = true → s.drive.ownedSeen = s.ownedHook)
    ∧ (s.drive.enable = true → s.joined = true ∧ s.role.isAxis = true ∧ s.ownedHook = true)) :
    EnableOwned s := ⟨h.1, h.2⟩

/-! ### Ill-formed commands are refused by `Instr.wf` -/

/-- A bulletin whose class, kind, sender, target, count and check are right. -/
def goodRaw : RawBulletin := .form .pace 5 15 7 [0, 9]

theorem test_wf_good : (Instr.pace (bulletin 5 15 [0, 9]) (inputs 0)).wf = true := by decide +kernel
theorem test_wf_target : (Instr.pace (bulletin 5 3 [0, 9]) (inputs 0)).wf = false := by decide +kernel
theorem test_wf_absent_target : (Instr.shareAsk (bulletin 1 8 [0])).wf = false := by decide +kernel
theorem test_wf_count : (Instr.trip (bulletin 5 15 [0, 9])).wf = false := by decide +kernel
theorem test_wf_block : (Instr.settingsImageComplete (List.replicate 511 0)).wf = false := by
  decide +kernel
theorem test_wf_discard_good_cells : (Instr.bulletinDiscard goodRaw).wf = false := by decide +kernel
theorem test_wf_discard_count :
    (Instr.bulletinDiscard { goodRaw with words := [0] }).wf = false := by decide +kernel
theorem test_wf_discard_check :
    (Instr.bulletinDiscard { goodRaw with check := goodRaw.check + 1 }).wf = true := by decide +kernel

/-! ### No word spells a command; the step takes the front command -/

theorem test_decodeTableWord : decodeTableWord 16 0xFFFF = none := rfl
theorem test_withFetchWord : hoist.withFetchWord 16 3 = hoist := rfl
theorem witness_step : step { hoist with pending := [.fieldLinkAck, .statusPoint] }
    = exec .fieldLinkAck { hoist with pending := [.statusPoint] } := rfl
theorem test_idle_step : (after (step hoist)).time.offset = 6 := by decide +kernel

/-! ### Start-up -/

/-- A station in READING. -/
def reading : State := { State.reset with startup := { state := .reading, station := 1, rate := 1 } }

theorem witness_reading :
    State.reset.startup.state = .reset
    ∧ (ex (.readingEntry ⟨3, 1, true⟩) State.reset).startup.state = .reading
    ∧ (ex (.readingEntry ⟨3, 3, true⟩) State.reset).startup.haltCause = 2
    ∧ (ex (.readingEntry ⟨3, 3, false⟩) State.reset).startup.haltCause = 1 := by decide +kernel

theorem witness_byteTimeout : reading.startup.state = .reading
    ∧ (ex .settingsByteTimeout reading).startup.haltCause = 3 := by decide +kernel

/-- The halt cause a block brings about in READING at station 0, 0 for none. Bytes past its end read 0. -/
def causeOf (b : List Byte) : Nat :=
  (ex (.settingsImageComplete b) { reading with startup := { state := .reading, rate := 1 } }).startup.haltCause

/-- Version 2, length 512, the check field, and what follows from offset 6. -/
def block (check : List Byte) (rest : List Byte) : List Byte := [0, 2, 2, 0] ++ check ++ [0, 0] ++ rest

theorem test_cause_format : causeOf [0, 3, 2, 0] = 4 ∧ causeOf [0, 2, 1, 255] = 4 := by decide +kernel
theorem test_cause_check : causeOf (block [0x5E, 0xCA] [6]) = 5 := by decide +kernel
theorem test_cause_role : causeOf (block [0x5E, 0xCB] [6]) = 6 := by decide +kernel
theorem test_cause_shares :
    causeOf (block [0xF1, 0xAC] [1, 64, 0, 0, 0, 0, 0, 0, 0, 1]) = 8 := by decide +kernel
theorem witness_image : reading.startup.state = .reading ∧ causeOf (block [0x2E, 0x2C] [1]) = 0 := by
  decide +kernel

/-- A station in SELFTEST, one in REJOINING. -/
def testing : State := { reading with startup := { hoist.startup with state := .selftest },
                                      line := { loopback := true } }
def rejoining : State := { hoist with line := { state := .rejoining, loopback := true } }

theorem witness_lineTests :
    testing.startup.state = .selftest ∧ rejoining.line.state = .rejoining
    ∧ testing.probe.cells.length = 138 ∧ testing.probe.sender = 1
    ∧ (ex (.selftestEnd testing.probe.lineCells) testing).line.state = .listening
    ∧ (ex (.selftestEnd (testing.probe.cells.set 137 !testing.probe.cells[137]!)) testing).startup.haltCause = 9
    ∧ (ex (.selftestEnd (testing.probe.cells.take 137)) testing).startup.haltCause = 9
    ∧ (ex (.rejoinTestEnd rejoining.probe.cells) rejoining).line.state = .active
    ∧ (ex (.rejoinTestEnd []) rejoining).startup.haltCause = 9 := by decide +kernel

/-- Station 1 in LISTEN, its timer stopped; and started by a first PACE at cycle 55. -/
def listening : State := { State.reset with startup := { hoist.startup with state := .listen },
                                            line := { state := .listening } }
def heard : State := ex (.pace (bulletin 7 15 [0, 55]) (inputs 0)) listening

theorem witness_firstPace : listening.startup.state = .listen ∧ listening.time.running = false
    ∧ (heard.time.cycle, heard.time.paceJumps, heard.line.ackSlot) = (55, 0, false) := by decide +kernel

theorem witness_firstPace_passed : PassedOn .pace (bulletin 7 15 [0, 55]) listening :=
  by constructor <;> decide +kernel

theorem witness_join :
    listening.startup.state = .listen ∧ heard.startup.state = .listen ∧ heard.time.running = true
    ∧ listening.alarms.list = [] ∧ heard.alarms.list = []
    ∧ (ex (.listenTimerExpiry (inputs 0)) listening).time.cycle = 0
    ∧ (ex (.listenTimerExpiry (inputs 0)) heard).time.cycle = 55
    ∧ ((ex (.listenTimerExpiry (inputs 0)) heard).alarms.list.map (·.code)) = [.stationStarted] := by
  decide +kernel

/-- A station in HALTED with cause 9. -/
def halted : State := ex (.rejoinTestEnd []) rejoining

theorem witness_halted : StartAgrees halted ∧ halted.startup.state = .halted
    ∧ (ex (.restart (bulletin 5 15 [])) halted).startup.state = .halted :=
  ⟨agrees_mk (by decide +kernel), by decide +kernel⟩

theorem witness_faultPin : halted.startup.state = .halted
    ∧ (ex .faultPinPulse halted).startup.faultCount = 0 ∧ (ex .faultPinPulse halted).faultPin = false
    ∧ (ex .faultPinPulse (ex .faultPinPulse halted)).faultPin = true := by decide +kernel

/-! ### Line time -/

theorem witness_cycleStart : hoist.time.running = true ∧ listening.time.running = false
    ∧ (ex (.cycleStart (inputs 0)) hoist).time.cycle = 101
    ∧ (ex (.cycleStart (inputs 0)) { hoist with time := { hoist.time with longCount := 9 } }).time.longCount
        = 0
    ∧ (ex (.cycleStart (inputs 0)) listening).time.running = false := by decide +kernel

/-- The PACE of a cycle number, and what it makes of the time of `hoist` (cycle 100, offset 5). -/
def paceOf (c : Word) : Instr := .pace (bulletin 5 15 [0, c]) (inputs 0)
def paced (c : Word) : DWord × Nat × Nat :=
  let t := (ex (paceOf c) hoist).time
  (t.cycle, t.inStep, t.paceJumps)

theorem witness_pace : Takes .pace (bulletin 5 15 [0, 100]) hoist ∧ hoist.time.running = true :=
  ⟨takes_mk (by decide +kernel), by decide +kernel⟩
theorem test_pace_classes : paced 100 = (100, 1, 0) ∧ paced 101 = (101, 1, 0) ∧ paced 102 = (102, 1, 0)
    ∧ paced 103 = (103, 0, 1) ∧ paced 99 = (99, 0, 1) := by decide +kernel

theorem witness_statusPoint : hoist.joined = true ∧ hoist.time.running = true
    ∧ (let s := { hoist with time := { hoist.time with statusDone := false } }
       ((ex .statusPoint s).line.queue.map (·.kind)) = [.status] ∧ (ex .statusPoint s).picture.seq = 1
       ∧ (ex .statusPoint hoist).line.queue = []
       ∧ (ex .statusPoint { s with line := { s.line with state := .lineFault } }).line.counters.refused
          = 1) := by decide +kernel

/-! ### Sending -/

/-- `s` with one entry of a kind IN FLIGHT. -/
def flying (s : State) (e : Entry) : State :=
  { s with line := { s.line with queue := [{ e with inFlight := true, rank := 0 }] } }

theorem flying_at (s : State) (e : Entry) : FlightAt (flying s e) 0 { e with inFlight := true, rank := 0 } :=
  ⟨rfl, rfl, fun j x h _ => by
    rcases j with - | j
    · rfl
    · simp [flying] at h⟩

theorem witness_offer :
    (let s := { hoist with line := { hoist.line with queue := [queued .alarm 15 [], queued .pace 15 [0, 1]] } }
     s.line.state = .active ∧ (∀ x ∈ s.line.queue, x.inFlight = false)
     ∧ s.line.queue[1]? = some (queued .pace 15 [0, 1])
     ∧ (∀ x ∈ s.line.queue, (Kind.cls .pace) ≤ x.kind.cls)
     ∧ (∀ x ∈ s.line.queue.take 1, x.kind.cls ≠ (Kind.cls .pace))
     ∧ (ex .lineIdleOffer s).line.queue.map (·.inFlight) = [false, true]) := by decide +kernel

theorem test_arbitrationLoss :
    (ex .arbitrationLoss (flying hoist (queued .pace 15 [0, 1]))).line.counters.arbitrationLosses = 1 := by
  decide +kernel

/-- The entry tried three times; the entry tried twice. -/
def tried (n : Nat) (e : Entry) : Entry := { e with attempts := n }

theorem test_third_attempt : ((ex (.attemptEnd false) (flying hoist
    (tried 2 (queued .pace 15 [0, 1])))).line.queue.map (·.attempts)) = [3] := by decide +kernel

theorem test_delivered :
    (let t := ex (.attemptEnd true) (flying hoist (queued .pace 15 [0, 1]))
     (t.line.queue, t.line.counters.sent, t.time.inStep) = ([], 1, 1)) ∧ hoist.alarms.list = [] := by
  decide +kernel

/-- `hoist` with a run of broadcasts that ended "no taker". -/
def lonely (n : Nat) : State := { hoist with line := { hoist.line with noTakerRun := n } }

theorem witness_fourth :
    (let t (n : Nat) := ex (.attemptEnd false) (flying (lonely n) (tried 3 (queued .pace 15 [0, 1])))
     (t 2).time.alone = false ∧ (t 2).line.queue = [] ∧ (t 3).time.alone = true)
    ∧ (ex (.attemptEnd false) (flying hoist (tried 3 (queued .shareRefuse 2 [0])))).line.counters.noTaker
        = 1 := by decide +kernel

/-- `hoist` with a run of bit errors. -/
def noisy (n : Nat) : State := { hoist with line := { hoist.line with bitErrorRun := n } }

theorem witness_bitErrors :
    (let t (n : Nat) := ex .bitError (flying (noisy n) (queued .pace 15 [0, 1]))
     (t 14).line.bitErrorRun = 15 ∧ (t 14).line.state = .active ∧ (t 15).line.state = .lineFault
     ∧ (t 15).line.queue = [] ∧ (t 15).alarms.list.map (·.code) = [.lineFault]) := by decide +kernel

theorem witness_grantDelivered :
    countOf (grantWords 5 7) = 5
    ∧ (let t := ex (.attemptEnd true) (flying hoist (queued .shareGrant 2 (grantWords 5 7)))
       (t.share.own, t.share.lent) = (15, 5)
       ∧ t.share.lentRecords = [⟨2, 5, 30, none, 7⟩]) := by decide +kernel

theorem witness_grantBooked :
    (let booked (l : List LentRecord) :=
       (ex (.attemptEnd true) (flying (hoist.onShare fun h => { h with lentRecords := l })
         (queued .shareGrant 2 (grantWords 5 7)))).share.lentRecords
     booked [⟨4, 3, 9, none, 2⟩] = [⟨4, 3, 9, none, 2⟩, ⟨2, 5, 30, none, 7⟩]
     ∧ booked [⟨2, 3, 0, some 1, 6⟩, ⟨4, 3, 9, none, 2⟩] = [⟨2, 8, 30, none, 7⟩, ⟨4, 3, 9, none, 2⟩]) := by
  decide +kernel

/-- The drag with its motors on the drag side, in an ownership state. -/
def dragIn (o : Ownership) : State := watchOwned
  { drag with inputs := inputs 0x41, rope := { drag.rope with ownership := o, yieldSent := true } }

theorem witness_yieldOutcome :
    (let s := dragIn .yielding
     s.role = .drag ∧ s.rope.ownership = .yielding ∧ s.rope.yieldSent = true
     ∧ (ex (.attemptEnd true) (flying s (queued .xferYield 6 []))).rope.ownership = .yielded
     ∧ (ex (.attemptEnd false) (flying s (tried 3 (queued .xferYield 6 [])))).rope.ownership
        = .reclaiming) := by decide +kernel

/-- The cab with an episode floating over one active TRIP record of station 2. -/
def cabFloating : State :=
  cab.onTable fun t =>
    { t with episode := .floating, firstOut := some ⟨2, .overcurrent, none, ⟨90, 0⟩⟩,
             records := [⟨2, .overcurrent, none, .trip, .activeUnack, ⟨90, 0⟩, 0⟩] }

theorem witness_ackDelivered : cabFloating.role = .cab ∧ cabFloating.alarms.list = []
    ∧ (let ack (s : State) := ex (.attemptEnd true) (flying s (queued .alarmAck 15 (Stamp.words ⟨95, 0⟩)))
       (ack cabFloating).table.episode = .frozen ∧ (ack cab).table.episode = .closed
       ∧ (ack cabFloating).table.records.map (·.state) = [.activeAck]) := by decide +kernel

/-- A station in TRIPPED. -/
def tripped (s : State) : State := { s with alarms := { s.alarms with mode := .tripped } }

theorem witness_restartDelivered :
    (let s := tripped cabFloating
     s.role = .cab ∧ s.joined = true ∧ s.alarms.mode = .tripped ∧ s.tripStands = false
     ∧ s.share.fresh = false
     ∧ (let t := ex (.attemptEnd true) (flying s (queued .restart 15 []))
        t.alarms.mode = .run ∧ t.table.episode = .closed)) := by decide +kernel

/-! ### Reading bulletins -/

theorem witness_discard : reads hoist = true
    ∧ ({ goodRaw with target := 3 } : RawBulletin).formatHolds = false
    ∧ ({ goodRaw with check := 0 } : RawBulletin).formatHolds = true
    ∧ ({ goodRaw with check := 0 } : RawBulletin).check ≠ goodRaw.computedCheck
    ∧ (ex (.bulletinDiscard { goodRaw with target := 3 }) hoist).line.counters.formatErrors = 1
    ∧ (ex (.bulletinDiscard { goodRaw with check := 0 }) hoist).line.counters.checkErrors = 1 := by
  decide +kernel

theorem witness_illFormed : (Instr.trip (bulletin 5 15 [])).bulletin? = some (.trip, bulletin 5 15 [])
    ∧ (bulletin 5 15 []).wf .trip = false
    ∧ (ex (.trip (bulletin 5 15 [])) hoist).line.counters.formatErrors = 1 := by decide +kernel

/-- A station whose machine table entry subscribes to nothing. -/
def deaf : State := hoist.onStartup fun u =>
  { u with settings := { u.settings with table := u.settings.table.set 1 ⟨.hoist, 20, 0⟩ } }

theorem witness_filter :
    (filterPasses .xferDone (bulletin 6 15 [0]) deaf && hasRoom .xferDone deaf) = false
    ∧ ex (.xferDone (bulletin 6 15 [0])) deaf = untaken deaf
    ∧ overhears .xferAsk (bulletin 6 2 []) cab = true ∧ overhears .shareAsk (bulletin 6 2 [0]) cab = true
    ∧ (ex (.xferAsk (bulletin 6 2 [])) cab).cab.xferHeard = some ⟨6, 2, .xferAsk, [], true⟩
    ∧ (ex (.shareAsk (bulletin 6 2 [0])) cab).cab.shareHeard = some ⟨6, 2, .shareAsk, [0], true⟩ := by
  decide +kernel

theorem witness_reply : (bulletin 6 3 [0, 0, 0, 0, 0, 0]).wf .reply = true
    ∧ (6 : BitVec 3).toNat ≠ hoist.station := by decide +kernel

theorem witness_duplicate : (bulletin 1 15 [0, 9]).wf .pace = true
    ∧ (1 : BitVec 3).toNat = hoist.station ∧ listening.line.state = .listening
    ∧ (ex (.pace (bulletin 1 15 [0, 9]) (inputs 0)) hoist).alarms.list.map (·.code) = [.duplicateStation]
    ∧ (ex (.pace (bulletin 1 15 [0, 9]) (inputs 0)) listening).line.dupHeld = true := by decide +kernel

/-! ### Trips, alarms, RESTART -/

/-- OPERATOR STOP of the cab, raised at (7, 0). -/
def stopTrip : Bulletin := bulletin 5 15 (tripWords .operatorStop none ⟨7, 0⟩)

/-- The walk joined with the motors on its side and the coil on, in a walk state. -/
def walkIn (w : WalkState) : State := watchOwned
  { walk with inputs := inputs 0x81, walk := { walk.walk with state := w, coil := true, stepCount := 4 } }

theorem witness_trip : Takes .trip stopTrip hoist ∧ hoist.joined = true
    ∧ (ex (.trip stopTrip) hoist).alarms.mode = .tripped
    ∧ (ex (.trip stopTrip) (walkIn .asking)).walk.state = .faulted
    ∧ (ex (.trip stopTrip) (walkIn .settling)).walk.state = .ready :=
  ⟨takes_mk (by decide +kernel), by decide +kernel⟩

theorem witness_trip_merged : Takes .trip { stopTrip with sender := 2 } cab
    ∧ tripOf stopTrip.words = some (.operatorStop, none, ⟨7, 0⟩)
    ∧ (ex (.trip { stopTrip with sender := 2 }) cab).table.records.map (·.source) = [2]
    ∧ (ex (.trip { stopTrip with sender := 2 }) cab).table.episode = .floating :=
  ⟨takes_mk (by decide +kernel), by decide +kernel⟩

/-- A list with one record of a code, raised at (90, 0). -/
def listing (c : AlarmCode) (st : AlarmState) (s : State) : State :=
  s.onAlarms fun a => { a with list := [⟨c, none, ⟨90, 0⟩, st, 0⟩] }

/-- The RESTART of the cab, and the details of RESTART REFUSED after it. -/
def restartBy : Instr := .restart (bulletin 5 15 [])
def refusedDetails (s : State) : List (Option Nat) :=
  ((ex restartBy s).alarms.list.filter fun r => r.code == .restartRefused).map (·.detail)

theorem witness_restart : Takes .restart (bulletin 5 15 []) (tripped hoist) ∧ hoist.joined = true
    ∧ refusedDetails (tripped (listing .overcurrent .clearedUnack hoist)) = [some 1]
    ∧ refusedDetails ((tripped hoist).onShare fun h => { h with fresh := true }) = [some 2]
    ∧ refusedDetails (tripped hoist) = [some 3]
    ∧ (ex restartBy ((tripped hoist).onDrive fun d => { d with brakeInput := true })).alarms.mode = .run :=
  ⟨takes_mk (by decide +kernel), by decide +kernel⟩

/-- Three records, one of each state, the last raised after the press. -/
def threeAlarms : State := hoist.onAlarms fun a =>
  { a with list := [⟨.overload, none, ⟨90, 0⟩, .activeUnack, 0⟩, ⟨.slackRope, none, ⟨91, 0⟩, .clearedUnack, 0⟩,
                    ⟨.stallHeld, none, ⟨95, 1⟩, .activeUnack, 0⟩] }
def ackAt95 : Bulletin := bulletin 5 15 (Stamp.words ⟨95, 0⟩)

theorem witness_alarmAck : Takes .alarmAck ackAt95 threeAlarms ∧ threeAlarms.joined = true
    ∧ ListsOrdered threeAlarms
    ∧ (ex (.alarmAck ackAt95) threeAlarms).alarms.list.map (fun r => (r.code, r.state))
      = [(.overload, .activeAck), (.stallHeld, .activeUnack)] :=
  ⟨takes_mk (by decide +kernel), by decide +kernel, ordered_mk (by decide +kernel), by decide +kernel⟩

theorem test_raise_again :
    ((raiseQuiet .overload none threeAlarms).alarms.list.map (·.repeats) = [1, 0, 0])
    ∧ ((raiseQuiet .slackRope none threeAlarms).alarms.list.map (·.code)
        = [.overload, .stallHeld, .slackRope]) := by decide +kernel
theorem test_clear : (clearAlarm .overload none threeAlarms).alarms.list.map (·.state)
    = [.clearedUnack, .clearedUnack, .activeUnack] := by decide +kernel

/-- OVERLOAD of station 1 in a state, as an ALARM. -/
def overloadIs (removed : Bool) (st : AlarmState) : Bulletin :=
  bulletin 1 15 (alarmWords ⟨.overload, none, ⟨90, 0⟩, st, 0⟩ removed false)

theorem witness_alarmMerged : Takes .alarm (overloadIs false .activeUnack) cab ∧ cab.role = .cab
    ∧ Takes .alarm (overloadIs false .activeUnack) drag
    ∧ (mergeOf 1 (overloadIs false .activeUnack).words).isSome = true
    ∧ mergeOf 1 [0xFC00, 0, 0, 0, 0] = none
    ∧ (let t := ex (.alarm (overloadIs false .activeUnack)) cab
       t.table.records.map (·.source) = [1]
       ∧ (ex (.alarm (overloadIs true .activeUnack)) t).table.records = []) :=
  ⟨takes_mk (by decide +kernel), by decide +kernel, takes_mk (by decide +kernel), by decide +kernel⟩

/-! ### The transfer of the drag motors -/

theorem witness_xferAsk : Takes .xferAsk (bulletin 6 2 []) (dragIn .digging) ∧ drag.joined = true
    ∧ (dragIn .digging).numberOf .walk = some 6
    ∧ (ex (.xferAsk (bulletin 6 2 [])) (dragIn .digging)).rope.ownership = .yielding
    ∧ (ex (.xferAsk (bulletin 6 2 [])) (dragIn .yielded)).line.queue.map (·.words) = [reasonWords 1]
    ∧ (ex (.xferAsk (bulletin 6 2 [])) (tripped (dragIn .digging))).line.queue.map (·.words)
      = [reasonWords 2]
    ∧ (ex (.xferAsk (bulletin 4 2 [])) (dragIn .digging)).rope.ownership = .digging :=
  ⟨takes_mk (by decide +kernel), by decide +kernel⟩

theorem witness_asking : EnableOwned (walkIn .asking) ∧ Takes .xferYield (bulletin 2 6 []) (walkIn .asking)
    ∧ Takes .xferRefuse (bulletin 2 6 [0x1000]) (walkIn .asking)
    ∧ (walkIn .asking).numberOf .drag = some 2
    ∧ (ex (.xferYield (bulletin 2 6 [])) (walkIn .asking)).walk.state = .transferring
    ∧ (ex (.xferRefuse (bulletin 2 6 [0x1000])) (walkIn .asking)).walk.state = .parked
    ∧ (ex (.xferRefuse (bulletin 2 6 [0x1000])) (walkIn .asking)).alarms.list.map (·.detail) = [some 1] :=
  ⟨owned_mk (by decide +kernel), takes_mk (by decide +kernel), takes_mk (by decide +kernel),
    by decide +kernel⟩

theorem witness_dragReclaims : Takes .xferAbort (bulletin 6 15 [0]) (dragIn .yielding)
    ∧ Takes .xferRelease (bulletin 6 2 [0]) (dragIn .yielded)
    ∧ (ex (.xferAbort (bulletin 6 15 [0])) (dragIn .yielding)).rope.ownership = .reclaiming
    ∧ (ex (.xferAbort (bulletin 6 15 [0])) (dragIn .yielded)).rope.reclaimPending = true
    ∧ (ex (.xferAbort (bulletin 6 15 [0])) (dragIn .digging)).rope.ownership = .digging
    ∧ (ex (.xferRelease (bulletin 6 2 [0])) (dragIn .yielded)).rope.reclaimPending = true
    ∧ (ex (.xferRelease (bulletin 6 2 [0])) (dragIn .digging)).rope.reclaimPending = false :=
  ⟨takes_mk (by decide +kernel), takes_mk (by decide +kernel), by decide +kernel⟩

theorem witness_cabKeeps : Takes .xferDone (bulletin 6 15 [7]) cab ∧ Takes .xferAbort (bulletin 6 15 [7]) cab
    ∧ Takes .xferDone (bulletin 6 15 [7]) drag ∧ cab.joined = true ∧ drag.role ≠ .cab
    ∧ (ex (.xferDone (bulletin 6 15 [7])) cab).cab.xferHeard = some ⟨6, 15, .xferDone, [7], true⟩ :=
  ⟨takes_mk (by decide +kernel), takes_mk (by decide +kernel), takes_mk (by decide +kernel),
    by decide +kernel⟩

/-! ### Demand shares -/

/-- The answer of `hoist` (own 20, reserve 10) to a SHARE-ASK of a count. -/
def answerTo (n : Nat) (s : State) : List (Kind × List Word) :=
  (ex (.shareAsk (bulletin 2 1 (countWords n))) s).line.queue.map fun e => (e.kind, e.words)

theorem witness_shareAsk : Takes .shareAsk (bulletin 2 1 (countWords 0)) hoist ∧ hasSpace hoist
    ∧ answerTo 0 hoist = [(.shareRefuse, reasonWords 1)]
    ∧ answerTo 1 (hoist.onShare fun h => { h with fresh := true }) = [(.shareRefuse, reasonWords 2)]
    ∧ answerTo 1 (hoist.onShare fun h => { h with own := 10 }) = [(.shareRefuse, reasonWords 3)]
    ∧ answerTo 127 hoist = [(.shareGrant, grantWords 10 0)]
    ∧ answerTo 3 hoist = [(.shareGrant, grantWords 3 0)] :=
  ⟨takes_mk (by decide +kernel), by unfold hasSpace; decide +kernel, by decide +kernel⟩

/-- `hoist` with an ask of station 2 pending and 6 tokens borrowed of it. -/
def borrower : State := hoist.onShare fun h =>
  { h with ask := some ⟨2, 3⟩, borrowed := 6, borrowedRecords := [⟨2, 6, 1, 4, .holding, 0, 0, none⟩] }

theorem witness_askAnswered : Takes .shareGrant (bulletin 2 1 (grantWords 64 9)) borrower
    ∧ Takes .shareRefuse (bulletin 2 1 [0]) borrower ∧ borrower.share.fresh = false
    ∧ countOf (grantWords 64 9) = 64 ∧ countOf (grantWords 1 9) = 1
    ∧ (ex (.shareGrant (bulletin 2 1 (grantWords 64 9))) borrower).share.borrowed = 70
    ∧ (ex (.shareGrant (bulletin 2 1 (grantWords 1 9))) hoist).share.borrowedRecords.map (·.count) = [1]
    ∧ (ex (.shareRefuse (bulletin 2 1 [0])) borrower).share.ask = none
    ∧ (ex (.shareRefuse (bulletin 4 1 [0])) borrower).share.ask = some ⟨2, 3⟩ :=
  ⟨takes_mk (by decide +kernel), takes_mk (by decide +kernel), by decide +kernel⟩

/-- `hoist` with 5 tokens lent to station 2 under grant number 7. -/
def lender : State := hoist.onShare fun h =>
  { h with own := 15, lent := 5, lentRecords := [⟨2, 5, 30, none, 7⟩] }

/-- Own tokens and lent records after a SHARE-RETURN of station 2. -/
def returned (n : Nat) (g : Word) : Nat × List Nat :=
  let t := ex (.shareReturn (bulletin 2 1 (grantWords n g))) lender
  (t.share.own, t.share.lentRecords.map (·.count))

theorem witness_return : Takes .shareReturn (bulletin 2 1 (grantWords 4 7)) lender
    ∧ lender.share.fresh = false ∧ (lender.share.lentRecords.map (·.peer)).Nodup
    ∧ returned 4 7 = (19, [1]) ∧ returned 5 7 = (20, []) ∧ returned 64 7 = (20, [])
    ∧ returned 5 8 = (15, [5]) :=
  ⟨takes_mk (by decide +kernel), by decide +kernel⟩

/-- State and shed tokens of the record of station 2 after a SHARE-RECALL. -/
def recalled (n : Nat) (s : State) : List (ReturnState × Nat) :=
  (ex (.shareRecall (bulletin 2 1 (countWords n))) s).share.borrowedRecords.map fun r => (r.state, r.shed)

theorem witness_recall : Takes .shareRecall (bulletin 2 1 (countWords 0)) borrower
    ∧ recalled 0 borrower = [(.shedding, 1)] ∧ recalled 65 borrower = [(.shedding, 6)]
    ∧ recalled 2 (ex (.shareRecall (bulletin 2 1 (countWords 3))) borrower) = [(.shedding, 3)]
    ∧ recalled 3 (borrower.onShare fun h => { h with fresh := true }) = [(.holding, 0)] :=
  ⟨takes_mk (by decide +kernel), by decide +kernel⟩

/-! ### Picture, ring, queries -/

/-- A STATUS of station 2 with the own signature. -/
def dragStatus (fresh : Bool) (seq : Byte) : Bulletin :=
  { bulletin 2 15 (StatusFields.words { role := .drag, fresh, signature := 1234 }) with seq }

/-- Gaps counted by two STATUS bulletins of station 2 in a row. -/
def gapsOf (a b : Byte) (fresh : Bool) : Nat :=
  ((ex (.status (dragStatus fresh b)) (ex (.status (dragStatus false a)) lender)).peer 2).gaps

theorem witness_status : Takes .status (dragStatus false 9) lender ∧ lender.picture.peers.length = 8
    ∧ (StatusFields.ofWords (dragStatus false 9).words).isSome = true
    ∧ gapsOf 5 6 false = 0 ∧ gapsOf 5 9 false = 3 ∧ gapsOf 5 5 false = 0 ∧ gapsOf 5 4 false = 254
    ∧ gapsOf 5 1 true = 0
    ∧ (ex (.status (dragStatus true 9)) lender).share.own = 20
    ∧ (ex (.status (dragStatus false 9)) lender).share.own = 15 :=
  ⟨takes_mk (by decide +kernel), by decide +kernel⟩

/-- A REFERENCE of the cab for the slot of a tag; `hoist` stands at cycle 100, window 8. -/
def referenceFor (tag : Word) : Bulletin :=
  bulletin 5 15 (ReferenceFields.words ⟨tag, 300, 0, 0, 0, true, true, true, true, false⟩)

/-- Filled slots, late and out-of-window counts after it. -/
def ruled (tag : Word) : Nat × Nat × Nat :=
  let t := ex (.reference (referenceFor tag)) hoist
  (t.ring.slots.length, t.line.counters.lateReferences, t.line.counters.outOfWindow)

theorem witness_reference : Takes .reference (referenceFor 101) hoist ∧ hoist.role.isAxis = true
    ∧ hoist.numberOf .cab = some 5 ∧ hoist.time.running = true
    ∧ ruled 100 = (0, 1, 0) ∧ ruled 101 = (1, 0, 0) ∧ ruled 108 = (1, 0, 0) ∧ ruled 109 = (0, 0, 1)
    ∧ ruled (100 + 32767) = (0, 0, 1) ∧ ruled (100 + 32768) = (0, 1, 0) ∧ ruled 99 = (0, 1, 0)
    ∧ (ex (.reference (referenceFor 101)) (ex (.reference (referenceFor 101)) hoist)).ring.rewritten = 1
    ∧ (ex (.reference { referenceFor 101 with sender := 4 }) hoist).ring.slots = [] :=
  ⟨takes_mk (by decide +kernel), by decide +kernel⟩

/-- Three queries waiting. -/
def asked : State := hoist.onLine fun l => { l with queries := List.replicate 3 ⟨3, 0, 0, 0⟩ }

theorem witness_query : Takes .query (bulletin 3 1 [0]) asked ∧ hasSpace asked
    ∧ (ex (.query (bulletin 3 1 [0])) asked).line.queries.length = 4
    ∧ (filterPasses .query (bulletin 3 1 [0]) (ex (.query (bulletin 3 1 [0])) asked)
        && hasRoom .query (ex (.query (bulletin 3 1 [0])) asked)) = false
    ∧ (answerQuery asked).line.queries.length = 2 :=
  ⟨takes_mk (by decide +kernel), by unfold hasSpace; decide +kernel, by decide +kernel⟩

/-! ### Pins -/

/-- `hoist` with 9 slave edges offered to unit 0, one count between each. -/
def edged : State := (List.range 9).foldl (fun s _ =>
  ex (.encoderTransition true) (ex (.slaveEdge .unit0) s)) hoist

theorem witness_edges : hoist.joined = true ∧ listening.joined = false
    ∧ (captureSel .unit0 hoist.params).slaveSource = 2 ∧ (captureSel .unit1 hoist.params).slaveSource = 0
    ∧ edged.unit0.slaveQueue.map (·.snapshot) = [8, 7, 6, 5, 4, 3, 2, 1] ∧ edged.unit0.slaveCount = 9
    ∧ ((ex (.masterEdge .unit0) edged).unit0.lastResult.bind (·.slave)).map (·.snapshot) = some 7
    ∧ ((ex (.masterEdge .unit0) hoist).unit0.lastResult.bind (·.slave)) = none
    ∧ (ex (.slaveEdge .unit1) hoist).unit1.slaveQueue = [] := by decide +kernel

/-- `hoist` calibrated with a base, at encoder count 0 (reference position 1850). -/
def roped (base : Int) : State := hoist.onRope fun r => { r with base, calibrated := true }
def baseAfterMark (s : State) : Int := (ex (.masterEdge .unit0) s).rope.base

theorem witness_ropeMark : hoist.role.isRope = true ∧ hoist.rope.calibrated = false
    ∧ baseAfterMark hoist = 1850 ∧ baseAfterMark (roped 1800) = 1850 ∧ baseAfterMark (roped 1799) = 1799
    ∧ baseAfterMark (roped 1900) = 1850 ∧ baseAfterMark (roped 1901) = 1901 := by decide +kernel

theorem witness_walkMarks :
    (ex (.masterEdge .unit0) (walkIn .stepping)).walk.state = .settling
    ∧ (ex (.masterEdge .unit0) (walkIn .ready)).walk.state = .ready
    ∧ (ex (.masterEdge .unit1) (walkIn .settling)).walk.state = .ready
    ∧ (ex (.masterEdge .unit1) ((walkIn .settling).onDrive fun d => { d with postTarget := 1 })).walk.state
        = .stepping
    ∧ (walkIn .settling).role = .walk ∧ (walkIn .settling).drive.postTarget = 0 := by decide +kernel

theorem test_encoder_wraps :
    (ex (.encoderTransition true) { hoist with encoder := 0x7FFFFFFF }).encoder.toInt = -2147483648
    ∧ (ex (.encoderTransition false) State.reset).encoder = 0 := by decide +kernel
theorem test_fieldLinkAck :
    (ex .fieldLinkAck (hoist.onDrive fun d => { d with awaiting := true })).drive.awaiting = false := by
  decide +kernel

/-- The drag digging with its output up. -/
def dragRunning : State := (dragIn .digging).onDrive fun d =>
  { d with f := 300, fieldWord := 614, enable := true, brake := .released }

theorem witness_hookLoss : dragRunning.joined = true ∧ dragRunning.role.isAxis = true
    ∧ EnableOwned dragRunning ∧ dragRunning.ownedHook = true
    ∧ (ex (.ownedHookLoss 0x01) dragRunning).ownedHook = false
    ∧ (ex (.ownedHookLoss 0x01) dragRunning).drive.f = 0
    ∧ (ex (.ownedHookLoss 0x01) dragRunning).drive.brake = .released
    ∧ (ex (.ownedHookLoss 0x41) dragRunning).drive.f = 300 :=
  ⟨by decide +kernel, by decide +kernel, owned_mk (by decide +kernel), by decide +kernel⟩

/-- The cab after its emergency input read active. -/
def stopped : State := ex (.operatorStop 8) cab

theorem witness_emergency : ListsOrdered stopped ∧ cab.joined = true ∧ cab.role = .cab ∧ cab.cab.emergency = none
    ∧ cab.alarms.list = [] ∧ (∀ e ∈ cab.line.queue, e.reserved = false)
    ∧ stopped.alarms.mode = .tripped ∧ stopped.alarms.list.map (·.code) = [.operatorStop]
    ∧ stopped.cab.emergency = some true
    ∧ (ex (.operatorStop 0) stopped).alarms.list.map (·.state) = [.clearedUnack]
    ∧ (ex (.operatorStop 8) stopped).alarms = stopped.alarms :=
  ⟨ordered_mk (by decide +kernel), by decide +kernel⟩

/-! ### The events of a cycle start -/

/-- One cycle before a long cycle. -/
def beforeLong (s : State) : State := s.onTime fun t => { t with longCount := 9 }

theorem witness_longCycle : fallsDue .longCycle (inputs 1) (beforeLong hoist) = true
    ∧ fallsDue .longCycle (inputs 1) hoist = false
    ∧ (ex (.longCycle (inputs 1)) (beforeLong hoist)).time.longCount = 0 := by decide +kernel

/-- The line counts at their last cycle start. -/
def duplicated : State := (listing .duplicateStation .activeUnack hoist).onLine fun l =>
  { l with dupCount := 63, dupCounting := true }
def faulted : State := hoist.onLine fun l => { l with state := .lineFault, faultStarts := 63 }

theorem witness_lineEvents : duplicated.line.dupCount = 63 ∧ ListsOrdered duplicated
    ∧ (ex (.duplicateStationClear (inputs 1)) duplicated).line.dupCounting = false
    ∧ (ex (.lineRejoin (inputs 1)) faulted).line.state = .rejoining :=
  ⟨by decide +kernel, ordered_mk (by decide +kernel), by decide +kernel⟩

/-- A picture in which station 2 is HEARD at an age; the staleness limit is 5. -/
def heardAged (n : Nat) (s : State) : State := setPeer 2 (fun p => { p with heard := true, age := n }) s

theorem witness_peerSilent : ((heardAged 5 hoist).peer 2).age = hoist.globals.staleness
    ∧ (ex (.peerSilent (inputs 1)) (heardAged 5 hoist)).isStale
        ((ex (.peerSilent (inputs 1)) (heardAged 5 hoist)).peer 2) = true
    ∧ fallsDue .peerSilent (inputs 1) (heardAged 4 hoist) = false := by decide +kernel

theorem witness_starved :
    (let s := hoist.onRing fun r => { r with hold := 3, last := 500 }
     s.params.holdLimit ≤ s.ring.hold ∧ s.ring.starved = false ∧ s.ring.slots = []
     ∧ (ex (.referenceStarved (inputs 1)) s).ring.starved = true
     ∧ fallsDue .referenceStarved (inputs 1) (s.onRing fun r => { r with hold := 2 }) = false) := by
  decide +kernel

theorem witness_annunciator :
    (let s := cab.onTable fun t => { t with flashCount := 24, refusalFlash := 1 }
     cab.cab.restartButton ≠ .edge
     ∧ (ex (.flashPhaseInvert (inputs 0)) s).table.flashPhase = true
     ∧ (ex (.refusalFlashEnd (inputs 0)) s).table.refusalFlash = 0
     ∧ fallsDue .flashPhaseInvert (inputs 0) cab = false) := by decide +kernel

theorem witness_purge :
    (let s := beforeLong (cab.onTable fun t =>
       { t with records := [⟨2, .overload, none, .warn, .activeAck, ⟨90, 0⟩, 25⟩] })
     fallsDue .tablePurge (inputs 0) s = true
     ∧ (ex (.tablePurge (inputs 0)) s).table.records.length = 0) := by decide +kernel

/-- A station at the long cycle that ends its quarantine (loan term 30). -/
def quarantined : State := beforeLong ((listing .stationStarted .activeUnack (tripped hoist)).onShare
  fun h => { h with fresh := true, own := 0, quarantine := 31 })

theorem witness_quarantineEnd : quarantined.globals.loanTerm + 1 ≤ quarantined.share.quarantine
    ∧ quarantined.share.fresh = true ∧ ListsOrdered quarantined
    ∧ (∀ n, n < 8 → n ≠ quarantined.station → (quarantined.peer n).foreign = false)
    ∧ (ex (.quarantineEnd (inputs 1)) quarantined).share.own = 20
    ∧ fallsDue .quarantineEnd (inputs 1) (quarantined.onShare fun h => { h with quarantine := 30 })
        = false :=
  ⟨by decide +kernel, by decide +kernel, ordered_mk (by decide +kernel), by decide +kernel⟩

theorem witness_loanTermEnd : (∀ e ∈ borrower.line.queue, e.kind ≠ .shareReturn)
    ∧ borrower.share.borrowedRecords.map (·.term) = [1]
    ∧ (ex (.loanTermEnd (inputs 1)) (beforeLong borrower)).share.borrowedRecords = [] := by decide +kernel

/-- `lender` with its record's term and grace. -/
def lenderAt (term : Nat) (grace : Option Nat) : State := beforeLong
  (lender.onShare fun h => { h with lentRecords := [⟨2, 5, term, grace, 7⟩] })

theorem witness_loanGraceEnd :
    (ex (.loanGraceEnd (inputs 1)) (lenderAt 0 (some 1))).share.own = 20
    ∧ (ex (.loanGraceEnd (inputs 1)) (lenderAt 1 none)).share.lentRecords = [⟨2, 5, 0, some 2, 7⟩]
    ∧ fallsDue .loanGraceEnd (inputs 1) (lenderAt 0 (some 2)) = false := by decide +kernel

theorem witness_askWaitEnd :
    (let s (n : Nat) := hoist.onShare fun h => { h with ask := some ⟨2, n⟩ }
     (ex (.askWaitEnd (inputs 1)) (s 19)).share.ask = none
     ∧ fallsDue .askWaitEnd (inputs 1) (s 18) = false) := by decide +kernel

/-- `s` with a value of the ring ready for the coming cycle (101). -/
def referred (v : Int) (s : State) : State := s.onRing fun r => { r with slots := [⟨101, some v, false⟩] }

theorem witness_pressure :
    (let s := (referred 300 lender).onShare fun h => { h with own := 0, pressure := 4 }
     fallsDue .pressure (inputs 1) s = true
     ∧ (ex (.pressure (inputs 1)) s).share.pressure = 0
     ∧ (ex (.pressure (inputs 1)) s).line.queue.any (fun e => e.kind == .shareRecall) = true
     ∧ fallsDue .pressure (inputs 1) (s.onShare fun h => { h with pressure := 3 }) = false) := by
  decide +kernel

theorem witness_voluntaryReturn :
    (let s := borrower.onShare fun h => { h with voluntary := 19 }
     fallsDue .voluntaryReturn (inputs 1) s = true
     ∧ (ex (.voluntaryReturn (inputs 1)) s).share.borrowedRecords.map (·.state) = [.returning]) := by
  decide +kernel

theorem witness_fieldLinkLost :
    (let s (n : Nat) := hoist.onDrive fun d => { d with ran := true, awaiting := true, missing := n }
     (ex (.fieldLinkLost (inputs 1)) (s 2)).alarms.mode = .tripped
     ∧ fallsDue .fieldLinkLost (inputs 1) (s 1) = false
     ∧ fallsDue .fieldLinkLost (inputs 1) (s 3) = false) := by decide +kernel

theorem witness_brakeFeedback :
    (let s (n : Nat) := hoist.onDrive fun d => { d with disagree := n }
     hoist.drive.brake = .set ∧ hoist.params.drive.brakeCheck = 20
     ∧ (ex (.brakeFeedback (inputs 0)) (s 20)).alarms.list.map (·.code) = [.brakeFeedback]
     ∧ fallsDue .brakeFeedback (inputs 0) (s 19) = false
     ∧ fallsDue .brakeFeedback (inputs 1) (s 20) = false) := by decide +kernel

theorem witness_brakeSlip :
    (let s (n : Nat) (c : DWord) := { hoist with encoder := c }.onDrive fun d =>
       { d with prevEncoder := some 0, slip := n }
     (ex (.brakeSlip (inputs 1)) (s 2 11)).alarms.list.map (·.code) = [.brakeSlip]
     ∧ fallsDue .brakeSlip (inputs 1) (s 2 10) = false
     ∧ fallsDue .brakeSlip (inputs 1) (s 1 11) = false) := by decide +kernel

theorem witness_brakeSet :
    (let s (n : Nat) := hoist.onDrive fun d => { d with brake := .released, delay := n }
     fallsDue .brakeSet (inputs 1) (s 9) = true ∧ fallsDue .brakeSet (inputs 1) (s 8) = false
     ∧ (ex (.brakeSet (inputs 1)) (s 9)).drive.brake = .set) := by decide +kernel

/-- The brake command and the delay count after a cycle start from RELEASED: `n` counted, an encoder change of
`d` counts, a reference of `x`. -/
def braking (n : Nat) (d : DWord) (x : Int) : Brake × Nat :=
  let s := { referred x hoist with encoder := d }
  let t := ex (.cycleStart (inputs 1)) (s.onDrive fun k =>
    { k with brake := .released, delay := n, prevEncoder := some 0 })
  (t.drive.brake, t.drive.delay)

theorem witness_brakeDelay :
    hoist.params.drive.brakeDelay = 10 ∧ hoist.params.drive.countsPerCycle = 500
    ∧ braking 9 2 0 = (.set, 10) ∧ braking 8 2 0 = (.released, 9)
    ∧ braking 9 3 0 = (.released, 0) ∧ braking 9 2 300 = (.released, 0)
    ∧ (let t := ex (.cycleStart (inputs 1)) ((referred 300 hoist).onDrive fun k => { k with brake := .set, delay := 7 })
       (t.drive.brake, t.drive.delay) = (.released, 0)) := by decide +kernel

theorem witness_stallHeld :
    (let s (n : Nat) := (referred 500 hoist).onDrive fun d => { d with stall := n }
     let i : Inputs := { inputs 1 with ch1 := 3300 }
     fallsDue .stallHeld i (s 49) = true ∧ fallsDue .stallHeld i (s 48) = false
     ∧ (ex (.stallHeld i) (s 49)).drive.f = 0) := by decide +kernel

theorem witness_slackRope :
    (let s (n : Nat) := (roped 4000).onRope fun r => { r with slack := n }
     fallsDue .slackRope (inputs 1) (s 4) = true ∧ fallsDue .slackRope (inputs 1) (s 3) = false
     ∧ (ex (.slackRope (inputs 1)) (s 4)).alarms.list.map (·.code) = [.slackRope]) := by decide +kernel

theorem witness_yieldLimit :
    (let s (n : Nat) := (dragIn .yielding).onRope fun r => { r with yieldSent := false, yieldCount := n }
     fallsDue .yieldLimit (inputs 0x40) (s 199) = true
     ∧ fallsDue .yieldLimit (inputs 0x40) (s 198) = false
     ∧ (ex (.yieldLimit (inputs 0x40)) (s 199)).line.queue.any (fun e => e.words == reasonWords 3)
        = true) := by decide +kernel

theorem witness_yieldWait :
    (let s (n : Nat) := (dragIn .yielded).onRope fun r => { r with yieldWait := n }
     fallsDue .yieldWaitExpiry (inputs 0x41) (s 199) = true
     ∧ fallsDue .yieldWaitExpiry (inputs 0x41) (s 198) = false
     ∧ (ex (.yieldWaitExpiry (inputs 0x41)) (s 199)).rope.ownership = .reclaiming) := by decide +kernel

theorem witness_askWait :
    (let s (n : Nat) := { walkIn .asking with
       walk := { (walkIn .asking).walk with askWait := n, coil := false },
       ring := { hoist.ring with lastWalkMode := true } }
     fallsDue .askWaitExpiry (inputs 0x41) (s 19) = true
     ∧ fallsDue .askWaitExpiry (inputs 0x41) (s 18) = false
     ∧ (ex (.askWaitExpiry (inputs 0x41)) (s 19)).walk.state = .parked) := by decide +kernel

theorem witness_transferFailed :
    (let s (n : Nat) := (walkIn .transferring).onWalk fun k => { k with stateCount := n }
     fallsDue .transferFailed (inputs 0x41) (s 29) = true
     ∧ fallsDue .transferFailed (inputs 0x41) (s 28) = false
     ∧ (ex (.transferFailed (inputs 0x41)) (s 29)).walk.state = .faulted) := by decide +kernel

theorem witness_contactors :
    (let s (n : Nat) := (dragIn .digging).onContactor fun c => { c with disagree := n }
     fallsDue .contactorDisagree (inputs 0xC1) (s 5) = true
     ∧ fallsDue .contactorDisagree (inputs 0xC1) (s 4) = false
     ∧ (ex (.contactorDisagree (inputs 0xC1)) (s 5)).alarms.mode = .tripped)
    ∧ (let s (n : Nat) := (walkIn .ready).onContactor fun c => { c with contrary := n }
     fallsDue .contactorContrary (inputs 0x41) (s 30) = true
     ∧ fallsDue .contactorContrary (inputs 0x41) (s 29) = false
     ∧ (ex (.contactorContrary (inputs 0x41)) (s 30)).contactor.contrary = 31) := by decide +kernel

theorem witness_stepOvertime :
    (let s (n : Nat) := (walkIn .stepping).onWalk fun k => { k with stepCount := n }
     fallsDue .stepOvertime (inputs 0x81) (s 1499) = true
     ∧ fallsDue .stepOvertime (inputs 0x81) (s 1498) = false
     ∧ (ex (.stepOvertime (inputs 0x81)) (s 1499)).walk.stepCount = 1500) := by decide +kernel

/-! ### What every step keeps, and motion -/

theorem witness_startAgrees : StartAgrees dragRunning := agrees_mk (by decide +kernel)

theorem witness_outputs :
    (SafeOutputs dragRunning ∧ EnableOwned dragRunning ∧ OutputInRange dragRunning)
    ∧ ∃ t, step dragRunning = .next t :=
  ⟨⟨fun h => absurd h (by decide +kernel), owned_mk (by decide +kernel),
    by constructor <;> decide +kernel⟩, _, rfl⟩

theorem witness_lists : Bounded threeAlarms ∧ ListsOrdered threeAlarms ∧ ∃ t, step threeAlarms = .next t :=
  ⟨by constructor <;> decide +kernel, ordered_mk (by decide +kernel), _, rfl⟩

/-- `hoist` with SHARE LOAN DROPPED of station 2 in a state. -/
def dropIn (st : AlarmState) : State := hoist.onAlarms fun a =>
  { a with list := [⟨.shareLoanDropped, some 2, ⟨90, 0⟩, st, 0⟩] }

theorem witness_loanDrops : LoanDropsCleared (dropIn .clearedUnack) ∧ ¬ LoanDropsCleared (dropIn .activeAck) :=
  ⟨by constructor <;> decide +kernel, fun h => absurd h.cleared (by decide +kernel)⟩

theorem witness_loanDrops_step : StartAgrees (dropIn .clearedUnack) ∧ ∃ t, step (dropIn .clearedUnack) = .next t :=
  ⟨by constructor <;> decide +kernel, _, rfl⟩

theorem witness_ring : RingKept (referred 300 hoist) := by constructor <;> decide +kernel

theorem witness_tokens : TokensAgree lender := by constructor <;> decide +kernel

/-- The peers a moving station needs: hoist at an axis code, swing parked, drag yielded. -/
def pictured (bucket : Nat) (s : State) : State :=
  let see (n : Nat) (x : StatusFields) (s : State) : State :=
    setPeer n (fun _ => { heard := true, age := 1, status := x }) s
  see 1 { role := .hoist, axis := bucket } (see 2 { role := .drag, axis := 2 }
    (see 4 { role := .swing, axis := 1 } s))

theorem witness_motion :
    (let s (bucket : Nat) := (pictured bucket (referred 300 swing)).onSwing fun w => { w with calibrated := true }
     let t (bucket : Nat) := ex (.cycleStart (inputs 1))
       ((s bucket).onDrive fun d => { d with f := 100, fieldWord := 204, brake := .released })
     (t 3).drive.f = 120 ∧ (t 2).drive.f = 40)
    ∧ (let s (bucket : Nat) := pictured bucket (referred 300 (walkIn .stepping))
       (ex (.cycleStart (inputs 0x81)) (s 1)).drive.f = 20
       ∧ (ex (.cycleStart (inputs 0x81)) (s 2)).drive.f = 0)
    ∧ (ex (.cycleStart (inputs 0x21)) (referred 300 hoist)).drive.f = 0
    ∧ (ex (.cycleStart (inputs 0x01)) (referred 300 hoist)).drive.f = 20 := by decide +kernel

/-! ### Worked examples of the spec -/

theorem test_ramp_steps : stageRamp 20 30 100 0 = 70 ∧ stageRamp 20 30 (-15) 300 = 0
    ∧ stageRamp 20 30 0 300 = 20 ∧ stageRamp 20 30 290 300 = 300 ∧ stageRamp 20 30 100 90 = 90
    ∧ stageRamp 20 30 (-100) (-300) = -120 ∧ stageRamp 20 30 100 (-300) = 70 := by decide +kernel
theorem test_held_nothing : (hoist.onShare fun h => { h with own := 0 }).held = 0 := by decide +kernel
/-- The field word of 327 per mille (section 5.4). -/
theorem test_field_word : fieldWordOf 327 = 669 ∧ fieldWordOf (-1000) = -2047 := by decide +kernel

/-! ### Encodings -/

theorem test_cells : goodRaw.wf = true ∧ RawBulletin.ofCells goodRaw.cells = some goodRaw := by
  decide +kernel
/-- The drag's axis code 3, speed -5 and held loans written out bit by bit (TABLE 12-4). -/
theorem test_status_words :
    StatusFields.words
      { role := .drag, mode := .run, axis := 3, brakeSet := true, speed := -5, own := 24, spare := 14,
        borrowed := 0, lent := 2, signature := 1234 }
      = [0b0110101101000000, 0, 0xFFFB, 0b0011000000111000, 0b0000000000001000, 1234] := by
  decide +kernel

theorem witness_payloads :
    (StatusFields.ofWords (StatusFields.words { role := .walk, axis := 7, position := 65535, speed := -1999 })
      = some { role := .walk, axis := 7, position := 65535, speed := -1999 })
    ∧ tripOf (tripWords .operatorStop (some 15) ⟨0xFFFFFFFF, 65535⟩)
      = some (.operatorStop, some 15, ⟨0xFFFFFFFF, 65535⟩)
    ∧ mergeOf 3 (alarmWords ⟨.stationStarted, none, ⟨1, 2⟩, .activeAck, 0⟩ false true)
      = some ⟨3, .stationStarted, none, some .activeAck, ⟨1, 2⟩, true⟩ := by decide +kernel

end Sys2Proof.Tests
end

