-- ==== Sys2Proof/Tests/Clauses.lean ====
section
/-! SUPPORT. Witnesses of single clauses of the statements, at the edges of their ranges: full queues and
lists, bulletins passed on in LISTENING and LINE FAULT, clamped settings, a borrower's returns, the cab's
cycle, shared edges. -/

namespace Sys2Proof.Tests

open Sys2Proof.Machine

set_option Elab.async false

/-! ### The settings image (TABLE 11-3) -/

/-- The state after a block with a check field, read in READING at station 0. -/
def imaged (check rest : List Byte) : State :=
  ex (.settingsImageComplete (block check rest)) { reading with startup := { state := .reading, rate := 1 } }

/-- A whole block that gives station 0 a role and every parameter its greatest value. -/
def greatest (role : Byte) : List Byte :=
  role :: List.replicate 63 0 ++ List.replicate 432 255 ++ List.replicate 8 0

theorem test_image_least :
    (let u := (imaged [30, 79] [2]).startup
     let g := u.settings.globals
     let p := u.settings.params
     u.state = .selftest ∧ u.clamped = true ∧ u.signature = 0x1E4F
     ∧ g = ⟨5, 0, 2, 2, 1, 100, 1, 500, 0, 10⟩
     ∧ p.drive = ⟨100, 100, 1, 10, 1, 1, 0, 500, 550, 1000, 0, 5⟩
     ∧ (p.rope.stopMargin, p.rope.limitOut, p.rope.clearMark, p.rope.groundMark) = (10, 20, 0, 1)) := by
  decide +kernel

theorem test_image_greatest :
    (let image := (rawSettings (block [0, 0] (greatest 2)) .hoist).clamp .hoist
     let g := image.globals
     let p := image.params
     g = ⟨50, 49, 64, 20, 32, 30000, 255, 1000, 900, 100⟩ ∧ (p.reserve, p.holdLimit) = (64, 20)
     ∧ p.drive = ⟨2047, 2047, 65535, 10000, 200, 200, 200, 1500, 2000, 2500, 50, 100⟩
     ∧ (p.rope.limitIn, p.rope.limitOut, p.rope.clearMark, p.rope.groundMark) = (60000, 65535, 65534, 65535)) := by
  decide +kernel

theorem test_image_roles :
    (let p (check : List Byte) (role : Byte) := (imaged check [role]).startup.settings.params
     (p [46, 44] 1).cab.lead = 1 ∧ (p [46, 44] 1).cab.handles = List.replicate 4 ⟨1024, 200, 0⟩
     ∧ (p [14, 110] 3).rope.tightLine = 0
     ∧ (p [126, 137] 4).swing = ⟨3600, 0, 1, 0, 1⟩
     ∧ ((p [110, 168] 5).walk.countsPerRev, (p [110, 168] 5).walk.stepLimit) = (3600, 100)) := by
  decide +kernel

/-- The trip current is held against the stall limit of the first pass (R187). -/
theorem test_trip_current :
    (let d := ({ stallKnee := 1500, stallLimit := 1200, tripCurrent := 1000 } : DriveParams).clampFixed.clampDependent
     (d.stallLimit, d.tripCurrent) = (1550, 1200)) := by decide +kernel

theorem witness_settingsHeld : SettingsHeld (walkIn .stepping) :=
  have g : GlobalsHeld demoGlobals := by constructor <;> decide +kernel
  ⟨fun _ => g, fun _ => by decide +kernel, fun _ => by decide +kernel, fun _ => by decide +kernel,
    fun _ => by decide +kernel, fun _ => by decide +kernel⟩

/-! ### The cycle timer, its PACE and one 10 µs unit (R22, R23, R189, R191) -/

/-- The PACE of the timer's expiry in ACTIVE, its refusal in a queue full of class 1 and in LINE FAULT. -/
theorem witness_expiry_pace :
    (let t (s : State) := (ex (.cycleStart (inputs 1)) s).line
     (t hoist).queue.map (fun e => (e.kind, e.words)) = [(.pace, [0, 101])]
     ∧ (t (hoist.onLine fun l => { l with queue := List.replicate 8 { queued .xferAsk 2 [] with rank := 0 } })).counters.refused = 1
     ∧ (t (hoist.onLine fun l => { l with state := .lineFault })).counters.refused = 1) := by decide +kernel

/-- Offset and cycle after a step with no command waiting, from an offset of 998 and 999 units of 1000. -/
theorem witness_unit :
    (let t (n : Nat) := (after (step (hoist.onTime fun t => { t with offset := n }))).time
     ((t 998).cycle, (t 998).offset, (t 999).cycle, (t 999).offset) = (100, 999, 101, 0))
    ∧ (let l (n : Nat) := (after (step (listening.onStartup fun u => { u with listenTimer := n }))).startup
       ((l 1998).state, (l 1998).listenTimer, (l 1999).state) = (.listen, 1999, .joined))
    ∧ (let f (n : Nat) := (after (step (halted.onStartup fun u => { u with faultCount := n }))).startup.faultCount
       (f 0, f 199999) = (1, 0)) := by decide +kernel

/-! ### A directed bulletin is never passed on (R3) -/

theorem witness_directed : (bulletin 2 1 (countWords 5)).wf .shareAsk = true
    ∧ filterPasses .shareAsk (bulletin 2 1 (countWords 5)) listening = true
    ∧ ex (.shareAsk (bulletin 2 1 (countWords 5))) listening = untaken listening := by decide +kernel

/-! ### The first-out at the freezing ack (R180) -/

/-- The sources of the copy and of the table's records once an ALARM-ACK at cycle 95 freezes an episode in which
station 2's record stands in a state and station 3's is raised after it. -/
def frozenOver (held : Option FirstOut) (st : AlarmState) : Option Nat × List Nat :=
  let s := cabFloating.onTable fun t =>
    { t with firstOut := held, records := [⟨2, .overcurrent, none, .trip, st, ⟨90, 0⟩, 0⟩,
      ⟨3, .overcurrent, none, .trip, .activeUnack, ⟨96, 0⟩, 0⟩] }
  let t := ex (.attemptEnd true) (flying s (queued .alarmAck 15 (Stamp.words ⟨95, 0⟩)))
  (t.table.firstOut.map (·.source), t.table.records.map (·.source))

theorem witness_frozen :
    (let two : FirstOut := ⟨2, .overcurrent, none, ⟨90, 0⟩⟩
     [frozenOver (some two) .activeUnack, frozenOver (some two) .clearedUnack, frozenOver none .clearedUnack]
       = [(some 2, [2, 3]), (some 2, [3]), (some 3, [3])]) := by decide +kernel

/-! ### The rope's measurement of a cycle start (R115, R116, R118, R121) -/

/-- Position, load, calibrated state and bucket of a hoist at a base after a cycle start with a load reading. -/
def measured (base : Int) (x : BitVec 12) (s : State) : Nat × Nat × Bool × Bucket :=
  let t := (ex (.cycleStart { inputs 1 with ch2 := x }) (s.onRope fun r => { r with base, calibrated := true })).rope
  (t.position, t.load, t.calibrated, t.bucket)

theorem witness_ropeCycle :
    [measured 3000 400 hoist, measured 3001 400 hoist, measured 6500 559 hoist, measured 6500 560 hoist,
      measured (-1) 399 hoist, measured 65536 4000 hoist]
      = [(3000, 0, true, .clear), (3001, 0, true, .low), (6500, 79, true, .grounded), (6500, 80, true, .low),
         (0, 0, true, .clear), (65535, 1800, true, .low)]
    ∧ (let s (n : DWord) := { hoist with encoder := n }.onDrive fun d => { d with prevEncoder := some 0 }
       (measured 4000 400 (s 1500), measured 4000 400 (s 1501))
         = ((4060, 0, true, .low), (4060, 0, false, .unknown))) := by decide +kernel

/-! ### Where the events of the axis functions fall -/

/-- A command whose event falls leaves what the cycle start leaves. -/
def falls (c : Inputs → Instr) (i : Inputs) (s : State) : Bool := ex (c i) s == ex (.cycleStart i) s

theorem witness_axisFalls :
    falls .slackRope (inputs 1) ((roped 4000).onRope fun r => { r with slack := 4 })
    ∧ falls .yieldLimit (inputs 0x40) ((dragIn .yielding).onRope fun r =>
        { r with yieldSent := false, yieldCount := 199 })
    ∧ falls .yieldWaitExpiry (inputs 0x41) ((dragIn .yielded).onRope fun r => { r with yieldWait := 199 })
    ∧ falls .transferFailed (inputs 0x41) ((walkIn .transferring).onWalk fun k => { k with stateCount := 29 })
    ∧ falls .transferFailed (inputs 0x81) ((walkIn .returning).onWalk fun k => { k with stateCount := 29 })
    ∧ falls .contactorDisagree (inputs 0x01) ((dragIn .digging).onContactor fun c => { c with disagree := 5 })
    ∧ falls .contactorDisagree (inputs 0x01) ((dragIn .yielded).onContactor fun c => { c with disagree := 30 })
    ∧ falls .contactorContrary (inputs 0x41) ((walkIn .ready).onContactor fun c => { c with contrary := 30 })
    ∧ falls .stepOvertime (inputs 0x81) ((walkIn .stepping).onWalk fun k => { k with stepCount := 1499 })
    ∧ (let s := { walkIn .asking with
         walk := { (walkIn .asking).walk with askWait := 19, coil := false },
         ring := { hoist.ring with lastWalkMode := true } }
       falls .askWaitExpiry (inputs 0x41) s = true
       ∧ (ex (.cycleStart (inputs 0x41)) s).ring.currentWalkMode = true) := by decide +kernel

/-! ### Bulletins passed on (R3) -/

/-- A station in LINE FAULT. -/
def cut (s : State) : State := s.onLine fun l => { l with state := .lineFault }

theorem witness_passedOn : PassedOn .pace (bulletin 5 15 [0, 101]) (cut hoist)
    ∧ PassedOn .trip stopTrip (cut hoist) ∧ PassedOn .restart (bulletin 5 15 []) (cut (tripped hoist))
    ∧ PassedOn .alarmAck ackAt95 (cut threeAlarms)
    ∧ PassedOn .alarm (overloadIs false .activeUnack) (cut cab)
    ∧ PassedOn .xferAbort (bulletin 6 15 [0]) (cut (dragIn .yielded))
    ∧ PassedOn .xferDone (bulletin 6 15 [7]) (cut cab)
    ∧ PassedOn .status (dragStatus false 9) (cut lender)
    ∧ PassedOn .status (bulletin 2 15 (StatusFields.words {})) listening
    ∧ PassedOn .reference (referenceFor 101) (cut hoist) := by
  and_intros <;> constructor <;> decide +kernel

theorem test_passedOn :
    (let s := cut hoist
     (ex (paceOf 101) s).time.cycle = 101 ∧ (ex (paceOf 101) s).time.longCount = 1
     ∧ (ex (paceOf 101) s).line.ackSlot = false
     ∧ (ex (.trip stopTrip) s).alarms.mode = .tripped
     ∧ (ex (.reference (referenceFor 101)) s).ring.slots.length = 1
     ∧ (ex (.status (dragStatus false 9)) s).line.ackSlot = false)
    ∧ (ex (.xferAbort (bulletin 6 15 [0])) (cut (dragIn .yielded))).rope.reclaimPending = true
    ∧ (ex (.xferDone (bulletin 6 15 [7])) (cut cab)).cab.xferHeard = some ⟨6, 15, .xferDone, [7], true⟩
    ∧ (ex (.trip stopTrip) listening).alarms.mode = .tripped := by decide +kernel

/-- A realignment brings no cycle start, an advance brings one (R25, R29). -/
theorem test_pace_cycle : (ex (paceOf 100) hoist).time.longCount = 0
    ∧ (ex (paceOf 101) hoist).time.longCount = 1 ∧ (ex (paceOf 99) hoist).time.longCount = 1 := by
  decide +kernel

/-! ### The transmit queue (R4, R5, R16) -/

/-- `s` with its queue. -/
def withQueue (q : List Entry) (s : State) : State := s.onLine fun l => { l with queue := q }

/-- `n` waiting bulletins of a kind. -/
def crowd (k : Kind) (n : Nat) : List Entry := List.replicate n { queued k 15 [0, 0, 0, 0, 0] with rank := 0 }

/-- The kinds a queue holds after a placement at `hoist`, and what the placement came to. -/
def placing (k : Kind) (q : List Entry) : List Kind × Bool :=
  let p := enqueue (queued k 15 []) (withQueue q hoist)
  (p.1.line.queue.map (·.kind), p.2.isIn)

theorem witness_placement :
    placing .trip (crowd .xferAsk 8) = (List.replicate 8 .xferAsk ++ [.trip], true)
    ∧ placing .pace (crowd .xferAsk 8) = (List.replicate 8 .xferAsk, false)
    ∧ placing .pace (crowd .shareAsk 2 ++ crowd .alarm 6)
        = ([.shareAsk, .shareAsk, .alarm, .alarm, .alarm, .alarm, .alarm, .pace], true)
    ∧ placing .alarm (crowd .alarm 8) = (List.replicate 8 .alarm, false)
    ∧ placing .reference (crowd .alarm 7 ++ crowd .reference 1)
        = (List.replicate 7 .alarm ++ [.reference], true)
    ∧ (enqueue (queued .reference 15 []) (withQueue (crowd .reference 1) hoist)).1.line.counters.expired
        = 1 := by decide +kernel

theorem witness_placement_evicts :
    GivesWay 0 (crowd .shareAsk 2 ++ crowd .alarm 6) 7 { queued .alarm 15 [0, 0, 0, 0, 0] with rank := 0 } := by
  constructor <;> decide +kernel

/-- The elder in flight is to leave at the end of its attempt (R16). -/
theorem test_replaced_in_flight :
    (let q := (flying hoist (queued .reference 15 [])).line.queue
     (enqueue (queued .reference 15 []) (withQueue q hoist)).1.line.queue.map (·.due))
      = [some .replaced, none] := by decide +kernel

theorem test_statusPoint :
    (let s := withQueue (crowd .status 1) { hoist with time := { hoist.time with statusDone := false } }
     let t := ex .statusPoint s
     t.line.queue.map (·.seq) = [1] ∧ t.line.counters.statusSuperseded = 1)
    ∧ (let s := flying { hoist with time := { hoist.time with statusDone := false } } (queued .pace 15 [0, 1])
       let at199 (n : Nat) := (ex .statusPoint
         { s.onLine (fun l => { l with arbitration := n }) with time := { s.time with offset := 199 } }).line.txSeq
       (at199 2, at199 1, at199 0) = (1, 0, 0)) := by decide +kernel

/-- The cells sent: 138 less 6 for a payload of two words, of which the last eight are recessive
(TABLE 1-3). -/
theorem test_sentCells :
    (let t := ex .lineIdleOffer (withQueue [queued .pace 15 [0, 1]] hoist)
     t.sent.map (fun r => (r.sender, r.kind, r.words)) = some (1, 2, [0, 1])
     ∧ t.line.arbitration = 5 ∧ t.sentCells.drop (t.sentCells.length - 8) = List.replicate 8 true) := by
  decide +kernel

/-- The sixteenth bit error in a row that is also the entry's fourth attempt. -/
theorem test_fourth_sixteenth :
    (let t := ex .bitError (flying (noisy 15) (tried 3 (queued .pace 15 [0, 1])))
     t.line.state = .lineFault ∧ t.line.counters.noTaker = 1 ∧ t.line.queue = []) := by decide +kernel

/-! ### A full alarm list and a full table (R167, R178) -/

/-- A list of 24 records of a code, the one at place 3 in a state of its own. -/
def fullList (c : AlarmCode) (st : AlarmState) : State := hoist.onAlarms fun a =>
  { a with list := (List.range 24).map fun k => ⟨c, some k, ⟨90, k⟩, if k = 3 then st else .activeAck, 0⟩ }

/-- Its details, the new record's as none, and the lost counter, after a raise. -/
def raisedFull (s : State) (code : AlarmCode) : List (Option Nat) × Nat :=
  let t := raiseQuiet code none s
  (t.alarms.list.map (·.detail), t.alarms.lost)

theorem witness_fullList :
    (let kept (k : Nat) := ((List.range 24).eraseIdx k).map some ++ [none]
     raisedFull (fullList .peerSilent .clearedUnack) .slackRope = (kept 3, 0)
     ∧ raisedFull (fullList .peerSilent .activeUnack) .slackRope = ((List.range 24).map some, 1)
     ∧ raisedFull (fullList .peerSilent .activeUnack) .overcurrent = (kept 0, 0)
     ∧ raisedFull (fullList .brakeSlip .activeUnack) .overcurrent = ((List.range 24).map some, 1)
     ∧ (raiseQuiet .slackRope none (fullList .peerSilent .activeUnack)).alarms.overflow = true) := by
  decide +kernel

theorem witness_fullList_ordered : ListsOrdered (fullList .peerSilent .clearedUnack) :=
  ordered_mk (by decide +kernel)

/-- A table of 64 records of station 2, the one at place 3 in a state of its own. -/
def fullTable (c : AlarmCode) (st : AlarmState) : State := cab.onTable fun t =>
  { t with records := (List.range 64).map fun k =>
      ⟨2, c, some k, c.severity, if k = 3 then st else .activeAck, ⟨50, k⟩, 0⟩ }

/-- Sources of the table's first and last records, its fourth's detail and the lost counter after OVERLOAD
of station 1. -/
def mergedFull (refresh : Bool) (s : State) : Option Nat × Option (Option Nat) × Nat :=
  let t := ex (.alarm (bulletin 1 15 (alarmWords ⟨.overload, none, ⟨90, 0⟩, .activeUnack, 0⟩ false refresh))) s
  ((t.table.records[63]?).map (·.source), (t.table.records[3]?).map (·.detail), t.table.lost)

theorem witness_fullTable :
    mergedFull false (fullTable .peerSilent .clearedUnack) = (some 1, some (some 4), 0)
    ∧ mergedFull false (fullTable .peerSilent .activeUnack) = (some 1, some (some 4), 0)
    ∧ mergedFull false (fullTable .brakeSlip .clearedUnack) = (some 2, some (some 3), 1)
    ∧ mergedFull true (fullTable .peerSilent .clearedUnack) = (some 2, some (some 3), 0) := by decide +kernel

/-- An update whose raised time is unchanged stays where it stands (R177). -/
theorem test_update_in_place :
    (let s := cab.onTable fun t =>
       { t with records := [⟨1, .overload, none, .warn, .activeUnack, ⟨90, 0⟩, 5⟩,
                            ⟨1, .slackRope, none, .stop, .activeUnack, ⟨90, 0⟩, 5⟩] }
     (ex (.alarm (overloadIs false .activeAck)) s).table.records.map (fun r => (r.code, r.state, r.age)))
      = [(.overload, .activeAck, 0), (.slackRope, .activeUnack, 5)] := by decide +kernel

/-! ### The cab's cycle and its lamps (R56 to R60, R181 to R183) -/

/-- The cab's cycle start with four channels reading `x` and levels of its inputs. -/
def cabCycleAt (x : BitVec 12) (din : Byte) (s : State) : State := ex (.cycleStart ⟨x, x, x, x, din⟩) s

/-- The handle references of the REFERENCE it places. -/
def handlesOf (s : State) : List (Int × Bool) :=
  match s.line.queue.find? fun e => e.kind == .reference with
  | some e => let r := ReferenceFields.ofWords e.words
              [(r.hoist, r.validHoist), (r.walk, r.validWalk)]
  | none => []

theorem witness_handles :
    handlesOf (cabCycleAt 2048 0 cab) = [(0, true), (0, true)]
    ∧ handlesOf (cabCycleAt 2108 0 cab) = [(0, true), (0, true)]
    ∧ handlesOf (cabCycleAt 2109 0 cab) = [(33, true), (33, true)]
    ∧ handlesOf (cabCycleAt 100 0 cab) = [(-1000, true), (-1000, true)]
    ∧ handlesOf (cabCycleAt 3995 0 cab) = [(1000, true), (1000, true)]
    ∧ handlesOf (cabCycleAt 99 0 cab) = [(0, false), (0, false)]
    ∧ handlesOf (cabCycleAt 3996 0 cab) = [(0, false), (0, false)] := by decide +kernel

theorem witness_handleFault :
    (let t := cabCycleAt 99 0 cab
     t.cab.handleFault = [true, true, true, true]
     ∧ t.alarms.list.map (fun r => (r.code, r.detail)) = [(.handleFault, some 0), (.handleFault, some 1),
         (.handleFault, some 2), (.handleFault, some 3)]
     ∧ (cabCycleAt 2048 0 t).alarms.list.map (·.state) = List.replicate 4 .clearedUnack) := by
  decide +kernel

/-- Kinds the cab sends at a cycle start at which both buttons go from EDGE to DOWN. -/
def pressed (s : State) : List Kind × Nat :=
  let t := cabCycleAt 2048 3 (s.onCab fun c => { c with ackButton := .edge, restartButton := .edge })
  (t.line.queue.map (·.kind), t.table.refusalFlash)

theorem witness_presses :
    pressed cab = ([.pace, .restart, .alarmAck, .reference], 0)
    ∧ pressed cabFloating = ([.pace, .alarmAck, .reference], 50)
    ∧ (cabCycleAt 2048 3 (cab.onCab fun c => { c with ackButton := .up })).cab.ackButton = .edge
    ∧ (cabCycleAt 2048 3 (cab.onCab fun c => { c with ackButton := .edge })).cab.ackButton = .down
    ∧ (cabCycleAt 2048 2 (cab.onCab fun c => { c with ackButton := .edge })).cab.ackButton = .up
    ∧ (cabCycleAt 2048 4 cab).cab.walkMode = false
    ∧ (cabCycleAt 2048 4 (cabCycleAt 2048 4 cab)).cab.walkMode = true := by decide +kernel

/-- A cab in LINE FAULT at which a return is refused after the press of RESTART, a TRIP record in its table. -/
def droppingCab : State :=
  { cut cabFloating with
    share := { cab.share with borrowed := 6, borrowedRecords := [⟨2, 6, 30, 4, .shedding, 4, 19, none⟩] } }

theorem witness_pressThenDrop : ListsOrdered droppingCab ∧ LoanDropsCleared droppingCab
    ∧ (let t := cabCycleAt 2048 2 (droppingCab.onCab fun c => { c with restartButton := .edge })
       t.table.refusalFlash = 50 ∧ t.alarms.list.map (fun r => (r.code, r.state))
         = [(.shareLoanDropped, .clearedUnack)]) :=
  ⟨ordered_mk (by decide +kernel), by constructor <;> decide +kernel, by decide +kernel⟩

theorem witness_lamps : cab.discreteOutputs = 0 ∧ hoist.discreteOutputs = 0
    ∧ cabFloating.discreteOutputs = 0xA1
    ∧ (cabFloating.onTable fun t => { t with flashPhase := true }).discreteOutputs = 0xA3 := by decide +kernel

/-! ### The drag's answer (R128) -/

theorem witness_refuseOutcome :
    (let s := flying (dragIn .yielded) (tried 3 (queued .xferRefuse 6 (reasonWords 1)))
     (ex (.attemptEnd false) s).rope.ownership = .yielded ∧ (ex (.attemptEnd true) s).line.queue = []) := by
  decide +kernel

/-! ### A borrower's returns (R108, R111, R112) -/

/-- `hoist` returning 4 of its 6 tokens borrowed of station 2 under grant 4. -/
def returning (grant : Word) : State := borrower.onShare fun h =>
  { h with borrowedRecords := [⟨2, 6, 1, grant, .returning, 4, 0, some (4, 4)⟩] }

/-- Borrowed tokens, the records' counts and states, and the alarm details after the outcome. -/
def outcome (acked muted : Bool) (s : State) : Nat × List (Nat × ReturnState) × List (Option Nat) :=
  let e : Entry := { queued .shareReturn 2 (grantWords 4 4) with muted }
  let t := ex (.attemptEnd acked) (flying s (tried 3 e))
  (t.share.borrowed, t.share.borrowedRecords.map (fun r => (r.count, r.state)), t.alarms.list.map (·.detail))

theorem witness_returnOutcomes :
    [outcome true false (returning 4), outcome true false (returning 5), outcome false false (returning 4),
      outcome false false (returning 5), outcome false true borrower, outcome true true borrower]
    = [(2, [(2, .holding)], []), (6, [(6, .holding)], []), (0, [], [some 2]),
      (6, [(6, .holding)], [some 2]), (6, [(6, .holding)], []), (6, [(6, .holding)], [])]
    ∧ ((returning 4).share.borrowedRecords.map (·.peer)).Nodup := by decide +kernel

/-- A borrower of no own tokens shedding 3 of its 6, its shed wait at `n`. -/
def shedding (n : Nat) : State := (referred 300 borrower).onShare fun h =>
  { h with own := 0, borrowedRecords := [⟨2, 6, 5, 4, .shedding, 3, n, none⟩] }

theorem witness_shedReturn :
    (let t := ex (.cycleStart (inputs 1)) (shedding 0)
     t.drive.demand = 0 ∧ t.share.borrowedRecords = [⟨2, 6, 5, 4, .returning, 3, 1, some (3, 4)⟩]
     ∧ t.line.queue.any (fun e => e.words == grantWords 3 4) = true)
    ∧ (let i : Inputs := { inputs 1 with ch0 := 2748, ch1 := 2748 }
       ((ex (.cycleStart i) (shedding 18)).share.borrowedRecords.map (·.state)) = [.shedding]
       ∧ ((ex (.cycleStart i) (shedding 19)).share.borrowedRecords.map (·.state)) = [.returning]) := by
  decide +kernel

/-! ### Order in the queue and the PROBE of the rejoin -/

/-- The kinds the drag's yield leaves over a SHARE-ASK of the same instant, with `own` tokens of its own and a
reserve of 10. -/
def yielded (own : Nat) : List Kind :=
  let s := (withQueue [queued .shareAsk 1 []] (dragIn .yielding)).onShare fun h => { h with own }
  (sendYield s).line.queue.map (·.kind)

/-- The same for the walk's release, with `records` to return. -/
def released (records : List BorrowedRecord) : List Kind :=
  let s := (withQueue [queued .shareAsk 1 []] (walkIn .returning)).onShare fun h =>
    { h with borrowed := 6 * records.length, borrowedRecords := records }
  (returningCycle { s with inputs := inputs 0x41 }).line.queue.map (·.kind)

/-- A bulletin placed after those of another kind takes their place only where one was admitted (R15). -/
theorem test_rank_after : yielded 10 = [.xferYield, .shareAsk] ∧ yielded 24 = [.shareAsk, .shareGrant, .xferYield]
    ∧ released [] = [.xferRelease, .shareAsk]
    ∧ released [⟨1, 6, 5, 4, .holding, 0, 0, none⟩] = [.shareAsk, .shareReturn, .xferRelease]
    ∧ (cabCycleAt 99 0 cab).line.queue.map (·.kind) = [.pace, .alarm, .alarm, .alarm, .alarm, .reference] := by
  decide +kernel

/-- `faulted`, REJOINING since its 64th cycle start, after a status point (R48) at an offset of its own. -/
def rejoinAt (point : Nat) : State :=
  let s := faulted.onStartup fun u => { u with settings := { u.settings with globals :=
    { u.settings.globals with statusPoint := point } } }
  ex .statusPoint (ex (.lineRejoin (inputs 1)) s)

/-- The PROBE has the sequence number of its attempt's begin (R5), so its own cells pass after a later status
point. -/
theorem test_rejoin_sequence :
    [rejoinAt 0, rejoinAt 1].map (fun s => (s.picture.seq, s.probe.seq)) = [(1, 1), (1, 0)]
    ∧ (ex (.rejoinTestEnd (rejoinAt 1).probe.cells) (rejoinAt 1)).line.state = .active := by decide +kernel

/-- The own STATUS is copied as sent, a count above 64 too, which a peer's STATUS must not carry (R47, R193). -/
theorem test_own_status_copied :
    (let e (n : Nat) := queued .status 15 (StatusFields.words { role := .hoist, borrowed := n })
     let copied (n : Nat) := ((ex (.attemptEnd true) (flying hoist (e n))).peer 1).status.borrowed
     (copied 70, StatusFields.ofWords (e 70).words, copied 64) = (70, none, 64)) := by decide +kernel

/-! ### Queries and the join -/

theorem witness_queryAnswered : asked.statusOffset ≠ 0 ∧ asked.line.state = .active
    ∧ (ex (.cycleStart (inputs 1)) asked).line.queries.length = 2
    ∧ (ex (.cycleStart (inputs 1)) asked).line.queue.map (·.kind) = [.pace, .reply]
    ∧ (ex (.cycleStart (inputs 1)) (withQueue (crowd .reply 8) asked)).line.queries.length = 3 := by
  decide +kernel

/-! ### Edges (R31, R33, R134 to R137) -/

/-- No selected edge of either unit. -/
theorem noEdges_mk {b n : Byte} {s : State}
    (h : showsSlave s.params.unit0 b n none = false ∧ showsMaster s.params.unit0 b n = false
      ∧ showsSlave s.params.unit1 b n none = false ∧ showsMaster s.params.unit1 b n = false) :
    NoEdges b n s
  | .unit0 => ⟨h.1, h.2.1⟩
  | .unit1 => ⟨h.2.2.1, h.2.2.2⟩

theorem witness_noEdges : NoEdges 0 0x41 dragRunning ∧ NoEdges 4 0 hoist ∧ ¬ NoEdges 0 4 hoist :=
  ⟨noEdges_mk (by decide +kernel), noEdges_mk (by decide +kernel),
    fun h => absurd (h .unit0).2 (by decide +kernel)⟩

/-- `hoist` whose unit 0 takes input 2 rising for both edges, and whose unit 1 takes it for its master. -/
def sharing : State := hoist.onStartup fun u => { u with settings := { u.settings with params :=
  { u.settings.params with
    unit0 := { masterInput := 2, masterRising := true, slaveSource := 1, slaveInput := 2, slaveRising := true,
               lead := 0 }
    unit1 := { masterInput := 2, masterRising := true } } } }

theorem witness_sharedEdge : bothEdges sharing.params.unit0
    ∧ selects sharing.params.unit1 sharing.params.unit0.masterInput sharing.params.unit0.masterRising :=
  ⟨⟨rfl, rfl, rfl⟩, .inr ⟨rfl, rfl⟩⟩

/-- One change of level is unit 0's slave edge and then its master edge, and unit 1's master edge. -/
theorem test_sharedEdge :
    (let t := ex (.masterEdge .unit0) sharing
     (t.unit0.slaveCount, t.unit0.masterCount, t.unit1.masterCount) = (1, 1, 1)
     ∧ (t.unit0.lastResult.bind (·.slave)).map (·.difference) = some 0
     ∧ t.inputs.din = 4 ∧ (ex (.masterEdge .unit0) t).inputs.din = 4)
    ∧ (ex (.ownedHookLoss 4) hoist).unit0.masterCount = 1
    ∧ (ex (.ownedHookLoss 0) hoist).unit0.masterCount = 0
    ∧ (ex (.ownedHookLoss 4) listening).unit0.masterCount = 0 := by decide +kernel

/-- `swing` at encoder count `n` with a slave edge taken at 120,000 (angle 1200, the mark angle) and its
base. -/
def marked (n : DWord) (base : Nat) (cal : Bool) : State :=
  { (swing.onSwing fun w => { w with calibrated := cal, circle := ⟨0, some 0, base, base⟩ }) with
    encoder := n,
    unit0 := { slaveQueue := [⟨⟨100, 1⟩, 120000⟩, ⟨⟨100, 0⟩, 120000⟩], slaveCount := 2 } }

/-- Base, mark error and calibrated state after a master edge, and the codes raised. -/
def afterMark (s : State) : Nat × Int × Bool × List AlarmCode :=
  let t := ex (.masterEdge .unit0) s
  (t.swing.circle.base, t.swing.markError, t.swing.calibrated, t.alarms.list.map (·.code))

theorem witness_swingMark :
    [afterMark (marked 120010 0 false), afterMark (marked 120010 20 true), afterMark (marked 120010 21 true),
      afterMark (marked 120010 3590 true), afterMark (marked 120000 30 true), afterMark (marked 119990 30 false)]
    = [(0, 0, true, []), (0, -20, true, []), (21, -21, true, [.swingMarkMismatch]), (0, 10, true, []),
      (30, 0, true, []), (30, 0, false, [])] := by decide +kernel

/-- The swing count, angle and parked report after a cycle start that moves a swing count by `n`. -/
def swung (count : Nat) (n : DWord) (cal : Bool) : Nat × Nat × Bool :=
  let s := { (swing.onSwing fun w => { w with calibrated := cal, circle := ⟨count, some 0, 0, 0⟩ }) with
             encoder := n }
  let t := ex (.cycleStart (inputs 1)) (s.onDrive fun d => { d with prevEncoder := some 0 })
  (t.swing.circle.count, t.swing.circle.angle, t.swing.parked)

/-- The walk angle is 1200, its window 50; 2 counts of 500 are 4 per mille, 3 are 6. -/
theorem witness_swingCycle :
    [swung 359999 1 true, swung 0 (-1) true, swung 119998 2 true, swung 119998 2 false, swung 119997 3 true]
      = [(0, 0, false), (359999, 3599, false), (120000, 1200, true), (120000, 1200, false),
         (120000, 1200, false)]
    ∧ [swung 115000 0 true, swung 114999 0 true, swung 125099 0 true, swung 125100 0 true].map (·.2.2)
      = [true, false, true, false] := by decide +kernel

/-- The calibrated state a mark sets enters the STATUS at the next cycle start (R117). -/
theorem test_calibrated_report :
    (let t := ex (.masterEdge .unit0) hoist
     t.rope.calibrated = true ∧ t.calibratedField = false
     ∧ (ex (.cycleStart (inputs 5)) t).calibratedField = true) := by decide +kernel

/-! ### The emergency input away from the cab -/

theorem witness_stopElsewhere : hoist.role ≠ .cab ∧ NoEdges 0 8 hoist
    ∧ (ex (.operatorStop 8) hoist).alarms = hoist.alarms
    ∧ (ex (.operatorStop 8) listening).inputs.din = 8 :=
  ⟨by decide +kernel, noEdges_mk (by decide +kernel), by decide +kernel⟩

/-- With the reserved entry taken and eight bulletins waiting, the TRIP of OPERATOR STOP evicts the newest
SHARE-RETURN, whose loan is dropped (R16, R108). -/
theorem test_stop_evicts :
    (let q := { queued .trip 15 [] with reserved := true } :: (crowd .pace 7 ++ [queued .shareReturn 2 (grantWords 4 4)])
     (ex (.operatorStop 8) (withQueue q cab)).alarms.list.map (·.code)) = [.operatorStop, .shareLoanDropped] := by
  decide +kernel

/-- A held DUPLICATE STATION whose count ends before the join is not raised there (R11, log entry 31). -/
theorem test_duplicate_dropped :
    (let s := heard.onLine fun l => { l with dupCount := 63, dupCounting := true, dupHeld := true }
     let t := ex (.cycleStart (inputs 0)) s
     t.line.dupHeld = false ∧ t.line.dupCounting = false
     ∧ (ex (.listenTimerExpiry (inputs 0)) t).alarms.list.map (·.code) = [.stationStarted]) := by
  decide +kernel

end Sys2Proof.Tests
end

section
/-! PROOFS. Reading bulletins (R8): what a discarded bulletin counts. -/

namespace Sys2Proof.Machine

theorem reads_untaken (s : State) : reads (untaken s) = reads s := rfl

/-- A format error: the one counter moves, and the slot is left (R8). -/
def formatError (s : State) : State :=
  (untaken s).count fun c => { c with formatErrors := bump c.formatErrors }

/-- A check error: the one counter moves, and the slot is left (R8). -/
def checkError (s : State) : State :=
  (untaken s).count fun c => { c with checkErrors := bump c.checkErrors }

theorem formatError_line (s : State) : (formatError s).line = { (untaken s).line with counters :=
    { s.line.counters with formatErrors := min 65535 (s.line.counters.formatErrors + 1) } } := rfl

theorem checkError_line (s : State) : (checkError s).line = { (untaken s).line with counters :=
    { s.line.counters with checkErrors := min 65535 (s.line.counters.checkErrors + 1) } } := rfl

theorem formatError_frame (s : State) : Frame [.line] (begin s) (formatError s) :=
  (untaken_frame s).trans (count_frame _ _)

theorem checkError_frame (s : State) : Frame [.line] (begin s) (checkError s) :=
  (untaken_frame s).trans (count_frame _ _)

/-! ### BULLETIN_DISCARD -/

/-- What BULLETIN_DISCARD does at a station that reads the line: the format is judged before the check. -/
theorem exec_bulletinDiscard (r : RawBulletin) {s : State} (hr : reads s = true) :
    exec (.bulletinDiscard r) s = .next
      (if r.formatHolds = false then formatError s
       else if r.check ≠ r.computedCheck then checkError s else untaken s) := by
  simp only [exec, execBulletinDiscard, setAck_begin_false, reads_untaken, hr, Bool.not_true,
    Bool.false_eq_true, if_false, Bool.not_eq_true', formatError, checkError]
  split
  · rfl
  · split <;> rfl

/-! ### The received commands -/

/-- The command of a received bulletin is `receive` of it, with some act of the owning block. Each command that
carries a bulletin is so by its arm of the dispatch; the others carry none. -/
theorem exec_of_bulletin {c : Instr} {k : Kind} {b : Bulletin} (h : c.bulletin? = some (k, b)) :
    ∃ act : State → State, ∀ s, exec c s = .next (receive k b act (begin s)) := by
  cases c <;> cases h <;> exact ⟨_, fun _ => rfl⟩

/-- An ill-formed bulletin is a format error: the owning block does not act (R8). -/
theorem receive_illFormed {k : Kind} {b : Bulletin} {s : State} (hr : reads s = true)
    (hf : b.wf k = false) (act : State → State) : receive k b act (begin s) = formatError s := by
  have hf' : formatHolds k b.target b.words.length = false := hf
  simp only [receive, setAck_begin_false, reads_untaken, hr, hf', Bool.not_true, Bool.not_false,
    Bool.false_eq_true, if_false, if_true, formatError]

end Sys2Proof.Machine

open Sys2Proof Sys2Proof.Machine

/-- Settles O22: the format is judged first, so that a discard is one error or the other; a received command
reaches the same count through `receive`, before its owner could act. -/
theorem discardCountsOnce : Obligations.DiscardCountsOnce := by
  refine ⟨fun r s hr => ⟨_, exec_bulletinDiscard r hr, ?_, fun hf => ?_, fun hf hc => ?_⟩,
    fun c k b s hb hr hwf => ?_⟩
  · exact .ite (formatError_frame s) (.ite (checkError_frame s) (untaken_frame s))
  · rw [if_pos hf, formatError_line]
  · rw [if_neg (by simp [hf]), if_pos hc, checkError_line]
  · obtain ⟨act, hact⟩ := exec_of_bulletin hb
    have ht : exec c s = .next (formatError s) := by rw [hact, receive_illFormed hr hwf]
    exact ⟨formatError s, ht, formatError_frame s, formatError_line s⟩
end

section
/-! PROOFS. The ring's rule on a REFERENCE (R63, R64, R70, TABLE 4-6). -/

namespace Sys2Proof.Machine

/-! ### A bulletin that reaches its owning block (R3, R9) -/

/-- A broadcast passed on is handed to its owner, the slot left undriven (R3). -/
theorem receive_passedOn {k : Kind} {b : Bulletin} {s : State} (h : PassedOn k b s)
    (act : State → State) : receive k b act (begin s) = act (untaken s) := by
  have hr : reads (untaken s) = true := by
    rw [reads_untaken]; unfold reads; rcases h.listens with hl | hl <;> rw [hl] <;> rfl
  have hf : formatHolds k b.target b.words.length = true := h.form
  have ho : (b.sender.toNat == (untaken s).station) = false := beq_eq_false_iff_ne.2 h.other
  have hm : hasRoom k (untaken s) = true := by
    have hq : k ≠ .query := by rintro rfl; cases h.broadcast
    unfold hasRoom; rw [bne_iff_ne.2 hq, Bool.true_or]
  have ha : (untaken s).line.state ≠ .active := by
    change s.line.state ≠ .active
    rcases h.listens with hl | hl <;> rw [hl] <;> decide
  simp only [receive, setAck_begin_false, hr, hf, ho, judge, filterPasses_untaken, h.passes, hm, ha,
    h.broadcast, Bool.not_true, Bool.and_false, Bool.and_self, Bool.false_eq_true, if_false, if_true]

/-- A bulletin that reaches its owning block is the owner's act on the state handed to it. -/
theorem receive_reaches {k : Kind} {b : Bulletin} {s : State} (h : Reaches k b s)
    (act : State → State) : receive k b act (begin s) = act (handed s) := by
  rcases h with ht | hp
  · rw [receive_taken ht, handed, if_pos ht.active]
  · have ha : s.line.state ≠ .active := by rcases hp.listens with hl | hl <;> rw [hl] <;> decide
    rw [receive_passedOn hp, handed, if_neg ha]

theorem handed_frame (s : State) : Frame [.line] (begin s) (handed s) :=
  .ite (taken_frame s) (untaken_frame s)

@[simp] theorem handed_counters (s : State) : (handed s).line.counters = s.line.counters := by
  unfold handed; split <;> rfl

@[simp] theorem handed_ring (s : State) : (handed s).ring = s.ring := by
  unfold handed; split <;> rfl

@[simp] theorem handed_time (s : State) : (handed s).time = s.time := by
  unfold handed; split <;> rfl

@[simp] theorem handed_role (s : State) : (handed s).role = s.role := by
  unfold handed; split <;> rfl

@[simp] theorem handed_globals (s : State) : (handed s).globals = s.globals := by
  unfold handed; split <;> rfl

@[simp] theorem handed_numberOf (r : Role) (s : State) : (handed s).numberOf r = s.numberOf r := by
  unfold handed; split <;> rfl

/-! ### What the slots hold after a write (R64) -/

theorem slotEntry_emptySlot_of_ne {n m : Nat} (h : n ≠ m) (l : List RingEntry) :
    slotEntry n (emptySlot m l) = slotEntry n l := by
  unfold slotEntry emptySlot
  rw [List.find?_filter]
  congr 1
  funext x
  by_cases hx : slotOf x.tag = n
  · simp [hx, h]
  · simp [hx]

theorem slotEntry_cons_same {n : Nat} {e : RingEntry} (h : slotOf e.tag = n) (l : List RingEntry) :
    slotEntry n (e :: l) = some e :=
  List.find?_cons_of_pos (by simpa using h)

theorem slotEntry_cons_of_ne {n : Nat} {e : RingEntry} (h : slotOf e.tag ≠ n) (l : List RingEntry) :
    slotEntry n (e :: l) = slotEntry n l :=
  List.find?_cons_of_neg (by simpa using h)

/-- An entry put among entries of other slots is the one its slot holds. -/
theorem slotEntry_putSorted_same {e : RingEntry} {l : List RingEntry}
    (hn : ∀ x ∈ l, slotOf x.tag ≠ slotOf e.tag) :
    slotEntry (slotOf e.tag) (putSorted e l) = some e := by
  induction l with
  | nil => exact slotEntry_cons_same rfl _
  | cons y l ih =>
    obtain ⟨hy, hl⟩ := List.forall_mem_cons.1 hn
    unfold putSorted; split
    · exact slotEntry_cons_same rfl _
    · rw [slotEntry_cons_of_ne hy, ih hl]

theorem slotEntry_putSorted_of_ne {n : Nat} {e : RingEntry} (h : slotOf e.tag ≠ n)
    (l : List RingEntry) : slotEntry n (putSorted e l) = slotEntry n l := by
  induction l with
  | nil => exact slotEntry_cons_of_ne h _
  | cons y l ih =>
    unfold putSorted; split
    · exact slotEntry_cons_of_ne h _
    · by_cases hy : slotOf y.tag = n
      · rw [slotEntry_cons_same hy, slotEntry_cons_same hy]
      · rw [slotEntry_cons_of_ne hy, slotEntry_cons_of_ne hy, ih]

theorem slotEntry_writeSlot_same (e : RingEntry) (l : List RingEntry) :
    slotEntry (slotOf e.tag) (writeSlot e l) = some e :=
  slotEntry_putSorted_same fun x hx => by simpa [emptySlot] using (List.mem_filter.1 hx).2

theorem slotEntry_writeSlot_of_ne {n : Nat} {e : RingEntry} (h : n ≠ slotOf e.tag)
    (l : List RingEntry) : slotEntry n (writeSlot e l) = slotEntry n l := by
  rw [writeSlot, slotEntry_putSorted_of_ne h.symm, slotEntry_emptySlot_of_ne h]

/-- A rewrite is counted where the slot held an entry of the same tag. -/
theorem storeEntry_rewritten_of_same {e : RingEntry} {r : Ring}
    (h : ∃ x, slotEntry (slotOf e.tag) r.slots = some x ∧ x.tag = e.tag) :
    (storeEntry e r).rewritten = min 65535 (r.rewritten + 1) :=
  if_pos (by simpa [Option.any_eq_true] using h)

theorem storeEntry_rewritten_of_other {e : RingEntry} {r : Ring}
    (h : ¬ ∃ x, slotEntry (slotOf e.tag) r.slots = some x ∧ x.tag = e.tag) :
    (storeEntry e r).rewritten = r.rewritten :=
  if_neg (by simpa [Option.any_eq_true] using h)

/-! ### The rule on an arriving REFERENCE (TABLE 4-6) -/

theorem count_counters (s : State) (g : LineCounters → LineCounters) :
    (s.count g).line.counters = g s.line.counters := rfl

theorem count_ring (s : State) (g : LineCounters → LineCounters) : (s.count g).ring = s.ring := rfl

theorem ruleReference_late {e : RingEntry} {s : State}
    (h : tagDistance e.tag s.time.cycle = 0 ∨ 32768 ≤ tagDistance e.tag s.time.cycle) :
    ruleReference e s = s.count fun c => { c with lateReferences := bump c.lateReferences } :=
  if_pos h

theorem ruleReference_outOfWindow {e : RingEntry} {s : State}
    (hw : s.globals.window < tagDistance e.tag s.time.cycle)
    (h : tagDistance e.tag s.time.cycle < 32768) :
    ruleReference e s = s.count fun c => { c with outOfWindow := bump c.outOfWindow } :=
  (if_neg (by omega)).trans (if_neg (by omega))

theorem ruleReference_stored {e : RingEntry} {s : State}
    (h1 : 1 ≤ tagDistance e.tag s.time.cycle)
    (hw : tagDistance e.tag s.time.cycle ≤ s.globals.window)
    (h : tagDistance e.tag s.time.cycle < 32768) :
    ruleReference e s = s.onRing (storeEntry e) :=
  (if_neg (by omega)).trans (if_pos hw)

theorem ruleReference_frame (e : RingEntry) (s : State) : Frame [.line, .ring] s (ruleReference e s) :=
  .ite ((count_frame s _).mono (by decide))
    (.ite ((onRing_frame s _).mono (by decide)) ((count_frame s _).mono (by decide)))

/-- The ring uses no REFERENCE of another station, and none while the timer stands stopped (R63, R70). -/
theorem takeReference_unused {b : Bulletin} {s : State}
    (h : s.numberOf .cab ≠ some b.sender.toNat ∨ s.time.running = false) :
    takeReference b s = s :=
  if_neg fun ⟨_, hrun, hcab⟩ => h.elim (· hcab) (by simp [hrun])

theorem takeReference_used {b : Bulletin} {s : State} (hx : s.role.isAxis = true)
    (hcab : s.numberOf .cab = some b.sender.toNat) (hrun : s.time.running = true) :
    takeReference b s = ruleReference ((ReferenceFields.ofWords b.words).entryFor s.role) s :=
  if_pos ⟨hx, hrun, hcab⟩

theorem exec_reference {b : Bulletin} {s : State} (h : Reaches .reference b s) :
    exec (.reference b) s = .next (takeReference b (handed s)) :=
  congrArg Host.Outcome.next (receive_reaches h (takeReference b))

end Sys2Proof.Machine

open Sys2Proof Sys2Proof.Machine

/-- Settles O39: the REFERENCE reaches `takeReference` on `handed s`, and each row of TABLE 4-6 is one outcome
of `ruleReference`: a count, another count, or one slot written. -/
theorem referenceRuled : Obligations.ReferenceRuled := by
  intro b s hreach hx
  rw [exec_reference hreach]
  refine ⟨fun hun => ?_, fun hcab hrun => ?_⟩
  · rw [takeReference_unused (by simpa using hun)]
  rw [takeReference_used (by simpa using hx) (by simpa using hcab) (by simpa using hrun), handed_role]
  refine ⟨_, rfl, ((handed_frame s).mono (by decide)).trans (ruleReference_frame _ _), ?_⟩
  intro e d
  have hd : tagDistance e.tag (handed s).time.cycle = d := by rw [handed_time]; rfl
  have hw : (handed s).globals.window = s.globals.window := by rw [handed_globals]
  rw [← hd, ← hw]
  refine ⟨fun hlate => ?late, fun hout hlow => ?outOfWindow, fun hpos hin hlow => ?stored⟩
  case late =>
    rw [ruleReference_late hlate, count_ring, count_counters, handed_ring, handed_counters]
    exact ⟨rfl, rfl⟩
  case outOfWindow =>
    rw [ruleReference_outOfWindow hout hlow, count_ring, count_counters, handed_ring, handed_counters]
    exact ⟨rfl, rfl⟩
  case stored =>
    rw [ruleReference_stored hpos hin hlow, State.onRing_ring, handed_ring]
    exact ⟨rfl, slotEntry_writeSlot_same e _, fun n hn => slotEntry_writeSlot_of_ne hn _,
      storeEntry_rewritten_of_same, storeEntry_rewritten_of_other, rfl⟩
end

section
/-! PROOFS. What a SHARE-RECALL does to the borrower's records (R97, R110, TABLE 6-4). -/

namespace Sys2Proof.Machine

/-- A borrowed record after a SHARE-RECALL of `c` tokens by `peer`: the row of TABLE 6-4 of its state, where it
is that peer's. -/
def recallRow (peer c : Nat) (r : BorrowedRecord) : BorrowedRecord :=
  if r.peer = peer then
    match r.state with
    | .holding => { r with state := .shedding, shed := min c r.count, shedWait := 0 }
    | .shedding => { r with shed := max r.shed (min c r.count) }
    | .returning => r
  else r

section
variable {peer c : Nat} {r : BorrowedRecord}

theorem recallRow_of_ne (hp : r.peer ≠ peer) : recallRow peer c r = r := if_neg hp

theorem recallRow_of_holding (hp : r.peer = peer) (h : r.state = .holding) :
    recallRow peer c r = { r with state := .shedding, shed := min c r.count, shedWait := 0 } := by
  rw [recallRow, if_pos hp, h]

theorem recallRow_of_shedding (hp : r.peer = peer) (h : r.state = .shedding) :
    recallRow peer c r = { r with state := .shedding, shed := max r.shed (min c r.count) } := by
  rw [recallRow, if_pos hp, h]

theorem recallRow_of_returning (hp : r.peer = peer) (h : r.state = .returning) :
    recallRow peer c r = r := by
  rw [recallRow, if_pos hp, h]

end

/-- A fresh station acts on no SHARE-RECALL (R97). -/
theorem takeRecall_fresh {b : Bulletin} {s : State} (h : s.share.fresh = true) : takeRecall b s = s :=
  if_pos h

/-- A station not fresh takes a SHARE-RECALL record by record, its count held to 1 to 64 (R110). -/
theorem takeRecall_notFresh {b : Bulletin} {s : State} (h : s.share.fresh = false) :
    takeRecall b s = s.onShare fun x =>
      { x with borrowedRecords := x.borrowedRecords.map
                (recallRow b.sender.toNat (clampNat 1 Config.tokens (countOf b.words))) } := by
  simp only [takeRecall, h, Bool.false_eq_true, if_false, beq_iff_eq]
  rfl

theorem takeRecall_frame (b : Bulletin) (s : State) : Frame [.share] s (takeRecall b s) :=
  .ite (.refl _ _) (onShare_frame _ _)

theorem exec_shareRecall {b : Bulletin} {s : State} (h : Takes .shareRecall b s) :
    exec (.shareRecall b) s = .next (takeRecall b (taken s)) :=
  congrArg Host.Outcome.next (receive_taken h (takeRecall b))

end Sys2Proof.Machine

open Sys2Proof Sys2Proof.Machine

/-- Settles O37: the SHARE-RECALL reaches `takeRecall` on `taken s`, which leaves a fresh station as it is and
else maps `recallRow`, one row of TABLE 6-4 per return state, over the borrowed records. -/
theorem recallTakenSheds : Obligations.RecallTakenSheds := by
  intro b s ht
  have hshare : (taken s).share = s.share := rfl
  rw [exec_shareRecall ht, ← hshare]
  refine ⟨fun hfresh => by rw [takeRecall_fresh hfresh], fun hfresh => ⟨_, rfl, ?frame, ?line, ?share⟩⟩
  case frame => exact (taken_frame s).comp (takeRecall_frame b _) (by decide) (by decide)
  case line => rw [takeRecall_notFresh hfresh, State.onShare_line]
  case share =>
    rw [takeRecall_notFresh hfresh, State.onShare_share]
    refine congrArg (fun l => { (taken s).share with borrowedRecords := l })
      (List.map_congr_left fun r _ => ?_)
    by_cases hp : r.peer = b.sender.toNat
    · rw [if_neg (not_not_intro hp)]
      cases hr : r.state with
      | holding => exact recallRow_of_holding hp hr
      | shedding => exact recallRow_of_shedding hp hr
      | returning => exact recallRow_of_returning hp hr
    · rw [if_pos hp, recallRow_of_ne hp]
end

section
/-! PROOFS. The drag's answer to the XFER-ASK, and the outcome of its XFER-REFUSE (R128, TABLE 7-6). -/

namespace Sys2Proof.Machine

/-! ### A bulletin placed at the instant of one taken (R15, R16) -/

/-- An entry of no smaller rank than any other stands last (R15). -/
theorem standIn_eq_append {e : Entry} {q : List Entry} (h : ∀ x ∈ q, x.rank ≤ e.rank) :
    standIn e q = q ++ [e] := by
  induction q with
  | nil => rfl
  | cons x q ih =>
    obtain ⟨hx, hq⟩ := List.forall_mem_cons.1 h
    rw [standIn, if_neg (Nat.not_lt.2 hx), ih hq, List.cons_append]

theorem rank_of_mem_taken {s : State} {x : Entry} (h : x ∈ (taken s).line.queue) : x.rank = 0 := by
  obtain ⟨y, -, rfl⟩ := List.mem_map.1 h
  rfl

theorem hasSpace_taken (s : State) : hasSpace (taken s) ↔ hasSpace s := by
  have hq : (taken s).line.queue = s.line.queue.map fun e => { e with rank := 0 } := rfl
  unfold hasSpace generalEntries
  rw [hq, List.filter_map, List.length_map]
  rfl

/-- Where a general entry is free in ACTIVE, a bulletin that replaces none is queued behind all (R15, R16). -/
theorem place_taken_line {k : Kind} (ht : k ≠ .trip) (hr : isReplacing k = false) {s : State}
    (ha : s.line.state = .active) (hs : hasSpace s) (target : BitVec 4) (words : List Word) :
    (place { kind := k, target, words } (taken s)).line
      = { (taken s).line with queue := (taken s).line.queue ++ [queued k target words] } := by
  have hactive : ¬ (taken s).line.state ≠ .active := not_not_intro ha
  have hlast : standIn (queued k target words) (taken s).line.queue
      = (taken s).line.queue ++ [queued k target words] :=
    standIn_eq_append fun x hx => (rank_of_mem_taken hx).trans_le (Nat.zero_le _)
  have hrank : ({ kind := k, target, words, rank := max 0 k.code } : Entry) = queued k target words := by
    rw [Nat.zero_max, queued]
  have hspace : (generalEntries (taken s).line.queue).length < Config.queueSize :=
    (hasSpace_taken s).2 hs
  simp only [place, enqueue, if_neg hactive, ht, false_and, if_false, hr, Bool.false_eq_true, hrank,
    admitGeneral, if_pos hspace, hlast, State.onLine_line]

/-! ### The rows of TABLE 7-6 -/

section
variable {b : Bulletin} {s : State}

/-- An XFER-ASK of another sender has no effect (R128). -/
theorem dragAsk_other (h : s.numberOf .walk ≠ some b.sender.toNat) : dragAsk b s = s :=
  if_pos (by simp [fromWalk, h])

theorem dragAsk_fromWalk (h : s.numberOf .walk = some b.sender.toNat) :
    dragAsk b s =
      if s.rope.ownership ≠ .digging then
        place { kind := .xferRefuse, target := toStation b.sender.toNat, words := reasonWords 1 } s
      else if s.alarms.mode ≠ .run then
        place { kind := .xferRefuse, target := toStation b.sender.toNat, words := reasonWords 2 } s
      else setOwnership .yielding (s.onRope fun r => { r with yieldCount := 0, yieldSent := false }) := by
  have hw : toRole .walk s = toStation b.sender.toNat := by rw [toRole, h, Option.getD_some]
  simp only [dragAsk, fromWalk, h, hw, beq_self_eq_true, Bool.not_true, Bool.false_eq_true, if_false,
    reasonBusy, reasonTripped]

end

theorem exec_xferAsk {b : Bulletin} {s : State} (h : Takes .xferAsk b s) :
    exec (.xferAsk b) s = .next (dragAsk b (taken s)) :=
  congrArg Host.Outcome.next (receive_taken h (dragAsk b))

/-- The XFER-REFUSE that answers a taken XFER-ASK changes the line unit alone, and stands last in the queue
where that has space. -/
theorem refuse_placed {b : Bulletin} {s : State} (ha : s.line.state = .active) (n : Nat) :
    let t := place { kind := .xferRefuse, target := toStation b.sender.toNat, words := reasonWords n } (taken s)
    Frame [.line] (begin s) t ∧ (hasSpace s → t.line = { (taken s).line with queue :=
      (taken s).line.queue ++ [queued .xferRefuse (BitVec.ofNat 4 b.sender.toNat) (reasonWords n)] }) :=
  ⟨(taken_frame s).trans (place_frame _ _),
    fun hs => place_taken_line (by decide) rfl ha hs _ _⟩

/-! ### The owned hook lost (R88, R126) -/

/-- A hook seen true and found false takes drive enable, output and field word, and leaves the brake (R88). -/
theorem watchOwned_lost {s : State} (hj : s.joined = true) (hx : s.role.isAxis = true)
    (hseen : s.drive.ownedSeen = true) (hlost : s.ownedHook = false) :
    (watchOwned s).drive.f = 0 ∧ (watchOwned s).drive.fieldWord = 0
      ∧ (watchOwned s).drive.enable = false ∧ (watchOwned s).drive.brake = s.drive.brake := by
  have hw : watchOwned s = (stopFrame (s.onDrive fun d =>
      { d with f := 0, fieldWord := 0, enable := false })).onDrive fun d =>
        { d with ownedSeen := false } := by
    simp only [watchOwned, hj, hx, hseen, hlost, Bool.not_false, Bool.and_self, Bool.and_false, if_true]
  rw [hw]
  exact ⟨rfl, rfl, rfl, rfl⟩

/-- The drag owns its motors in DIGGING and in RECLAIMING alone (R126). -/
theorem ownedHook_yielding {s : State} (hr : s.role = .drag) (ho : s.rope.ownership = .yielding) :
    s.ownedHook = false := by
  simp [State.ownedHook, hr, ho]

theorem setOwnership_rope (o : Ownership) (s : State) :
    (setOwnership o s).rope = { s.rope with ownership := o } :=
  (watchOwned_frame _).1 .rope (by decide)

theorem setOwnership_line (o : Ownership) (s : State) : (setOwnership o s).line = s.line :=
  (watchOwned_frame _).1 .line (by decide)

/-! ### The outcome of an XFER-REFUSE (TABLE 1-7) -/

/-- The entry IN FLIGHT once the instant of a command has begun. -/
theorem flight_begin {s : State} {k : Nat} {e : Entry} (h : FlightAt s k e) :
    flight (begin s).line.queue = some { e with rank := 0 } := by
  obtain ⟨hk, he⟩ := List.getElem?_eq_some_iff.1 h.here
  have hfind : s.line.queue.find? (fun x => x.inFlight) = some e := by
    refine List.find?_eq_some_iff_getElem.2 ⟨h.flies, k, hk, he, fun j hj => ?_⟩
    rw [Bool.not_eq_true']
    refine Bool.eq_false_iff.2 fun hx => ?_
    exact hj.ne (h.alone j _ (List.getElem?_eq_getElem (hj.trans hk)) hx)
  have hcomp : ((fun x : Entry => x.inFlight) ∘ fun x : Entry => { x with rank := 0 })
      = fun x => x.inFlight := rfl
  rw [begin_queue, flight, List.find?_map, hcomp, hfind, Option.map_some]

theorem dropFlight_frame (s : State) : Frame [.line] s (dropFlight s) := onLine_frame s _

theorem landFlight_frame (g : Entry → Entry) (s : State) : Frame [.line] s (landFlight g s) :=
  onLine_frame s _

/-- What ATTEMPT_END does with an entry IN FLIGHT: the run of bit errors ends, and the slot read decides
(R7, R13). -/
theorem exec_attemptEnd {s : State} {k : Nat} {e : Entry} (h : FlightAt s k e) (acked : Bool) :
    exec (.attemptEnd acked) s = .next
      (let t := (begin s).onLine fun l => { l with bitErrorRun := 0 }
       if acked then attemptDelivered { e with rank := 0 } t
       else attemptFails { e with rank := 0 } t) := by
  simp only [exec, execAttemptEnd, flight_begin h]

section
variable {e : Entry} (h : e.kind = .xferRefuse) (s : State)
include h

theorem outcomeFailed_xferRefuse : outcomeFailed e s = s := by rw [outcomeFailed, h]

theorem outcomeDelivered_xferRefuse : outcomeDelivered e s = s := by rw [outcomeDelivered, h]

/-- An XFER-REFUSE delivered clears LINE FAULT, and the drag does not act on it. -/
theorem attemptDelivered_xferRefuse_frame : Frame alarmBlocks s (attemptDelivered e s) := by
  have hb : ¬ e.kind.isBroadcast = true := by rw [h]; decide
  unfold attemptDelivered; dsimp only
  rw [if_neg hb, outcomeDelivered_xferRefuse h]
  exact (((dropFlight_frame s).trans (count_frame _ _)).mono (by decide)).trans (clear_frame _ _ _)

theorem applyDue_xferRefuse_frame (d : Due) : Frame [.line] s (applyDue e d s) := by
  cases d with
  | replaced => exact countReplaced_frame _ s
  | expired =>
    unfold applyDue entryExpired
    rw [outcomeFailed_xferRefuse h]
    exact count_frame s _

/-- An attempt of an XFER-REFUSE that fails stays within the line unit: it is sent again, removed as due, or
ends "no taker", and the drag acts on none of these. -/
theorem attemptFails_xferRefuse_frame : Frame [.line] s (attemptFails e s) := by
  have hb : ¬ e.kind.isBroadcast = true := by rw [h]; decide
  refine .ite ?noTaker ?again
  case noTaker =>
    unfold noTaker; dsimp only
    rw [if_neg hb, outcomeFailed_xferRefuse h]
    exact (dropFlight_frame s).trans (count_frame _ _)
  case again =>
    unfold flightEnds
    split
    · exact landFlight_frame _ s
    · exact (dropFlight_frame s).trans (applyDue_xferRefuse_frame h _ _)

end

theorem attemptEnd_xferRefuse_rope {s : State} {k : Nat} {e : Entry} (h : FlightAt s k e)
    (hk : e.kind = .xferRefuse) (acked : Bool) :
    ∃ t, exec (.attemptEnd acked) s = .next t ∧ t.rope = s.rope := by
  refine ⟨_, exec_attemptEnd h acked, ?_⟩
  cases acked with
  | true => exact (attemptDelivered_xferRefuse_frame (e := { e with rank := 0 }) hk _).1 .rope (by decide)
  | false => exact (attemptFails_xferRefuse_frame (e := { e with rank := 0 }) hk _).1 .rope (by decide)

end Sys2Proof.Machine

open Sys2Proof Sys2Proof.Machine

/-- Settles O30: the XFER-ASK reaches `dragAsk` on `taken s`, whose three branches are the rows of TABLE 7-6;
the drag is the owner of the XFER-REFUSE and acts on none of its outcomes. -/
theorem xferAskAnswered : Obligations.XferAskAnswered := by
  refine ⟨fun acked s k e hf hk => ?outcome, fun b s ht hrole hj => ⟨fun hother => ?other, fun hwalk => ?walk⟩⟩
  case outcome =>
    obtain ⟨t, ht, hrope⟩ := attemptEnd_xferRefuse_rope hf hk acked
    exact ⟨t, ht, congrArg Rope.ownership hrope⟩
  case other =>
    rw [exec_xferAsk ht, dragAsk_other (s := taken s) hother]
  case walk =>
    refine ⟨_, exec_xferAsk ht, ?_⟩
    rw [dragAsk_fromWalk (s := taken s) hwalk]
    refine ⟨fun ho => ?busy, fun ho hm => ?tripped, fun ho hm => ?yields⟩
    case busy =>
      rw [if_pos (c := (taken s).rope.ownership ≠ .digging) ho]
      exact refuse_placed ht.active 1
    case tripped =>
      have hrun : (taken s).alarms.mode ≠ .run := fun h => by cases hm.symm.trans h
      rw [if_neg (c := (taken s).rope.ownership ≠ .digging) (not_not_intro ho), if_pos hrun]
      exact refuse_placed ht.active 2
    case yields =>
      rw [if_neg (c := (taken s).rope.ownership ≠ .digging) (not_not_intro ho),
        if_neg (c := (taken s).alarms.mode ≠ .run) (not_not_intro hm)]
      refine ⟨?_, setOwnership_line _ _, setOwnership_rope _ _, fun hseen => ?_⟩
      · exact ((taken_frame s).comp (onRope_frame _ _) (by decide) (by decide)).trans
          ((setOwnership_frame _ _).mono (by decide))
      · exact watchOwned_lost hj (congrArg Role.isAxis hrole) hseen (ownedHook_yielding hrole rfl)
end

section
/-! PROOFS. The queue of commands, reset and start-up: the statements said of single states (R185 to R188, R191). -/

namespace Sys2Proof.Machine

@[simp] theorem begin_time (s : State) : (begin s).time = s.time := rfl

/-! ### Frames of the start-up commands -/

/-- The blocks an entry to HALTED may change. -/
def haltBlocks : List Block := [.startup, .line, .time, .drive, .share, .walk]

/-- Entry to HALTED leaves the alarm unit, the picture, the axis positions and the pins (R191). -/
theorem halt_frame (cause : Nat) (s : State) : Frame haltBlocks s (halt cause s) := by
  have h := (((((onStartup_frame s fun u =>
      { u with state := .halted, haltCause := cause, faultCount := Config.codeUnits - 1 }).mono
        (cs := haltBlocks) (by decide)).trans ((onLine_frame _ fun l =>
      { l with state := .halted, loopback := false, ackSlot := false }).mono (by decide))).trans
    ((onTime_frame _ fun t => { t with running := false, offset := 0 }).mono (by decide))).trans
      ((onDrive_frame _ fun d =>
        { d with f := 0, fieldWord := 0, enable := false, brake := .set }).mono (by decide))).trans
      ((onWalk_frame _ fun k => { k with coilOut := false }).mono (by decide))
  exact h.trans ((onShare_frame _ fun h => { h with borrowed := 0, borrowedRecords := [] }).mono (by decide))

theorem halt_safe (cause : Nat) (s : State) : driveSafe (halt cause s).drive := ⟨rfl, rfl, rfl, rfl⟩

/-- A halted station drives no annunciator output (R181). -/
theorem discreteOutputs_of_not_joined {s : State} (h : s.joined = false) : s.discreteOutputs = 0 := by
  simp [State.discreteOutputs, State.annunciatorOn, h]

/-- The rows of entry to READING (R186). -/
theorem exec_readingEntry {s : State} (h : s.startup.state = .reset) (p : Straps) :
    exec (.readingEntry p) s = .next (enterReading p (begin s)) := by
  have h' : (begin s).startup.state = .reset := h
  simp only [exec, execReadingEntry, h', if_true]

/-! ### The PROBE (R188, TABLE 12-2) -/

theorem length_bitsOf (w n : Nat) : (bitsOf w n).length = w := by
  induction w with
  | zero => rfl
  | succ w ih => rw [bitsOf, List.length_cons, ih]

/-- A bulletin of `n` words has 42 cells and 16 for each word, from its start cell through its check (TABLE 12-1). -/
theorem length_cells (r : RawBulletin) : r.cells.length = 42 + 16 * r.words.length := by
  have hw : (r.words.flatMap fun w => bitsOf 16 w.toNat).length = r.words.length * 16 := by
    rw [List.length_flatMap, List.map_congr_left (fun w _ => length_bitsOf 16 w.toNat), List.map_const',
      List.sum_replicate, smul_eq_mul]
  simp only [RawBulletin.cells, RawBulletin.fieldBits, List.length_cons, List.length_append, length_bitsOf, hw]
  omega

theorem length_probe_cells (s : State) : s.probe.cells.length = 138 := length_cells _

/-- The test compares the 138 cells of the PROBE (R188). -/
theorem probeReadBack_iff (s : State) (readBack : List Bool) :
    s.probeReadBack readBack = true ↔ readBack.take 138 = s.probe.cells := by
  rw [State.probeReadBack, length_probe_cells, beq_iff_eq]

theorem exec_selftestEnd {s : State} (h : s.startup.state = .selftest) (readBack : List Bool) :
    exec (.selftestEnd readBack) s = .next
      (if readBack.take 138 = s.probe.cells then enterListen (begin s) else halt 9 (begin s)) := by
  have h' : (begin s).startup.state = .selftest := h
  have hp : (begin s).probe = s.probe := rfl
  simp only [exec, execSelftestEnd, h', if_true, probeReadBack_iff, hp]

theorem exec_rejoinTestEnd {s : State} (h : s.line.state = .rejoining) (readBack : List Bool) :
    exec (.rejoinTestEnd readBack) s = .next
      (if readBack.take 138 = s.probe.cells then leaveLoopback .active (begin s) else halt 9 (begin s)) := by
  have h' : (begin s).line.state = .rejoining := h
  have hp : (begin s).probe = s.probe := rfl
  simp only [exec, execRejoinTestEnd, h', if_true, probeReadBack_iff, hp]

end Sys2Proof.Machine

open Sys2Proof Sys2Proof.Machine

/-- Settles O1, by the equation of `step` on a queue that is not empty. -/
theorem stepRunsFrontCommand : Obligations.StepRunsFrontCommand := by
  intro c rest s h
  rw [step, h]

/-- Settles O2: each value is read off `State.reset`. -/
theorem resetValues : Obligations.ResetValues := by
  unfold Obligations.ResetValues driveSafe
  dsimp only
  and_intros <;> rfl

/-- Settles O3: the lists are empty, the timer stands and no image is formed. -/
theorem conditionsHoldAtReset : Obligations.ConditionsHoldAtReset := by
  have hform : ¬ imageFormed State.reset := by unfold imageFormed; decide
  refine ⟨?agrees, fun _ => ⟨rfl, rfl, rfl, rfl⟩, ?owned, ?range, ?bounded, ?ordered, ?ring, ?tokens, ?held, ?drops⟩
  case agrees => constructor <;> decide
  case owned => constructor <;> decide
  case range => constructor <;> decide
  case bounded => constructor <;> decide
  case ordered => constructor <;> simp [State.reset]
  case ring => constructor <;> simp [State.reset, Ring.wf]
  case tokens => constructor <;> simp [State.reset, grantsQueued]
  case held => constructor <;> exact fun h => absurd h hform
  case drops => constructor <;> simp [State.reset]

/-- Settles O4: the state after full reset is `State.reset` with the pins and the waiting commands put back. -/
theorem fullResetRestoresEveryBlock : Obligations.FullResetRestoresEveryBlock := fun s =>
  ⟨_, rfl, ⟨fun b hb => by cases b <;> first | rfl | simp at hb, rfl⟩, rfl, rfl⟩

/-- Settles O5: the memory pin is tested before the rate strap (causes 1 and 2), and where both hold only start-up
control has changed. -/
theorem readingEntryTestsStraps : Obligations.ReadingEntryTestsStraps := by
  intro p s h
  refine ⟨_, exec_readingEntry h p, ?_⟩
  by_cases hm : p.memoryPresent = true
  · by_cases hr : p.rate = 3
    · simp only [enterReading, hm, hr, Bool.not_true, Bool.false_eq_true, if_false, if_true]
      exact ⟨rfl, hr.symm ▸ rfl, by simp, fun _ _ => ⟨rfl, rfl⟩, fun _ h => absurd rfl h⟩
    · simp only [enterReading, hm, hr, Bool.not_true, Bool.false_eq_true, if_false]
      exact ⟨rfl, rfl, by simp, fun _ h => h.elim, fun _ _ => ⟨rfl, rfl, onStartup_frame _ _⟩⟩
  · have hm' : p.memoryPresent = false := by simpa using hm
    simp only [enterReading, hm', Bool.not_false, if_true]
    exact ⟨rfl, rfl, fun _ => ⟨rfl, rfl⟩, by simp, by simp⟩

/-- Settles O6: the time-out is an entry to HALTED with cause 3. -/
theorem byteTimeoutHalts : Obligations.ByteTimeoutHalts := by
  intro s h
  have h' : (begin s).startup.state = .reading := h
  refine ⟨halt 3 (begin s), by simp only [exec, execSettingsByteTimeout, h', if_true], rfl, rfl, rfl, rfl,
    halt_safe _ _, rfl, discreteOutputs_of_not_joined rfl, halt_frame 3 _⟩

/-- Settles O8: both tests compare the 138 cells of the PROBE, and take the way out of loopback or to HALTED. -/
theorem lineTestsEndOrHalt : Obligations.LineTestsEndOrHalt := by
  intro readBack s
  refine ⟨rfl, rfl, rfl, rfl, rfl, rfl, length_probe_cells s, fun h => ?selftest, fun h => ?rejoin⟩
  case selftest =>
    rw [exec_selftestEnd h]
    refine ⟨fun hw => ⟨_, by rw [if_pos hw], rfl, rfl, rfl, rfl, ?_⟩, fun hw => ⟨_, by rw [if_neg hw], rfl, rfl, rfl⟩⟩
    exact (onStartup_frame _ _).comp (leaveLoopback_frame _ _) (by decide) (by decide)
  case rejoin =>
    rw [exec_rejoinTestEnd h]
    exact ⟨fun hw => ⟨leaveLoopback .active (begin s), by rw [if_pos hw], rfl, rfl, rfl, rfl, leaveLoopback_frame _ _⟩,
      fun hw => ⟨halt 9 (begin s), by rw [if_neg hw], rfl, rfl, rfl, rfl, halt_safe _ _⟩⟩

/-- Settles O43, by the rows of the encoder and of the link's acknowledge. -/
theorem encoderAndLinkPins : Obligations.EncoderAndLinkPins := by
  refine fun s => ⟨fun rises => ⟨_, rfl, ?frame, fun h => ?reset, fun h => ?counts⟩,
    ⟨_, rfl, onDrive_frame _ _, rfl⟩⟩
  case frame => exact .ite (.refl _ _) ⟨fun b hb => by cases b <;> first | rfl | simp at hb, rfl⟩
  case reset =>
    have h' : (begin s).startup.state = .reset := h
    rw [countEncoder, if_pos h']
    rfl
  case counts =>
    have h' : ¬ (begin s).startup.state = .reset := h
    rw [countEncoder, if_neg h']
    rfl
end

section
/-! PROOFS. The transmit queue: where an entry stands, which entry gives way, what a placement comes to (R15, R16). -/

namespace Sys2Proof.Machine

/-! ### Standing in the queue (R15) -/

theorem standIn_perm (e : Entry) (q : List Entry) : (standIn e q).Perm (e :: q) := by
  induction q with
  | nil => exact .refl _
  | cons x q ih =>
    unfold standIn
    split
    · exact .refl _
    · exact (ih.cons x).trans (.swap e x q)

@[simp] theorem mem_standIn {e x : Entry} {q : List Entry} : x ∈ standIn e q ↔ x = e ∨ x ∈ q := by
  rw [(standIn_perm e q).mem_iff, List.mem_cons]

theorem oneMore_standIn (e : Entry) (q : List Entry) : OneMore e q (standIn e q) := by
  induction q with
  | nil => exact ⟨[], [], rfl, rfl⟩
  | cons x q ih =>
    unfold standIn
    split
    · exact ⟨[], x :: q, rfl, rfl⟩
    · obtain ⟨l, r, hq, hs⟩ := ih
      exact ⟨x :: l, r, by rw [hq]; rfl, by rw [hs]; rfl⟩

theorem length_filter_standIn (p : Entry → Bool) (e : Entry) (q : List Entry) :
    ((standIn e q).filter p).length = (if p e then 1 else 0) + (q.filter p).length := by
  rw [((standIn_perm e q).filter p).length_eq, List.filter_cons]
  split
  · rw [List.length_cons, Nat.add_comm]
  · rw [Nat.zero_add]

/-- Without one entry, a list has what the entry itself was. -/
theorem perm_cons_eraseIdx {α : Type} {l : List α} {k : Nat} {x : α} (h : l[k]? = some x) :
    l.Perm (x :: l.eraseIdx k) := by
  induction l generalizing k with
  | nil => simp at h
  | cons a l ih =>
    cases k with
    | zero => simp only [List.getElem?_cons_zero, Option.some.injEq] at h; subst h; exact .refl _
    | succ k =>
      rw [List.getElem?_cons_succ] at h
      exact ((ih h).cons a).trans (.swap x a _)

theorem length_filter_eraseIdx {α : Type} {p : α → Bool} {l : List α} {k : Nat} {x : α}
    (h : l[k]? = some x) : (l.filter p).length = (if p x then 1 else 0) + ((l.eraseIdx k).filter p).length := by
  rw [((perm_cons_eraseIdx h).filter p).length_eq, List.filter_cons]
  split
  · rw [List.length_cons, Nat.add_comm]
  · rw [Nat.zero_add]

/-! ### Which entry gives way (R16, step 5) -/

/-- A waiting general entry. -/
def Entry.mayYield (e : Entry) : Bool := !e.inFlight && !e.reserved

theorem Entry.mayYield_iff (e : Entry) : e.mayYield = true ↔ e.inFlight = false ∧ e.reserved = false := by
  simp [Entry.mayYield]

theorem worstClass_append (c : Nat) (q : List Entry) (e : Entry) :
    worstClass c (q ++ [e]) = if e.mayYield = true ∧ c < e.kind.cls then
      some (max e.kind.cls ((worstClass c q).getD 0)) else worstClass c q := by
  simp [worstClass, Entry.mayYield]

/-- The greatest class above `c` among the waiting general entries, with an entry that has it; none where none is
above `c`. -/
theorem worstClass_spec (c : Nat) (q : List Entry) :
    (worstClass c q = none ∧ ∀ y ∈ q, y.mayYield = true → y.kind.cls ≤ c)
      ∨ ∃ x ∈ q, worstClass c q = some x.kind.cls ∧ c < x.kind.cls ∧ x.mayYield = true
        ∧ ∀ y ∈ q, y.mayYield = true → y.kind.cls ≤ x.kind.cls := by
  induction q using List.reverseRecOn with
  | nil => exact .inl ⟨rfl, by simp⟩
  | append_singleton q e ih =>
    rw [worstClass_append]
    have hmem : ∀ {P : Entry → Prop}, (∀ y ∈ q, P y) → P e → ∀ y ∈ q ++ [e], P y := by
      intro P hq he y hy
      rcases List.mem_append.1 hy with hy | hy
      · exact hq y hy
      · rwa [List.mem_singleton.1 hy]
    by_cases he : e.mayYield = true ∧ c < e.kind.cls
    · rw [if_pos he]
      right
      rcases ih with ⟨hn, hall⟩ | ⟨x, hx, hw, hc, hy, hmax⟩
      · refine ⟨e, by simp, by simp [hn], he.2, he.1, hmem (fun y hy hyy => ?_) fun _ => le_rfl⟩
        exact (hall y hy hyy).trans he.2.le
      · rw [hw, Option.getD_some]
        by_cases hle : e.kind.cls ≤ x.kind.cls
        · exact ⟨x, by simp [hx], by rw [max_eq_right hle], hc, hy, hmem hmax fun _ => hle⟩
        · have hlt := Nat.lt_of_not_le hle
          exact ⟨e, by simp, by rw [max_eq_left hlt.le], he.2, he.1,
            hmem (fun y hy hyy => (hmax y hy hyy).trans hlt.le) fun _ => le_rfl⟩
    · rw [if_neg he]
      rcases ih with ⟨hn, hall⟩ | ⟨x, hx, hw, hc, hy, hmax⟩
      · exact .inl ⟨hn, hmem hall fun h => Nat.le_of_not_lt fun hlt => he ⟨h, hlt⟩⟩
      · refine .inr ⟨x, by simp [hx], hw, hc, hy, hmem hmax fun h => ?_⟩
        exact (Nat.le_of_not_lt fun hlt => he ⟨h, hlt⟩).trans hc.le

/-- The search of `newestOf`, its test said with `Option.any`. -/
theorem newestOf_eq_find? (c : Nat) (q : List Entry) :
    newestOf c q = ((List.range q.length).reverse).find? fun k =>
      (q[k]?).any fun e => e.mayYield && e.kind.cls == c := by
  unfold newestOf
  congr 1
  funext k
  cases q[k]? <;> rfl

theorem any_yield_iff (c : Nat) (o : Option Entry) :
    (o.any fun e => e.mayYield && e.kind.cls == c) = true
      ↔ ∃ x, o = some x ∧ x.mayYield = true ∧ x.kind.cls = c := by
  cases o <;> simp

/-- The newest-placed waiting general entry of a class. -/
theorem newestOf_eq_some {c k : Nat} {q : List Entry} :
    newestOf c q = some k ↔ (∃ x, q[k]? = some x ∧ x.mayYield = true ∧ x.kind.cls = c)
      ∧ ∀ y ∈ q.drop (k + 1), y.mayYield = true → y.kind.cls ≠ c := by
  rw [newestOf_eq_find?, List.find?_eq_some_iff_getElem]
  simp only [any_yield_iff, List.getElem_reverse, List.getElem_range, List.length_reverse, List.length_range]
  constructor
  · rintro ⟨hk, i, hi, rfl, hlast⟩
    refine ⟨hk, fun y hy hyy hc => ?_⟩
    obtain ⟨j, hj, rfl⟩ := List.mem_iff_getElem.1 hy
    rw [List.length_drop] at hj
    rw [List.getElem_drop] at hyy hc
    have := hlast (i - 1 - j) (by omega)
    rw [Bool.not_eq_true', ← Bool.not_eq_true, any_yield_iff] at this
    refine this ⟨_, ?_, hyy, hc⟩
    rw [List.getElem?_eq_getElem (by omega)]
    congr 2
    omega
  · rintro ⟨hk, hlast⟩
    obtain ⟨x, hx, hxy, hxc⟩ := hk
    obtain ⟨hlt, hxe⟩ := List.getElem?_eq_some_iff.1 hx
    refine ⟨⟨x, hx, hxy, hxc⟩, q.length - 1 - k, by omega, by omega, fun j hj => ?_⟩
    rw [Bool.not_eq_true', ← Bool.not_eq_true, any_yield_iff]
    rintro ⟨y, hy, hyy, hyc⟩
    refine hlast y ?_ hyy hyc
    obtain ⟨hlt', rfl⟩ := List.getElem?_eq_some_iff.1 hy
    refine List.mem_iff_getElem.2 ⟨q.length - 1 - j - (k + 1), by rw [List.length_drop]; omega, ?_⟩
    rw [List.getElem_drop]
    congr 1
    omega

/-- The place of the entry that gives way to a bulletin of class `c` (R16, step 5). -/
def victimPlace (c : Nat) (q : List Entry) : Option Nat := (worstClass c q).bind fun m => newestOf m q

theorem victimPlace_eq_some {c k : Nat} {q : List Entry} :
    victimPlace c q = some k ↔ ∃ x, GivesWay c q k x := by
  unfold victimPlace
  rcases worstClass_spec c q with ⟨hn, hall⟩ | ⟨x, hx, hw, hc, hxy, hmax⟩
  · rw [hn]
    simp only [Option.bind_none, reduceCtorEq, false_iff, not_exists]
    intro x h
    have := hall x (List.mem_of_getElem? h.here) ((Entry.mayYield_iff x).2 h.waits)
    have := h.above
    omega
  · rw [hw, Option.bind_some, newestOf_eq_some]
    constructor
    · rintro ⟨⟨y, hy, hyy, hyc⟩, hlast⟩
      refine ⟨y, hy, (Entry.mayYield_iff y).1 hyy, hyc ▸ hc, fun z hz h1 h2 => ?_, fun z hz h1 h2 => ?_⟩
      · rw [hyc]; exact hmax z hz ((Entry.mayYield_iff z).2 ⟨h1, h2⟩)
      · rw [hyc]; exact hlast z hz ((Entry.mayYield_iff z).2 ⟨h1, h2⟩)
    · rintro ⟨y, h⟩
      have hyx : y.kind.cls = x.kind.cls :=
        le_antisymm (hmax y (List.mem_of_getElem? h.here) ((Entry.mayYield_iff y).2 h.waits))
          (h.greatest x hx ((Entry.mayYield_iff x).1 hxy).1 ((Entry.mayYield_iff x).1 hxy).2)
      refine ⟨⟨y, h.here, (Entry.mayYield_iff y).2 h.waits, hyx⟩, fun z hz hzz => ?_⟩
      rw [← hyx]
      exact h.newest z hz ((Entry.mayYield_iff z).1 hzz).1 ((Entry.mayYield_iff z).1 hzz).2

theorem victimPlace_eq_none {c : Nat} {q : List Entry} :
    victimPlace c q = none ↔ ∀ x ∈ q, x.inFlight = false → x.reserved = false → x.kind.cls ≤ c := by
  unfold victimPlace
  rcases worstClass_spec c q with ⟨hn, hall⟩ | ⟨x, hx, hw, hc, hxy, hmax⟩
  · rw [hn]
    simpa using fun x hx h1 h2 => hall x hx ((Entry.mayYield_iff x).2 ⟨h1, h2⟩)
  · have hx' := (Entry.mayYield_iff x).1 hxy
    have hno : ¬ ∀ y ∈ q, y.inFlight = false → y.reserved = false → y.kind.cls ≤ c := fun h => by
      have := h x hx hx'.1 hx'.2
      omega
    rw [hw, Option.bind_some]
    refine iff_of_false (fun hnone => ?_) hno
    -- the last entry that may yield with the greatest class is found
    have : ∃ k, newestOf x.kind.cls q = some k := by
      obtain ⟨j, hj⟩ := List.mem_iff_getElem?.1 hx
      obtain ⟨hlt, -⟩ := List.getElem?_eq_some_iff.1 hj
      rw [newestOf_eq_find?]
      refine Option.isSome_iff_exists.1 (List.find?_isSome.2 ⟨j, by simpa using hlt, ?_⟩)
      exact (any_yield_iff _ _).2 ⟨x, hj, hxy, rfl⟩
    obtain ⟨k, hk⟩ := this
    rw [hk] at hnone
    cases hnone

/-! ### What a placement comes to (R16) -/

/-- The entry as a placement ranks it (R15). -/
def Entry.ranked (e : Entry) : Entry := { e with rank := max e.rank e.kind.code }

/-- The state with the elders of a kind replaced, where a newer bulletin of the kind replaces any (R16, step 3). -/
def replaceElders (k : Kind) (s : State) : State := if isReplacing k then replaceOlder k s else s

theorem enqueue_refused {e : Entry} {s : State} (h : s.line.state ≠ .active) :
    enqueue e s = (s.countRefused, .refused) := by
  unfold enqueue; dsimp only
  rw [if_pos h]

theorem enqueue_reserved {e : Entry} {s : State} (h : s.line.state = .active) (hk : e.kind = .trip)
    (hr : ∀ x ∈ s.line.queue, x.reserved = false) :
    enqueue e s = (s.onLine fun l => { l with queue := standIn { e.ranked with reserved := true } l.queue },
      .admitted) := by
  unfold enqueue; dsimp only
  have : ¬ s.line.queue.any (·.reserved) = true := by simpa using hr
  rw [if_neg (not_not_intro h), if_pos ⟨hk, this⟩]
  rfl

theorem enqueue_general {e : Entry} {s : State} (h : s.line.state = .active)
    (hr : e.kind ≠ .trip ∨ ∃ x ∈ s.line.queue, x.reserved = true) :
    enqueue e s = admitGeneral e.ranked (replaceElders e.kind s) := by
  unfold enqueue replaceElders; dsimp only
  have : ¬ (e.kind = .trip ∧ ¬ s.line.queue.any (·.reserved) = true) := by
    rintro ⟨hk, hn⟩
    rcases hr with hr | hr
    · exact hr hk
    · exact hn (by simpa using hr)
  rw [if_neg (not_not_intro h), if_neg this]
  by_cases hi : isReplacing e.kind = true
  · rw [if_pos hi, if_pos hi]; rfl
  · rw [if_neg hi, if_neg hi]; rfl

theorem admitGeneral_space {e : Entry} {s : State} (h : hasSpace s) :
    admitGeneral e s = (s.onLine fun l => { l with queue := standIn e l.queue }, .admitted) := by
  rw [hasSpace] at h
  simp only [admitGeneral, if_pos h]
  rfl

theorem admitGeneral_evicts {e : Entry} {s : State} {k : Nat} {x : Entry} (h : ¬ hasSpace s)
    (hk : GivesWay e.kind.cls s.line.queue k x) :
    admitGeneral e s = ((s.onLine fun l => { l with queue := standIn e (l.queue.eraseIdx k) }).count
      fun c => { c with evicted := bump c.evicted }, .evicted x) := by
  unfold admitGeneral; dsimp only
  have hv : (worstClass e.kind.cls s.line.queue).bind (fun c => newestOf c s.line.queue) = some k :=
    victimPlace_eq_some.2 ⟨x, hk⟩
  have hx : s.line.queue.getD k e = x := by rw [List.getD_eq_getElem?_getD, hk.here, Option.getD_some]
  rw [hasSpace] at h
  simp only [if_neg h, hv, hx]
  rfl

theorem admitGeneral_refuses {e : Entry} {s : State} (h : ¬ hasSpace s)
    (hk : ∀ x ∈ s.line.queue, x.inFlight = false → x.reserved = false → x.kind.cls ≤ e.kind.cls) :
    admitGeneral e s = (s.countRefused, .refused) := by
  unfold admitGeneral; dsimp only
  have hv : (worstClass e.kind.cls s.line.queue).bind (fun c => newestOf c s.line.queue) = none :=
    victimPlace_eq_none.2 hk
  rw [hasSpace] at h
  simp only [if_neg h, hv]

/-- What steps 4 and 5 of R16 come to: one of three. -/
theorem admitGeneral_cases (e : Entry) (s : State) :
    (hasSpace s ∧ admitGeneral e s
        = (s.onLine fun l => { l with queue := standIn e l.queue }, .admitted))
      ∨ (¬ hasSpace s ∧ ∃ k x, GivesWay e.kind.cls s.line.queue k x ∧ admitGeneral e s
        = ((s.onLine fun l => { l with queue := standIn e (l.queue.eraseIdx k) }).count
            fun c => { c with evicted := bump c.evicted }, .evicted x))
      ∨ (¬ hasSpace s ∧ admitGeneral e s = (s.countRefused, .refused)) := by
  by_cases h : hasSpace s
  · exact .inl ⟨h, admitGeneral_space h⟩
  · cases hv : victimPlace e.kind.cls s.line.queue with
    | some k =>
      obtain ⟨x, hx⟩ := victimPlace_eq_some.1 hv
      exact .inr (.inl ⟨h, k, x, hx, admitGeneral_evicts h hx⟩)
    | none => exact .inr (.inr ⟨h, admitGeneral_refuses h (victimPlace_eq_none.1 hv)⟩)

/-- What a placement comes to (R16): outside ACTIVE it is refused; a TRIP takes the free reserved entry; else the
elders are replaced and the general entries decide. -/
theorem enqueue_cases (e : Entry) (s : State) :
    (s.line.state ≠ .active ∧ enqueue e s = (s.countRefused, .refused))
      ∨ (s.line.state = .active ∧ e.kind = .trip ∧ (∀ x ∈ s.line.queue, x.reserved = false)
        ∧ enqueue e s = (s.onLine fun l =>
            { l with queue := standIn { e.ranked with reserved := true } l.queue }, .admitted))
      ∨ (s.line.state = .active ∧ enqueue e s = admitGeneral e.ranked (replaceElders e.kind s)) := by
  by_cases h : s.line.state = .active
  · by_cases hr : e.kind = .trip ∧ ∀ x ∈ s.line.queue, x.reserved = false
    · exact .inr (.inl ⟨h, hr.1, hr.2, enqueue_reserved h hr.1 hr.2⟩)
    · refine .inr (.inr ⟨h, enqueue_general h ?_⟩)
      by_cases hk : e.kind = .trip
      · right
        by_contra hno
        exact hr ⟨hk, fun x hx => by simpa using fun hx' => hno ⟨x, hx, hx'⟩⟩
      · exact .inl hk
  · exact .inl ⟨h, enqueue_refused h⟩

/-- Only the transmit queue and the line counters differ. -/
def QueueOnly (s t : State) : Prop := ∃ q c, t = s.onLine fun l => { l with queue := q, counters := c }

theorem QueueOnly.trans {s t u : State} (h : QueueOnly s t) (k : QueueOnly t u) : QueueOnly s u := by
  obtain ⟨q, c, rfl⟩ := h
  obtain ⟨q', c', rfl⟩ := k
  exact ⟨q', c', rfl⟩

theorem queueOnly_count (s : State) (g : LineCounters → LineCounters) : QueueOnly s (s.count g) :=
  ⟨s.line.queue, g s.line.counters, rfl⟩

theorem queueOnly_queue (s : State) (f : List Entry → List Entry) :
    QueueOnly s (s.onLine fun l => { l with queue := f l.queue }) := ⟨f s.line.queue, s.line.counters, rfl⟩

theorem queueOnly_countReplaced (k : Kind) (s : State) : QueueOnly s (countReplaced k s) := by
  unfold countReplaced
  split
  · exact queueOnly_count s _
  · exact queueOnly_count s _
  · exact ⟨s.line.queue, s.line.counters, rfl⟩

theorem queueOnly_replaceElders (k : Kind) (s : State) : QueueOnly s (replaceElders k s) := by
  unfold replaceElders replaceOlder; dsimp only
  have m := queueOnly_queue s fun q => (q.filter fun e => !(e.kind == k && !e.inFlight)).map fun e =>
    if e.kind == k then { e with due := some .replaced } else e
  split
  · split
    · exact m.trans (queueOnly_countReplaced k _)
    · exact m
  · exact ⟨s.line.queue, s.line.counters, rfl⟩

theorem queueOnly_admitGeneral (e : Entry) (s : State) : QueueOnly s (admitGeneral e s).1 := by
  rcases admitGeneral_cases e s with ⟨-, h⟩ | ⟨-, k, x, -, h⟩ | ⟨-, h⟩
  · rw [h]; exact queueOnly_queue s (standIn e)
  · rw [h]; exact (queueOnly_queue s fun q => standIn e (q.eraseIdx k)).trans
      (queueOnly_count _ fun c => { c with evicted := bump c.evicted })
  · rw [h]; exact queueOnly_count s fun c => { c with refused := bump c.refused }

/-- A placement changes the queue and the counters, no more. -/
theorem queueOnly_enqueue (e : Entry) (s : State) : QueueOnly s (enqueue e s).1 := by
  rcases enqueue_cases e s with ⟨-, h⟩ | ⟨-, -, -, h⟩ | ⟨-, h⟩
  · rw [h]; exact queueOnly_count s fun c => { c with refused := bump c.refused }
  · rw [h]; exact queueOnly_queue s (standIn _)
  · rw [h]; exact (queueOnly_replaceElders _ s).trans (queueOnly_admitGeneral _ _)

theorem queueOnly_of_enqueue {e : Entry} {s t : State} {a : Admission} (h : enqueue e s = (t, a)) :
    QueueOnly s t := by
  have hq := queueOnly_enqueue e s
  rwa [h] at hq

/-- A placement evicts only bulletins of a greater class. -/
theorem cls_lt_of_evicted {e x : Entry} {s t : State} (h : enqueue e s = (t, .evicted x)) :
    e.kind.cls < x.kind.cls := by
  rcases enqueue_cases e s with ⟨-, he⟩ | ⟨-, -, -, he⟩ | ⟨-, he⟩
  · rw [he] at h; cases h
  · rw [he] at h; cases h
  · rw [he] at h
    rcases admitGeneral_cases e.ranked (replaceElders e.kind s) with ⟨-, ha⟩ | ⟨-, k, y, hy, ha⟩ | ⟨-, ha⟩
    · rw [ha] at h; cases h
    · rw [ha] at h; cases h; exact hy.above
    · rw [ha] at h; cases h

end Sys2Proof.Machine
end

section
/-! PROOFS. The moves a station's work is made of. A `Move` is one act of one block, named by its `Tag`; each of
the model's operations is said once, below, as a chain of moves. A condition that every move keeps is then kept by
the whole of a cycle start, and a field that only one tag's moves change stands through all the others. -/

namespace Sys2Proof.Machine

/-! ### The fields an act may change -/

/-- Groups of fields of the drive chain, none of them an output. -/
inductive DriveField where
  | measured | overcurrent | missing | disagree | slip | stall | target | ran
  deriving DecidableEq

/-- `d'` is `d` but for the fields of the group. -/
def DriveField.only : DriveField → Drive → Drive → Prop
  | .measured, d, d' => d' = { d with v := d'.v, i := d'.i, delta := d'.delta, prevEncoder := d'.prevEncoder,
                                      speed := d'.speed, demand := d'.demand, brakeInput := d'.brakeInput }
  | .overcurrent, d, d' => d' = { d with overcurrent := d'.overcurrent }
  | .missing, d, d' => d' = { d with missing := d'.missing }
  | .disagree, d, d' => d' = { d with disagree := d'.disagree }
  | .slip, d, d' => d' = { d with slip := d'.slip }
  | .stall, d, d' => d' = { d with stall := d'.stall }
  | .target, d, d' => d' = { d with postTarget := d'.postTarget }
  | .ran, d, d' => d' = { d with ran := d'.ran }

/-- Groups of fields of the rope axis function, the ownership state apart. -/
inductive RopeField where
  | measured | encoderFault | calibration | decalibration | beyond | limit | report | bucket | overload | slack | tightLine
  | transfer | yieldWait | yieldCount | yieldSent
  deriving DecidableEq

/-- `r'` is `r` but for the fields of the group. -/
def RopeField.only : RopeField → Rope → Rope → Prop
  | .measured, r, r' => r' = { r with position := r'.position, load := r'.load }
  | .encoderFault, r, r' => r' = { r with encoderFault := r'.encoderFault }
  | .calibration, r, r' => r' = { r with base := r'.base, calibrated := r'.calibrated }
  | .decalibration, r, r' => r' = { r with calibrated := r'.calibrated }
  | .beyond, r, r' => r' = { r with beyondIn := r'.beyondIn, beyondOut := r'.beyondOut }
  | .limit, r, r' => r' = { r with limitPrev := r'.limitPrev }
  | .report, r, r' => r' = { r with calReport := r'.calReport }
  | .bucket, r, r' => r' = { r with bucket := r'.bucket }
  | .overload, r, r' => r' = { r with overload := r'.overload }
  | .slack, r, r' => r' = { r with slack := r'.slack }
  | .tightLine, r, r' => r' = { r with tightLine := r'.tightLine }
  | .transfer, r, r' => r' = { r with walkSeen := r'.walkSeen, reclaimPending := r'.reclaimPending }
  | .yieldWait, r, r' => r' = { r with yieldWait := r'.yieldWait }
  | .yieldCount, r, r' => r' = { r with yieldCount := r'.yieldCount }
  | .yieldSent, r, r' => r' = { r with yieldSent := r'.yieldSent }

/-- Groups of fields of the swing axis function. -/
inductive SwingField where
  | circle | report | mark | refusal
  deriving DecidableEq

/-- `w'` is `w` but for the fields of the group. -/
def SwingField.only : SwingField → Swing → Swing → Prop
  | .circle, w, w' => w' = { w with circle := w'.circle }
  | .report, w, w' => w' = { w with parked := w'.parked, calReport := w'.calReport }
  | .mark, w, w' => w' = { w with circle := w'.circle, calibrated := w'.calibrated, markError := w'.markError }
  | .refusal, w, w' => w' = { w with notPermitted := w'.notPermitted }

/-- Groups of fields of the walk axis function, the state and the coil apart. -/
inductive WalkField where
  | counts | stepCount | stepBegin | askWait | permissive | mark
  deriving DecidableEq

/-- `k'` is `k` but for the fields of the group. -/
def WalkField.only : WalkField → Walk → Walk → Prop
  | .counts, k, k' => k' = { k with circle := k'.circle, stateCount := k'.stateCount }
  | .stepCount, k, k' => k' = { k with stepCount := k'.stepCount }
  | .stepBegin, k, k' => k' = { k with stepCount := k'.stepCount } ∧ (k'.stepCount = 0 ∨ k'.stepCount = k.stepCount)
  | .askWait, k, k' => k' = { k with askWait := k'.askWait }
  | .permissive, k, k' => k' = { k with permissiveLost := k'.permissiveLost }
  | .mark, k, k' => k' = { k with circle := k'.circle, referenced := k'.referenced,
                                  stepCounter := k'.stepCounter, camPhase := k'.camPhase }

/-- Fields of the share unit that no token account reads. -/
inductive ShareField where
  | ask | pressure | voluntary | need | quarantine
  deriving DecidableEq

/-- `h'` is `h` but for the field. -/
def ShareField.only : ShareField → Share → Share → Prop
  | .ask, h, h' => h' = { h with ask := h'.ask }
  | .pressure, h, h' => h' = { h with pressure := h'.pressure }
  | .voluntary, h, h' => h' = { h with voluntary := h'.voluntary }
  | .need, h, h' => h' = { h with need := h'.need }
  | .quarantine, h, h' => h' = { h with quarantine := h'.quarantine }

/-- Groups of fields of the line unit, the line state, the transmit queue and the counters apart. -/
inductive LineField where
  | duplicate | faultStarts | arbitration | txSeq
  deriving DecidableEq

/-- `l'` is `l` but for the fields of the group. -/
def LineField.only : LineField → LineUnit → LineUnit → Prop
  | .duplicate, l, l' => l' = { l with dupCount := l'.dupCount, dupCounting := l'.dupCounting, dupHeld := l'.dupHeld }
  | .faultStarts, l, l' => l' = { l with faultStarts := l'.faultStarts }
  | .arbitration, l, l' => l' = { l with arbitration := l'.arbitration }
  | .txSeq, l, l' => l' = { l with txSeq := l'.txSeq }

/-- Groups of fields of the cab function. -/
inductive CabField where
  | handles | buttons | walkMode | emergency
  deriving DecidableEq

/-- `c'` is `c` but for the fields of the group; as many handle channels are judged. -/
def CabField.only : CabField → Cab → Cab → Prop
  | .handles, c, c' => c' = { c with handleFault := c'.handleFault } ∧ c'.handleFault.length = c.handleFault.length
  | .buttons, c, c' => c' = { c with ackButton := c'.ackButton, restartButton := c'.restartButton }
  | .walkMode, c, c' => c' = { c with walkMode := c'.walkMode, walkSample := c'.walkSample }
  | .emergency, c, c' => c' = { c with emergency := c'.emergency }

/-- Groups of fields of the machine table's block, the records apart. -/
inductive TableField where
  | flash | refusal | episode
  deriving DecidableEq

/-- `t'` is `t` but for the fields of the group. -/
def TableField.only : TableField → MachineTable → MachineTable → Prop
  | .flash, t, t' => t' = { t with flashPhase := t'.flashPhase, flashCount := t'.flashCount,
                                   refusalFlash := t'.refusalFlash }
  | .refusal, t, t' => t' = { t with refusalFlash := t'.refusalFlash }
  | .episode, t, t' => t' = { t with episode := t'.episode, firstOut := t'.firstOut }

/-- A 16-bit counter stands or adds 1. -/
def countsUp (n m : Nat) : Prop := m = n ∨ m = bump n

/-- The line counters stand or add 1. -/
structure CountersUp (c c' : LineCounters) : Prop where
  evicted : countsUp c.evicted c'.evicted
  refused : countsUp c.refused c'.refused
  noTaker : c'.noTaker = c.noTaker
  bitErrors : c'.bitErrors = c.bitErrors

/-! ### Acts of several blocks -/

/-- The lender hears that a grant of its own is not delivered (R103); other owners hear apart. -/
def tellLender (e : Entry) (s : State) : State :=
  if e.kind = .shareGrant then s.onShare fun h => { h with promised := h.promised - countOf e.words } else s

/-- A placement, the lender told of a grant that it evicts. -/
def placeTold (e : Entry) (s : State) : State :=
  match enqueue e s with
  | (s', .evicted x) => tellLender x s'
  | (s', _) => s'

/-- A bulletin as it is placed: waiting, no attempt made, no removal due. -/
structure Entry.New (e : Entry) : Prop where
  waits : e.inFlight = false
  waited : e.waited = 0
  due : e.due = none
  reserved : e.reserved = false
  heard : e.muted = false

/-- The entries that expire at a cycle start, and the queue they leave (R15, R17). -/
def queueGone (c : DWord) (q : List Entry) : List Entry := (q.map Entry.aged).filter (expiresNow c)

/-- The queue that the entries expired at a cycle start leave (R15, R17). -/
def queueLeft (c : DWord) (q : List Entry) : List Entry :=
  ((q.map Entry.aged).filter fun e => !expiresNow c e).map fun e =>
    if e.inFlight then e.markExpired c else e

/-- What a failed return does to the borrower's records (R108). -/
def failReturn (peer : Nat) (ret : Nat × Word) (h : Share) : Share :=
  match h.borrowedRecords.find? (isReturnOf peer ret) with
  | none => h
  | some r =>
    if r.grantNumber = ret.2 then
      { h with borrowed := h.borrowed - r.count,
               borrowedRecords := h.borrowedRecords.filter fun x => !isReturnOf peer ret x }
    else
      { h with borrowedRecords := h.borrowedRecords.map fun x =>
          if isReturnOf peer ret x then x.settle else x }

/-- A borrowed record with its peer and its count, and no more to shed than it holds. -/
def KeepsLoan (f : BorrowedRecord → BorrowedRecord) : Prop :=
  ∀ r, (f r).peer = r.peer ∧ (f r).count = r.count ∧ (r.shed ≤ r.count → (f r).shed ≤ r.count)

/-- The lent records one long cycle on, those whose grace runs out reinstated (R106). -/
def tickLent (h : Share) : Share :=
  let ticked := h.lentRecords.map LentRecord.tick
  let n := ((ticked.filter fun r => r.grace == some 0).map (·.count)).sum
  { h with own := h.own + n, lent := h.lent - n, lentRecords := ticked.filter fun r => r.grace != some 0 }

/-- The ring at a cycle start (R65 to R68, R70). -/
def ringAtStart (s : State) (r : Ring) : Ring :=
  let c := s.time.cycle
  let n := slotOf (low16 c)
  let found := (slotEntry n s.ring.slots).filter fun e => e.tag == low16 c
  let r' := match found with
    | some e => consumeEntry e r
    | none => missEntry s.params.holdLimit r
  { r' with slots := emptyOutside c s.globals.window (emptySlot n r'.slots),
            current := if s.joined then r'.current else 0 }

/-! ### Moves -/

/-- The names of the moves. -/
inductive Tag where
  | count | place (k : Kind) | mute | settle | age | tell | line (p : LineField) | queries | rejoin
  | rearm | consume | inputs | unit (u : UnitIndex) | long | statusTime | ageing | sequence
  | drive (p : DriveField) | output | brake | linkFrame | trip
  | rope (p : RopeField) | own (v w : Ownership) | reclaim (v : Ownership) (sent : Bool)
  | swing (p : SwingField) | walk (p : WalkField) | walkTo (v w : WalkState) | coil | contactor
  | share (p : ShareField) | grant | failReturn | markLoans | termOut | lentTerms | endQuarantine
  | raised (c : AlarmCode) | cleared (c : AlarmCode) | dropped | report | refresh
  | table (p : TableField) | ageTable | cab (p : CabField) | note (e : Event)
  deriving DecidableEq

/-- One move: the act named by the tag takes the first state to the second. -/
inductive Move : Tag → State → State → Prop where
  | count (g : LineCounters → LineCounters) (s) (h : CountersUp s.line.counters (g s.line.counters)) :
      Move .count s (s.count g)
  | place (e : Entry) (s) (hn : e.New) (hg : e.kind ≠ .shareGrant) : Move (.place e.kind) s (placeTold e s)
  | mute (p : Entry → Bool) (s) : Move .mute s (muteWhere p s)
  | settle (p : Entry → Bool) (s) : Move .settle s (settleWhere p s)
  | age (s) : Move .age s (s.onLine fun l => { l with queue := queueLeft s.time.cycle l.queue })
  | tell (e : Entry) (s) : Move .tell s (tellLender e s)
  | line (p : LineField) (g : LineUnit → LineUnit) (s) (h : p.only s.line (g s.line)) :
      Move (.line p) s (s.onLine g)
  | queries (s) (rest : List Query) (q : Query) (h : s.line.queries = q :: rest) :
      Move .queries s (s.onLine fun l => { l with queries := rest })
  | rejoin (s) (h : s.line.state = .lineFault) :
      Move .rejoin s (enterLoopback (s.onLine fun l => { l with state := .rejoining }))
  | rearm (s) : Move .rearm s (setRearm s)
  | consume (s) (h : s.role.isAxis = true) : Move .consume s (s.onRing (ringAtStart s))
  | inputs (i : Inputs) (s) : Move .inputs s (watchOwned { s with inputs := i })
  | unit (u : UnitIndex) (g : CaptureUnit → CaptureUnit) (s)
      (h : ∀ c, (g c).slaveQueue.length ≤ max Config.slaveQueueSize c.slaveQueue.length) :
      Move (.unit u) s (s.onUnit u g)
  | long (n : Nat) (s) : Move .long s (s.onTime fun t => { t with longCount := n })
  | statusTime (s) (h : s.time.running = true) :
      Move .statusTime s (s.onTime fun t => { t with offset := s.statusOffset, statusDone := true })
  | ageing (s) : Move .ageing s (s.onPicture fun p => { p with peers := p.peers.map ageRecord })
  | sequence (q : Byte) (s) : Move .sequence s (s.onPicture fun p => { p with seq := q })
  | drive (p : DriveField) (g : Drive → Drive) (s) (h : p.only s.drive (g s.drive)) :
      Move (.drive p) s (s.onDrive g)
  | output (b : Bounds) (x : Int) (s) (h : b = axisBounds s) (hj : s.joined = true)
      (ha : s.role.isAxis = true) :
      Move .output s (s.onDrive fun d =>
        { d with f := finalOutput s b x, fieldWord := fieldWordOf (finalOutput s b x) })
  | brake (b : Brake) (n : Nat) (s) (h : s.alarms.mode ≠ .run → b = .set) (hj : s.joined = true)
      (ha : s.role.isAxis = true) :
      Move .brake s (s.onDrive fun d => { d with brake := b, delay := n })
  | linkFrame (s) (hj : s.joined = true) (ha : s.role.isAxis = true) : Move .linkFrame s (driveOutputs s)
  | trip (s) : Move .trip s (driveTripped (s.onAlarms fun a => { a with mode := .tripped }))
  | rope (p : RopeField) (g : Rope → Rope) (s) (h : p.only s.rope (g s.rope)) : Move (.rope p) s (s.onRope g)
  | own (w : Ownership) (s) : Move (.own s.rope.ownership w) s (setOwnership w s)
  | reclaim (s) : Move (.reclaim s.rope.ownership s.rope.yieldSent) s (enterReclaiming s)
  | swing (p : SwingField) (g : Swing → Swing) (s) (h : p.only s.swing (g s.swing)) :
      Move (.swing p) s (s.onSwing g)
  | walk (p : WalkField) (g : Walk → Walk) (s) (h : p.only s.walk (g s.walk)) : Move (.walk p) s (s.onWalk g)
  | walkTo (w : WalkState) (s) : Move (.walkTo s.walk.state w) s (setWalkState w s)
  | coil (s) : Move .coil s (setCoil false s)
  | contactor (g : Contactor → Contactor) (s) : Move .contactor s (s.onContactor g)
  | share (p : ShareField) (g : Share → Share) (s) (h : p.only s.share (g s.share)) :
      Move (.share p) s (s.onShare g)
  | grant (peer k : Nat) (s) (hk : k ≠ 0) (hs : k ≤ s.spare) :
      Move .grant s (placeGrant peer k s).1
  | failReturn (peer : Nat) (ret : Nat × Word) (s) : Move .failReturn s (s.onShare (failReturn peer ret))
  | markLoans (f : BorrowedRecord → BorrowedRecord) (s) (h : KeepsLoan f) :
      Move .markLoans s (s.onShare fun h => { h with borrowedRecords := h.borrowedRecords.map f })
  | termOut (r : BorrowedRecord) (s) :
      Move .termOut s (s.onShare fun h =>
        { h with borrowed := h.borrowed - r.count,
                 borrowedRecords := h.borrowedRecords.filter fun x => x.peer != r.peer })
  | lentTerms (s) : Move .lentTerms s (s.onShare tickLent)
  | endQuarantine (s) (h : s.share.fresh = true) (hj : s.joined = true) :
      Move .endQuarantine s (s.onShare fun h =>
        { h with own := (s.entryOf s.station).homeShare, fresh := false })
  | raised (c : AlarmCode) (d : Option Nat) (s) (h : c ≠ .shareLoanDropped) :
      Move (.raised c) s (raiseQuiet c d s)
  | cleared (c : AlarmCode) (d : Option Nat) (s) : Move (.cleared c) s (clearAlarm c d s)
  | dropped (n : Nat) (s) : Move .dropped s (loanDropped n s)
  | report (r : AlarmRecord) (s) (h : r ∈ s.alarms.list) (hj : s.joined = true) :
      Move .report s (reportAlarm r false true s)
  | refresh (n : Nat) (s) : Move .refresh s (s.onAlarms fun a => { a with refresh := n })
  | table (p : TableField) (g : MachineTable → MachineTable) (s) (h : p.only s.table (g s.table)) :
      Move (.table p) s (s.onTable g)
  | ageTable (s) : Move .ageTable s (s.onTable ageTable)
  | cab (p : CabField) (g : Cab → Cab) (s) (h : p.only s.cab (g s.cab)) : Move (.cab p) s (s.onCab g)
  | note (e : Event) (s) : Move (.note e) s (s.note e)

/-- A chain of moves of the tags listed. -/
def Moves (gs : List Tag) : State → State → Prop := Relation.ReflTransGen fun s t => ∃ g ∈ gs, Move g s t

section
variable {gs hs : List Tag} {s t u : State}

theorem Moves.refl (gs : List Tag) (s : State) : Moves gs s s := Relation.ReflTransGen.refl

theorem Moves.trans (h : Moves gs s t) (k : Moves gs t u) : Moves gs s u := Relation.ReflTransGen.trans h k

theorem Moves.mono (h : Moves gs s t) (hsub : gs ⊆ hs) : Moves hs s t :=
  Relation.ReflTransGen.mono (fun _ _ ⟨g, hg, m⟩ => ⟨g, hsub hg, m⟩) s t h

theorem Move.moves {g : Tag} (h : Move g s t) (hg : g ∈ gs) : Moves gs s t := .single ⟨g, hg, h⟩

theorem Moves.foldl {α : Type} {f : State → α → State} (l : List α)
    (h : ∀ s, ∀ x ∈ l, Moves gs s (f s x)) (s : State) : Moves gs s (l.foldl f s) := by
  induction l generalizing s with
  | nil => exact .refl gs s
  | cons x l ih =>
    exact (h s x (by simp)).trans (ih (fun s y hy => h s y (by simp [hy])) _)

theorem Moves.ite {c : Prop} [Decidable c] (h : c → Moves gs s t) (k : ¬ c → Moves gs s u) :
    Moves gs s (if c then t else u) := by
  split
  · exact h ‹_›
  · exact k ‹_›

/-- A reflexive and transitive relation that contains each move of the tags contains their chains. -/
theorem Moves.rel {R : State → State → Prop} (hrefl : ∀ s, R s s) (htrans : ∀ s t u, R s t → R t u → R s u)
    (hmove : ∀ g ∈ gs, ∀ s t, Move g s t → R s t) (h : Moves gs s t) : R s t := by
  induction h with
  | refl => exact hrefl _
  | tail _ hlast ih =>
    obtain ⟨g, hg, m⟩ := hlast
    exact htrans _ _ _ ih (hmove g hg _ _ m)

/-- A condition that each move of the tags keeps is kept by their chains. -/
theorem Moves.keeps {P : State → Prop} (hmove : ∀ g ∈ gs, ∀ s t, Move g s t → P s → P t)
    (h : Moves gs s t) : P s → P t :=
  Moves.rel (R := fun s t => P s → P t) (fun _ h => h) (fun _ _ _ h k p => k (h p)) hmove h

/-- What every move of the tags leaves as it is, their chains leave. -/
theorem Moves.same {α : Type} {f : State → α} (hmove : ∀ g ∈ gs, ∀ s t, Move g s t → f t = f s)
    (h : Moves gs s t) : f t = f s :=
  Moves.rel (R := fun s t => f t = f s) (fun _ => rfl) (fun _ _ _ h k => k.trans h) hmove h

end

/-! ### The blocks a move changes -/

/-- The blocks that the moves of a tag may change. -/
def Tag.blocks : Tag → List Block
  | .count | .mute | .settle | .age | .line _ | .queries | .rejoin => [.line]
  | .tell | .share _ | .failReturn | .markLoans | .termOut | .lentTerms | .endQuarantine => [.share]
  | .place _ | .grant => [.line, .share]
  | .rearm | .consume => [.ring]
  | .inputs => [.inputs, .drive]
  | .unit _ => [.unit0, .unit1]
  | .long | .statusTime => [.time]
  | .ageing | .sequence => [.picture]
  | .drive _ | .output | .brake | .linkFrame => [.drive]
  | .trip => [.drive, .alarms]
  | .rope _ => [.rope]
  | .own _ _ => [.drive, .rope]
  | .reclaim _ _ => [.ring, .drive, .rope]
  | .swing _ => [.swing]
  | .walk _ | .coil => [.walk]
  | .walkTo _ _ => [.line, .drive, .walk]
  | .contactor => [.contactor]
  | .raised _ => [.line, .alarms, .table]
  | .cleared _ | .dropped => [.line, .alarms, .table, .ring]
  | .report => [.line, .table]
  | .refresh => [.alarms]
  | .table _ | .ageTable => [.table]
  | .cab _ => [.cab]
  | .note _ => []

theorem tellLender_frame (e : Entry) (s : State) : Frame [.share] s (tellLender e s) :=
  .ite (onShare_frame s _) (.refl _ s)

theorem placeTold_frame (e : Entry) (s : State) : Frame [.line, .share] s (placeTold e s) := by
  unfold placeTold
  rcases hq : enqueue e s with ⟨t, a⟩
  have h := (enqueue_eq_frame hq).mono (cs := [.line, .share]) (by decide)
  cases a with
  | evicted x => exact h.trans ((tellLender_frame x t).mono (by decide))
  | admitted => exact h
  | refused => exact h

theorem Move.frame {g : Tag} {s t : State} (h : Move g s t) : Frame g.blocks s t := by
  cases h with
  | count g => exact count_frame s g
  | place e => exact placeTold_frame e s
  | mute p => exact muteWhere_frame p s
  | settle p => exact settleWhere_frame p s
  | tell e => exact tellLender_frame e s
  | age | line | queries => exact onLine_frame s _
  | rejoin => exact (onLine_frame s _).trans (enterLoopback_frame _)
  | rearm => exact setRearm_frame s
  | consume => exact onRing_frame s _
  | inputs i => exact ((inputs_frame i s).mono (by decide)).trans ((watchOwned_frame _).mono (by decide))
  | unit u g => exact onUnit_frame u s g
  | long | statusTime => exact onTime_frame s _
  | ageing | sequence => exact onPicture_frame s _
  | drive | output | brake => exact onDrive_frame s _
  | linkFrame => exact driveOutputs_frame s
  | trip => exact (onAlarms_frame s _).comp (driveTripped_frame _) (by decide) (by decide)
  | rope => exact onRope_frame s _
  | own w => exact setOwnership_frame w s
  | reclaim => exact enterReclaiming_frame s
  | swing => exact onSwing_frame s _
  | walk => exact onWalk_frame s _
  | walkTo w => exact setWalkState_frame w s
  | coil => exact setCoil_frame false s
  | contactor => exact onContactor_frame s _
  | share | failReturn | markLoans | termOut | lentTerms | endQuarantine => exact onShare_frame s _
  | grant peer k => exact placeGrant_frame peer k s
  | raised c d => exact raiseQuiet_frame c d s
  | cleared c d => exact clearAlarm_frame c d s
  | dropped n => exact raiseAndClear_frame _ _ s
  | report r => exact reportAlarm_frame r false true s
  | refresh => exact onAlarms_frame s _
  | table | ageTable => exact onTable_frame s _
  | cab => exact onCab_frame s _
  | note e => exact note_frame s e

section
variable {gs : List Tag} {s t : State}

/-- A chain of moves changes only blocks that its moves may change. -/
theorem Moves.frame (h : Moves gs s t) {bs : List Block} (hb : ∀ g ∈ gs, ∀ b ∈ g.blocks, b ∈ bs) :
    Frame bs s t :=
  Moves.rel (.refl bs) (fun _ _ _ => Frame.trans) (fun g hg _ _ m => m.frame.mono (hb g hg)) h

theorem Move.startup {g : Tag} (h : Move g s t) : t.startup = s.startup :=
  h.frame.1 .startup (by cases g <;> simp [Tag.blocks])

theorem Moves.startup (h : Moves gs s t) : t.startup = s.startup :=
  h.same (f := State.startup) fun _ _ _ _ m => m.startup

theorem joined_of_startup (h : t.startup = s.startup) : t.joined = s.joined := by rw [State.joined, h, State.joined]

theorem role_of_startup (h : t.startup = s.startup) : t.role = s.role := by
  simp only [State.role, State.entryOf, State.station, h]

theorem globals_of_startup (h : t.startup = s.startup) : t.globals = s.globals := by
  rw [State.globals, h, State.globals]

theorem params_of_startup (h : t.startup = s.startup) : t.params = s.params := by
  rw [State.params, h, State.params]

theorem Moves.joined (h : Moves gs s t) : t.joined = s.joined := joined_of_startup h.startup
theorem Moves.role (h : Moves gs s t) : t.role = s.role := role_of_startup h.startup
theorem Moves.globals (h : Moves gs s t) : t.globals = s.globals := globals_of_startup h.startup
theorem Moves.params (h : Moves gs s t) : t.params = s.params := params_of_startup h.startup

end

/-! ### Placements as moves -/

theorem tellLender_of_ne {e : Entry} (h : e.kind ≠ .shareGrant) (s : State) : tellLender e s = s := if_neg h

/-- A bulletin that is no TRIP evicts none of whose loss its lender is told. -/
theorem place_eq_placeTold {e : Entry} (h : 1 ≤ e.kind.cls) (s : State) : place e s = placeTold e s := by
  unfold place placeTold
  rcases hq : enqueue e s with ⟨t, a⟩
  cases a with
  | evicted x =>
    have hx := cls_lt_of_evicted hq
    refine (tellLender_of_ne ?_ t).symm
    intro hk
    rw [hk] at hx
    exact absurd (h.trans_lt hx) (by decide)
  | admitted => rfl
  | refused => rfl

/-- The state of a placement whose admission its owner reads. -/
theorem enqueue_moves {e : Entry} {s t : State} {a : Admission} {gs : List Tag} (h : enqueue e s = (t, a))
    (hn : e.New) (hg : e.kind ≠ .shareGrant) (hc : 1 ≤ e.kind.cls) (hgs : Tag.place e.kind ∈ gs) :
    Moves gs s t := by
  have ht : t = placeTold e s := by rw [← place_eq_placeTold hc, place, h]
  exact ht ▸ (Move.place e s hn hg).moves hgs

theorem place_moves {e : Entry} {gs : List Tag} (s : State) (hn : e.New) (hg : e.kind ≠ .shareGrant)
    (hc : 1 ≤ e.kind.cls) (hgs : Tag.place e.kind ∈ gs) : Moves gs s (place e s) :=
  enqueue_moves (e := e) (a := (enqueue e s).2) rfl hn hg hc hgs

end Sys2Proof.Machine
end

section
/-! PROOFS. Each of the model's operations as a chain of moves, in the order of the model. -/

namespace Sys2Proof.Machine

/-! ### Frames of the moves' own operations -/

/-- A new bulletin of the kinds that the station places of itself. -/
theorem new_entry (k : Kind) (target : BitVec 4) (words : List Word) (seq : Byte) (tag : Option Word) (rank : Nat) :
    Entry.New { kind := k, target, words, seq, tag, rank } := ⟨rfl, rfl, rfl, rfl, rfl⟩

/-! ### Outcomes and raises -/

theorem raiseAndClear_moves {c : AlarmCode} (hc : c ≠ .shareLoanDropped) (d : Option Nat) (s : State) :
    Moves [.raised c, .cleared c] s (raiseAndClear c d s) :=
  ((Move.raised c d s hc).moves (by simp)).trans ((Move.cleared c d _).moves (by simp))

theorem returnFailed_share (peer : Nat) (ret : Nat × Word) (muted : Bool) (s : State) :
    returnFailed peer ret muted s =
      if muted then s.onShare (failReturn peer ret) else loanDropped peer (s.onShare (failReturn peer ret)) := by
  have hs : s.onShare (failReturn peer ret) = match s.share.borrowedRecords.find? (isReturnOf peer ret) with
    | none => s
    | some r =>
      if r.grantNumber = ret.2 then
        s.onShare fun h =>
          { h with borrowed := h.borrowed - r.count,
                   borrowedRecords := h.borrowedRecords.filter fun x => !isReturnOf peer ret x }
      else
        s.onShare fun h =>
          { h with borrowedRecords := h.borrowedRecords.map fun x =>
              if isReturnOf peer ret x then x.settle else x } := by
    unfold State.onShare failReturn
    cases s.share.borrowedRecords.find? (isReturnOf peer ret) with
    | none => rfl
    | some r => dsimp only; split <;> rfl
  rw [hs]
  rfl

theorem returnFailed_moves (peer : Nat) (ret : Nat × Word) (muted : Bool) (s : State) :
    Moves [.failReturn, .dropped] s (returnFailed peer ret muted s) := by
  rw [returnFailed_share]
  have h := (Move.failReturn peer ret s).moves (gs := [.failReturn, .dropped]) (by simp)
  exact .ite (fun _ => h) fun _ => h.trans ((Move.dropped _ _).moves (by simp))

/-- The moves of an owner whose bulletin ends other than delivered, the lender apart. -/
def ownerTags : List Tag :=
  [.share .ask, .failReturn, .dropped, .raised .transferRefused, .cleared .transferRefused,
    .walkTo .asking .parked, .reclaim .yielding true]

theorem outcomeFailed_grant {e : Entry} (h : e.kind = .shareGrant) (s : State) :
    outcomeFailed e s = tellLender e s := by
  rw [outcomeFailed, tellLender, h]
  rfl

theorem raiseAndClear_walk (c : AlarmCode) (d : Option Nat) (s : State) : (raiseAndClear c d s).walk = s.walk :=
  (raiseAndClear_frame c d s).1 .walk (by decide)

theorem transferRefused_moves (reason : Nat) {s : State} (h : s.walk.state = .asking) :
    Moves [.raised .transferRefused, .cleared .transferRefused, .walkTo .asking .parked] s
      (transferRefused reason s) := by
  refine ((raiseAndClear_moves (c := .transferRefused) (by decide) (some reason) s).mono (by simp)).trans ?_
  have m := Move.walkTo .parked (raiseAndClear .transferRefused (some reason) s)
  rw [raiseAndClear_walk, h] at m
  exact m.moves (by simp)

/-- Every owner but the lender acts by its own moves; the lender's are `tellLender`'s (TABLE 1-7). -/
theorem outcomeFailed_moves {e : Entry} (h : e.kind ≠ .shareGrant) (s : State) :
    Moves ownerTags s (outcomeFailed e s) := by
  unfold outcomeFailed
  split
  case h_1 => exact .ite (fun _ => .refl _ s) fun _ => (Move.share .ask (fun h => { h with ask := none }) s rfl).moves (by decide)
  case h_2 hk => exact absurd hk h
  case h_3 => exact (returnFailed_moves _ _ _ s).mono (by decide)
  case h_4 => exact .ite (fun ha => (transferRefused_moves _ ha.1).mono (by decide)) fun _ => .refl _ s
  case h_5 =>
    refine .ite (fun ha => ?_) fun _ => .refl _ s
    have m := Move.reclaim s
    rw [ha.1, ha.2.1] at m
    exact m.moves (by decide)
  case h_6 => exact .refl _ s

/-- The moves of an entry to FAULTED from a walk state. -/
def faultedTags (v : WalkState) : List Tag :=
  [.coil, .walkTo v .faulted, .place .xferAbort, .raised .transferFailed]

theorem enterFaulted_moves (d : Nat) (s : State) : Moves (faultedTags s.walk.state) s (enterFaulted d s) := by
  have m1 := (Move.coil s).moves (gs := faultedTags s.walk.state) (by simp [faultedTags])
  have m2 := (Move.walkTo .faulted (setCoil false s)).moves (gs := faultedTags s.walk.state) (by simp [faultedTags, setCoil])
  exact ((m1.trans m2).trans (place_moves _ (new_entry _ _ _ _ _ _) (by simp) (by simp [Kind.cls])
    (by simp [faultedTags]))).trans ((Move.raised _ _ _ (by simp)).moves (by simp [faultedTags]))

/-- The moves of an entry to TRIPPED. -/
def trippedTags : List Tag :=
  [.trip, .coil, .walkTo .asking .faulted, .walkTo .transferring .faulted, .place .xferAbort,
    .raised .transferFailed, .walk .stepBegin, .walkTo .stepping .ready, .walkTo .settling .ready,
    .cleared .stepOvertime, .table .episode]

theorem walkTripped_moves (s : State) : Moves trippedTags s (walkTripped s) := by
  unfold walkTripped
  refine .ite (fun _ => ?_) fun _ => .refl _ s
  have ready : ∀ v, s.walk.state = v → Tag.walkTo v .ready ∈ trippedTags →
      Moves trippedTags s (clearAlarm .stepOvertime none
        (setWalkState .ready (s.onWalk fun k => { k with stepCount := 0 }))) := by
    rintro v rfl hv
    exact (((Move.walk .stepBegin (fun k => { k with stepCount := 0 }) s ⟨rfl, .inl rfl⟩).moves (by decide)).trans
      ((Move.walkTo .ready _).moves hv)).trans ((Move.cleared _ _ _).moves (by decide))
  split
  case h_1 ha => exact (ha ▸ enterFaulted_moves 3 s).mono (by decide)
  case h_2 ha => exact (ha ▸ enterFaulted_moves 3 s).mono (by decide)
  case h_3 ha => exact ready _ ha (by decide)
  case h_4 ha => exact ready _ ha (by decide)
  all_goals exact .refl _ s

theorem enterTripped_moves (s : State) : Moves trippedTags s (enterTripped s) := by
  unfold enterTripped; dsimp only
  refine (((Move.trip s).moves (by decide)).trans (walkTripped_moves _)).trans ?_
  unfold openEpisode
  refine .ite (fun _ => (Move.table .episode _ _ ?_).moves (by decide)) fun _ => .refl _ _
  unfold refreshFirstOut
  split <;> rfl

theorem placeTrip_moves (c : AlarmCode) (d : Option Nat) (t : Stamp) (s : State) :
    Moves (.place .trip :: ownerTags) s (placeTrip c d t s) := by
  have m := (Move.place { kind := .trip, target := Config.broadcast, words := tripWords c d t } s
    (new_entry _ _ _ _ _ _) (by simp)).moves (gs := .place .trip :: ownerTags) (by simp)
  unfold placeTold at m
  unfold placeTrip
  rcases hq : enqueue { kind := .trip, target := Config.broadcast, words := tripWords c d t } s with ⟨t', a⟩
  rw [hq] at m
  cases a with
  | evicted x =>
    dsimp only at m ⊢
    by_cases hx : x.kind = .shareGrant
    · rw [outcomeFailed_grant hx]; exact m
    · rw [tellLender_of_ne hx] at m
      exact m.trans ((outcomeFailed_moves hx t').mono (by simp))
  | admitted => exact m
  | refused => exact m

/-- The moves that a raise of TRIP severity brings beside the record's own (R173). -/
def tripTags : List Tag := trippedTags ++ (.place .trip :: ownerTags)

/-- A raise of WARN or STOP severity is quiet (R166). -/
theorem raise_eq_quiet {c : AlarmCode} (h : c.severity ≠ .trip) (d : Option Nat) (s : State) :
    raise c d s = raiseQuiet c d s := by
  simp only [raise, raiseQuiet, h, false_and, if_false]

theorem raise_moves {c : AlarmCode} (hc : c ≠ .shareLoanDropped) (d : Option Nat) (s : State) :
    Moves (.raised c :: tripTags) s (raise c d s) := by
  have m := (Move.raised c d s hc).moves (gs := .raised c :: tripTags) (by simp)
  unfold raise; dsimp only
  refine .ite (fun _ => ?_) fun _ => m
  have m2 := m.trans ((enterTripped_moves (raiseRecord c d s).1).mono (by simp [tripTags]))
  exact .ite (fun _ => m2) fun _ => m2.trans ((placeTrip_moves _ _ _ _).mono (by simp [tripTags]))

theorem raiseThenClear_moves {c : AlarmCode} (hc : c ≠ .shareLoanDropped) (d : Option Nat) (s : State) :
    Moves (.raised c :: .cleared c :: tripTags) s (raiseThenClear c d s) :=
  ((raise_moves hc d s).mono (by simp)).trans ((Move.cleared c d _).moves (by simp))

theorem emergencySample_moves (s : State) :
    Moves (.cab .emergency :: .raised .operatorStop :: .cleared .operatorStop :: tripTags) s (emergencySample s) := by
  unfold emergencySample; dsimp only
  refine .ite (fun _ => ?_) fun _ => .refl _ s
  have m := (Move.cab .emergency
    (fun c => { c with emergency := some (s.inputActive s.params.cab.emergencyInput) }) s rfl).moves
      (gs := .cab .emergency :: .raised .operatorStop :: .cleared .operatorStop :: tripTags) (by simp)
  refine .ite (fun _ => m.trans ((raise_moves (by decide) _ _).mono (by decide))) fun _ => .ite (fun _ => ?_) fun _ => m
  exact m.trans ((Move.cleared _ _ _).moves (by simp))

end Sys2Proof.Machine
end

section
/-! PROOFS. The sample, the line unit, the picture, the long cycle, the ring and the cab as chains of moves. -/

namespace Sys2Proof.Machine

/-! ### The sample (R31, R88, R184) -/

/-- The moves of a capture result at its axis function. -/
def resultTags : List Tag :=
  [.rope .calibration, .raised .ropeMarkMismatch, .cleared .ropeMarkMismatch, .swing .mark,
    .raised .swingMarkMismatch, .cleared .swingMarkMismatch, .walk .mark, .raised .camPhase, .cleared .camPhase,
    .walkTo .stepping .settling, .walk .stepBegin, .walkTo .settling .stepping, .walkTo .settling .ready,
    .cleared .stepOvertime]

/-- The moves of a captured edge. -/
def captureTags : List Tag := .unit .unit0 :: .unit .unit1 :: resultTags

theorem ropeResult_moves (n : DWord) (s : State) : Moves resultTags s (ropeResult n s) := by
  unfold ropeResult; dsimp only
  have m := fun (g : Rope → Rope) h => (Move.rope .calibration g s h).moves (gs := resultTags) (by decide)
  refine .ite (fun _ => m _ (by exact rfl)) fun _ => .ite (fun _ => ?_) fun _ => ?_
  · exact (m _ (by exact rfl)).trans ((Move.cleared _ _ _).moves (by decide))
  · exact (Move.raised _ _ s (by decide)).moves (by decide)

theorem swingResult_moves (r : CaptureResult) (s : State) : Moves resultTags s (swingResult r s) := by
  unfold swingResult
  split
  · exact .refl _ s
  · dsimp only
    have m := fun (g : Swing → Swing) (t : State) h =>
      (Move.swing .mark g t h).moves (gs := resultTags) (by decide)
    refine .ite (fun _ => (m _ s (by exact rfl)).trans ((Move.raised _ _ _ (by decide)).moves (by decide))) fun _ => ?_
    have m2 := fun (g g' : Swing → Swing) h h' => (m g s h).trans (m g' (s.onSwing g) h')
    exact .ite (fun _ => (m2 _ _ (by exact rfl) (by exact rfl)).trans
        ((Move.cleared _ _ _).moves (by decide)))
      fun _ => m2 _ _ (by exact rfl) (by exact rfl)

theorem walkTopCentre_moves (r : CaptureResult) (s : State) : Moves resultTags s (walkTopCentre r s) := by
  unfold walkTopCentre; dsimp only
  have settles : ∀ t, Moves resultTags s t →
      Moves resultTags s (if t.walk.state = .stepping then setWalkState .settling t else t) := by
    intro t ht
    refine .ite (fun hw => ht.trans ?_) fun _ => ht
    have m := Move.walkTo .settling t
    rw [hw] at m
    exact m.moves (by decide)
  refine settles _ (.ite (fun _ => ?_) fun _ => ?_)
  · exact ((Move.walk .mark _ s (by exact rfl)).moves (by decide)).trans ((Move.cleared _ _ _).moves (by decide))
  · exact ((Move.walk .mark _ s (by exact rfl)).moves (by decide)).trans ((Move.raised _ _ _ (by decide)).moves (by decide))

theorem walkTubRest_moves (s : State) : Moves resultTags s (walkTubRest s) := by
  unfold walkTubRest; dsimp only
  refine .ite (fun hw => ?_) fun _ => .refl _ s
  have m1 := (Move.walk .stepBegin
    (fun k => { k with stepCount := if s.drive.postTarget != 0 then 0 else k.stepCount }) s ⟨rfl, by split <;> simp⟩).moves
      (gs := resultTags) (by decide)
  have m2 := Move.walkTo (if s.drive.postTarget != 0 then .stepping else .ready)
    (s.onWalk fun k => { k with stepCount := if s.drive.postTarget != 0 then 0 else k.stepCount })
  rw [State.onWalk_walk, hw] at m2
  refine (m1.trans (m2.moves ?_)).trans ((Move.cleared _ _ _).moves (by decide))
  split <;> decide

theorem deliverResult_moves (u : UnitIndex) (r : CaptureResult) (s : State) :
    Moves resultTags s (deliverResult u r s) := by
  unfold deliverResult
  split
  · split
    · exact ropeResult_moves _ s
    · exact ropeResult_moves _ s
    · exact swingResult_moves r s
    · exact walkTopCentre_moves r s
    all_goals exact .refl _ s
  · split
    · exact walkTubRest_moves s
    all_goals exact .refl _ s

theorem unit_mem_captureTags (u : UnitIndex) : Tag.unit u ∈ captureTags := by cases u <;> decide

theorem slaveEdgeAt_moves (u : UnitIndex) (s : State) : Moves captureTags s (slaveEdgeAt u s) := by
  unfold slaveEdgeAt
  refine .ite (fun _ => (Move.unit u _ s fun c => ?_).moves (unit_mem_captureTags u)) fun _ => .refl _ s
  exact (List.length_take_le _ _).trans (le_max_left _ _)

theorem masterEdgeAt_moves (u : UnitIndex) (s : State) : Moves captureTags s (masterEdgeAt u s) := by
  unfold masterEdgeAt; dsimp only
  refine .ite (fun _ => ?_) fun _ => .refl _ s
  exact ((Move.unit u (recordResult _) s fun c => le_max_right _ _).moves (unit_mem_captureTags u)).trans
    ((deliverResult_moves u _ _).mono (hs := captureTags) (by decide))

theorem captureAt_moves (u : UnitIndex) (before : Byte) (index : Option Bool) (s : State) :
    Moves captureTags s (captureAt u before index s) := by
  unfold captureAt; dsimp only
  have m : Moves captureTags s (if showsSlave (captureSel u s.params) before s.inputs.din index = true then
      slaveEdgeAt u s else s) := .ite (fun _ => slaveEdgeAt_moves u s) fun _ => .refl _ s
  exact .ite (fun _ => m.trans (masterEdgeAt_moves u _)) fun _ => m

theorem captureEdges_moves (before : Byte) (index : Option Bool) (s : State) :
    Moves captureTags s (captureEdges before index s) :=
  (captureAt_moves _ _ _ s).trans (captureAt_moves _ _ _ _)

/-- The moves of a sample of the inputs. -/
def sampleTags : List Tag :=
  .inputs :: .cab .emergency :: .raised .operatorStop :: .cleared .operatorStop :: (captureTags ++ tripTags)

theorem sampleAfter_moves (before : Byte) (index : Option Bool) (i : Inputs) (s : State) :
    Moves sampleTags s (sampleAfter before index i s) :=
  (((Move.inputs i s).moves (by decide)).trans ((emergencySample_moves _).mono (by decide))).trans
    ((captureEdges_moves _ _ _).mono (by decide))

theorem sampleInputs_moves (i : Inputs) (s : State) : Moves sampleTags s (sampleInputs i s) :=
  sampleAfter_moves _ _ i s

/-! ### The line unit and the picture (R11, R17, R20, R44) -/

theorem CountersUp.of_eq {c c' : LineCounters} (h1 : c'.evicted = c.evicted) (h2 : c'.refused = c.refused)
    (h3 : c'.noTaker = c.noTaker) (h4 : c'.bitErrors = c.bitErrors) : CountersUp c c' :=
  ⟨.inl h1, .inl h2, h3, h4⟩

theorem countRefused_up (c : LineCounters) : CountersUp c { c with refused := bump c.refused } :=
  ⟨.inl rfl, .inr rfl, rfl, rfl⟩

/-- The moves of an entry that expires, once it has left the queue. -/
def expiryTags : List Tag := .count :: .tell :: ownerTags

theorem entryExpired_moves (s : State) (e : Entry) : Moves expiryTags s (entryExpired s e) := by
  have m := (Move.count (fun k => { k with expired := bump k.expired }) s (.of_eq rfl rfl rfl rfl)).moves
    (gs := expiryTags) (by decide)
  unfold entryExpired
  by_cases h : e.kind = .shareGrant
  · rw [outcomeFailed_grant h]
    exact m.trans ((Move.tell e _).moves (by decide))
  · exact m.trans ((outcomeFailed_moves h _).mono (by decide))

theorem ageQueue_eq (s : State) : ageQueue s = (queueGone s.time.cycle s.line.queue).foldl entryExpired
    (s.onLine fun l => { l with queue := queueLeft s.time.cycle l.queue }) := rfl

theorem ageQueue_moves (s : State) : Moves (.age :: expiryTags) s (ageQueue s) := by
  rw [ageQueue_eq]
  exact ((Move.age s).moves (by decide)).trans
    (.foldl _ (fun t e _ => (entryExpired_moves t e).mono (by decide)) _)

/-- The moves of the line unit's counts at a cycle start. -/
def duplicateTags : List Tag := [.line .duplicate, .cleared .duplicateStation, .note .duplicateStationClear]
def faultTags : List Tag := [.line .faultStarts, .rejoin, .note .lineRejoin]
def lineCountTags : List Tag := duplicateTags ++ faultTags

theorem duplicateCycle_moves (s : State) : Moves duplicateTags s (duplicateCycle s) := by
  unfold duplicateCycle
  refine .ite (fun _ => .refl _ s) fun _ => .ite (fun _ => ?_) fun _ => ?_
  · exact (((Move.line .duplicate (fun l => { l with dupCount := 0, dupCounting := false, dupHeld := false })
      s rfl).moves (by decide)).trans ((Move.cleared .duplicateStation none _).moves (by decide))).trans
        ((Move.note _ _).moves (by decide))
  · exact (Move.line .duplicate (fun l => { l with dupCount := l.dupCount + 1 }) s rfl).moves (by decide)

theorem faultCycle_moves (s : State) : Moves faultTags s (faultCycle s) := by
  unfold faultCycle; dsimp only
  refine .ite (fun hl => ?_) fun _ => .refl _ s
  have m := (Move.line .faultStarts (fun l => { l with faultStarts := s.line.faultStarts + 1 }) s rfl).moves
    (gs := faultTags) (by decide)
  have m2 := (Move.rejoin (s.onLine fun l => { l with faultStarts := s.line.faultStarts + 1 }) hl).moves
    (gs := faultTags) (by decide)
  exact .ite (fun _ => (m.trans m2).trans ((Move.note _ _).moves (by decide))) fun _ => m

/-- The moves of the picture's ageing. -/
def pictureTags : List Tag := [.ageing, .raised .peerSilent, .note .peerSilent]

theorem pictureCycle_moves (s : State) : Moves pictureTags s (pictureCycle s) := by
  unfold pictureCycle; dsimp only
  have m := ((Move.ageing s).moves (gs := pictureTags) (by decide)).trans
    (.foldl (f := fun s n => raiseQuiet .peerSilent (some n) s) (goingStale s)
      (fun t n _ => (Move.raised .peerSilent (some n) t (by decide)).moves (by decide)) _)
  exact .ite (fun _ => m) fun _ => m.trans ((Move.note _ _).moves (by decide))

/-! ### The share unit's returns (R105, R107) -/

/-- The moves of a return's placement. -/
def returnTags : List Tag := [.place .shareReturn, .failReturn, .dropped]

theorem sendReturn_moves (peer k : Nat) (g : Word) (s : State) : Moves returnTags s (sendReturn peer k g s) := by
  unfold sendReturn
  have m : ∀ {t a}, enqueue { kind := .shareReturn, target := toStation peer, words := grantWords k g } s
      = (t, a) → Moves returnTags s t := fun h =>
    enqueue_moves h (new_entry _ _ _ _ _ _) (by simp) (by simp [Kind.cls]) (by simp [returnTags])
  split
  · exact (m ‹_›).trans ((returnFailed_moves _ _ _ _).mono (by decide))
  · exact m ‹_›

/-- A record put to RETURNING keeps its loan. -/
theorem keepsLoan_returning (peer k : Nat) : KeepsLoan fun x => if x.peer == peer then
    { x with state := .returning, inFlight := some (k, x.grantNumber) } else x := by
  intro r
  dsimp only
  split <;> exact ⟨rfl, rfl, id⟩

theorem returnRecord_moves (peer k : Nat) (s : State) :
    Moves (.markLoans :: returnTags) s (returnRecord peer k s) := by
  unfold returnRecord
  split
  · exact .refl _ s
  · exact ((Move.markLoans _ s (keepsLoan_returning peer k)).moves (by decide)).trans
      ((sendReturn_moves _ _ _ _).mono (by decide))

theorem returnAll_moves (s : State) : Moves (.markLoans :: returnTags) s (returnAll s) :=
  .foldl _ (fun t r _ => returnRecord_moves r.peer r.count t) s

/-! ### The long cycle (R97, R98, R105, R106, R171, R179) -/

/-- The moves of the borrowed records' terms. -/
def termTags : List Tag := .markLoans :: .termOut :: .note .loanTermEnd :: returnTags

theorem borrowedTermOut_moves (s : State) (r : BorrowedRecord) : Moves termTags s (borrowedTermOut s r) := by
  unfold borrowedTermOut; dsimp only
  have m := ((Move.termOut r s).moves (gs := termTags) (by decide)).trans
    ((Move.note .loanTermEnd _).moves (by decide))
  exact .ite (fun _ => m) fun _ => m.trans ((sendReturn_moves _ _ _ _).mono (by decide))

theorem borrowedTerms_moves (s : State) : Moves termTags s (borrowedTerms s) := by
  unfold borrowedTerms; dsimp only
  exact ((Move.markLoans (fun r => { r with term := r.term - 1 }) s fun r => ⟨rfl, rfl, id⟩).moves
    (by decide)).trans (.foldl _ (fun t r _ => borrowedTermOut_moves t r) _)

theorem lentTerms_eq (s : State) : lentTerms s =
    if (s.share.lentRecords.any fun r => r.grace.isNone && decide (r.term ≤ 1))
        || !((s.share.lentRecords.map LentRecord.tick).filter fun r => r.grace == some 0).isEmpty then
      (s.onShare tickLent).note .loanGraceEnd
    else s.onShare tickLent := rfl

/-- The moves of the lent records' terms and of the quarantine. -/
def lentTags : List Tag := [.lentTerms, .note .loanGraceEnd]
def examTags : List Tag :=
  [.share .quarantine, .endQuarantine, .cleared .stationStarted, .note .quarantineEnd, .raised .configMismatch]
def quarantineTags : List Tag := lentTags ++ examTags

theorem lentTerms_moves (s : State) : Moves lentTags s (lentTerms s) := by
  rw [lentTerms_eq]
  have m := (Move.lentTerms s).moves (gs := lentTags) (by decide)
  exact .ite (fun _ => m.trans ((Move.note _ _).moves (by decide))) fun _ => m

theorem quarantineStep_moves {s : State} (hj : s.joined = true) :
    Moves examTags s (quarantineStep s) := by
  unfold quarantineStep; dsimp only
  have m := (Move.share .quarantine (fun h => { h with quarantine := min 257 (h.quarantine + 1) }) s rfl).moves
    (gs := examTags) (by decide)
  refine .ite (fun hq => .ite (fun _ => ?_) fun _ => ?_) fun _ => m
  · exact ((m.trans ((Move.endQuarantine _ hq.1 hj).moves (by decide))).trans
      ((Move.cleared _ _ _).moves (by decide))).trans ((Move.note _ _).moves (by decide))
  · exact m.trans (.foldl _ (fun t n _ => (Move.raised .configMismatch (some n) t (by decide)).moves (by decide)) _)

theorem joined_of_frame {bs : List Block} {s t : State} (h : Frame bs s t) (hb : Block.startup ∉ bs) :
    t.joined = s.joined := by
  have : t.startup = s.startup := h.1 .startup hb
  unfold State.joined
  rw [this]

theorem shareLongCycle_moves (s : State) : Moves (termTags ++ quarantineTags) s (shareLongCycle s) := by
  unfold shareLongCycle
  refine .ite (fun hj => ?_) fun _ => .refl _ s
  have hf : Frame returnBlocks s (lentTerms (borrowedTerms s)) :=
    (((onShare_frame s _).mono (by decide)).trans (.foldl borrowedTermOut_frame _ _)).trans
      ((lentTerms_frame _).mono (by decide))
  refine (((borrowedTerms_moves s).mono (by decide)).trans ((lentTerms_moves _).mono (by decide))).trans
    ((quarantineStep_moves ?_).mono (by decide))
  rw [joined_of_frame hf (by decide), hj]

/-- The moves of the refresh round and the table's ageing. -/
def roundTags : List Tag := [.report, .refresh]
def refreshTags : List Tag := roundTags ++ [.ageTable, .note .tablePurge, .note .longCycle]

theorem refreshRound_moves (s : State) : Moves roundTags s (refreshRound s) := by
  unfold refreshRound; dsimp only
  refine .ite (fun h => Moves.trans ?_ ((Move.refresh _ _).moves (by decide))) fun _ => .refl _ s
  split
  · next r hr => exact (Move.report r s (List.mem_of_getElem? hr) h.1).moves (by decide)
  · exact .refl _ s

theorem tableLongCycle_moves (s : State) : Moves refreshTags s (tableLongCycle s) := by
  unfold tableLongCycle; dsimp only
  have m := (Move.ageTable s).moves (gs := refreshTags) (by decide)
  exact .ite (fun _ => .ite (fun _ => m.trans ((Move.note _ _).moves (by decide))) fun _ => m) fun _ => .refl _ s

theorem longCycleWork_moves (s : State) : Moves (termTags ++ quarantineTags ++ refreshTags) s (longCycleWork s) :=
  ((((shareLongCycle_moves s).mono (by decide)).trans ((refreshRound_moves _).mono (by decide))).trans
    ((tableLongCycle_moves _).mono (by decide))).trans ((Move.note _ _).moves (by decide))

/-! ### The ring, the annunciator and the cab -/

theorem ringCycle_eq (s : State) : ringCycle s =
    if s.role.isAxis then
      (let t := s.onRing (ringAtStart s)
       if s.ring.starved = true ∧ (!t.ring.starved) = true then clearAlarm .referenceStarved none t
       else if (!s.ring.starved) = true ∧ t.ring.starved = true then
         (raiseQuiet .referenceStarved none t).note .referenceStarved
       else t)
    else s := rfl

/-- The moves of the ring at a cycle start. -/
def ringTags : List Tag := [.consume, .cleared .referenceStarved, .raised .referenceStarved, .note .referenceStarved]

theorem ringCycle_moves (s : State) : Moves ringTags s (ringCycle s) := by
  rw [ringCycle_eq]
  refine .ite (fun ha => ?_) fun _ => .refl _ s
  have m := (Move.consume s ha).moves (gs := ringTags) (by decide)
  refine .ite (fun _ => m.trans ((Move.cleared _ _ _).moves (by decide))) fun _ => .ite (fun _ => ?_) fun _ => m
  exact (m.trans ((Move.raised _ _ _ (by decide)).moves (by decide))).trans ((Move.note _ _).moves (by decide))

/-- The moves of the annunciator's counts. -/
def annunciatorTags : List Tag := [.table .flash, .note .flashPhaseInvert, .note .refusalFlashEnd]

theorem annunciatorCycle_moves (s : State) : Moves annunciatorTags s (annunciatorCycle s) := by
  unfold annunciatorCycle; dsimp only
  refine .ite (fun _ => ?_) fun _ => .refl _ s
  have m : ∀ g c [Decidable c], TableField.only .flash s.table (g s.table) →
      Moves annunciatorTags s (if c then (s.onTable g).note .flashPhaseInvert else s.onTable g) := by
    intro g c _ hg
    have m1 := (Move.table .flash g s hg).moves (gs := annunciatorTags) (by decide)
    exact .ite (fun _ => m1.trans ((Move.note _ _).moves (by decide))) fun _ => m1
  exact .ite (fun _ => (m _ _ (by exact rfl)).trans ((Move.note _ _).moves (by decide))) fun _ => m _ _ (by exact rfl)

/-- The moves of the cab's own cycle. -/
def handleTags : List Tag := [.cab .handles, .raised .handleFault, .cleared .handleFault]
def cabTags : List Tag :=
  handleTags ++ [.cab .walkMode, .cab .buttons, .table .refusal, .place .restart, .place .alarmAck, .place .reference]

theorem judgeHandle_moves (s : State) (k : Nat) : Moves handleTags s (judgeHandle s k) := by
  unfold judgeHandle; dsimp only
  have m := (Move.cab .handles
    (fun c => { c with handleFault := c.handleFault.set k (!handleInRange (Inputs.channel s.inputs k)) }) s
      ⟨rfl, List.length_set⟩).moves (gs := handleTags) (by decide)
  refine .ite (fun _ => m.trans ((Move.raised _ _ _ (by decide)).moves (by decide))) fun _ => .ite (fun _ => ?_)
    fun _ => m
  exact m.trans ((Move.cleared _ _ _).moves (by decide))

theorem restartPress_moves (s : State) : Moves cabTags s (restartPress s) := by
  unfold restartPress
  refine .ite (fun _ => ?_) fun _ => ?_
  · exact (Move.table .refusal (fun t => { t with refusalFlash := Config.refusalFlash }) s rfl).moves (by decide)
  · exact place_moves s (new_entry _ _ _ _ _ _) (by simp) (by simp [Kind.cls]) (by simp [cabTags])

theorem ackPress_moves (t : Stamp) (s : State) : Moves cabTags s (ackPress t s) :=
  place_moves s (new_entry _ _ _ _ _ _) (by simp) (by simp [Kind.cls]) (by simp [cabTags])

theorem sampleButtons_moves (s : State) : Moves cabTags s (sampleButtons s) := by
  unfold sampleButtons; dsimp only
  have m : ∀ g c [Decidable c], CabField.only .buttons s.cab (g s.cab) →
      Moves cabTags s (if c then restartPress (s.onCab g) else s.onCab g) := by
    intro g c _ hg
    have m1 := (Move.cab .buttons g s hg).moves (gs := cabTags) (by decide)
    exact .ite (fun _ => m1.trans (restartPress_moves _)) fun _ => m1
  exact .ite (fun _ => (m _ _ (by exact rfl)).trans (ackPress_moves _ _)) fun _ => m _ _ (by exact rfl)

theorem placeReference_moves (rank : Nat) (s : State) : Moves cabTags s (placeReference rank s) :=
  place_moves s (new_entry _ _ _ _ _ _) (by simp) (by simp [Kind.cls]) (by simp [cabTags])

theorem cabCycle_moves (s : State) : Moves cabTags s (cabCycle s) := by
  unfold cabCycle; dsimp only
  refine .ite (fun _ => ?_) fun _ => .refl _ s
  have m1 : Moves cabTags s ((List.range 4).foldl judgeHandle s) :=
    .foldl _ (fun t k _ => (judgeHandle_moves t k).mono (by decide)) s
  exact ((m1.trans ((Move.cab .walkMode (sampleWalkMode _) _ rfl).moves (by decide))).trans
    (sampleButtons_moves _)).trans (placeReference_moves _ _)

end Sys2Proof.Machine
end

section
/-! PROOFS. The drive chain, the axis functions, the share unit and the cycle start as chains of moves. -/

namespace Sys2Proof.Machine

/-! ### The drive chain's checks (R73 to R77, R89, R91, R92, R99) -/

/-- The moves of the measurement and of the need formed from it. -/
def measureTags : List Tag := [.drive .measured, .share .need]

/-- The moves of each check of R78's first step. -/
def currentTags : List Tag := .drive .overcurrent :: .cleared .overcurrent :: .raised .overcurrent :: tripTags
def linkTags : List Tag :=
  .drive .missing :: .note .fieldLinkLost :: .cleared .fieldLinkLost :: .raised .fieldLinkLost :: tripTags
def brakeTags : List Tag :=
  .drive .disagree :: .note .brakeFeedback :: .cleared .brakeFeedback :: .raised .brakeFeedback :: tripTags
def slipTags : List Tag :=
  .drive .slip :: .note .brakeSlip :: .cleared .brakeSlip :: .raised .brakeSlip :: tripTags

theorem measure_moves (s : State) : Moves measureTags s (measure s) := by
  unfold measure; dsimp only
  exact (Move.drive .measured _ s (by exact rfl)).moves (by decide)

theorem shareNeed_moves (s : State) : Moves measureTags s (shareNeed s) :=
  (Move.share .need _ s (by exact rfl)).moves (by decide)

theorem checkCurrent_moves (s : State) : Moves currentTags s (checkCurrent s) := by
  unfold checkCurrent; dsimp only
  have m : ∀ b, Moves currentTags s (s.onDrive fun d => { d with overcurrent := b }) := fun b =>
    (Move.drive .overcurrent _ s (by exact rfl)).moves (by decide)
  refine .ite (fun _ => (m _).trans ((raise_moves (by decide) _ _).mono (by decide))) fun _ => .ite (fun _ => ?_)
    fun _ => m _
  exact (m _).trans ((Move.cleared _ _ _).moves (by decide))

theorem checkLink_moves (s : State) : Moves linkTags s (checkLink s) := by
  unfold checkLink; dsimp only
  have m : ∀ n, Moves linkTags s (s.onDrive fun d => { d with missing := n }) := fun n =>
    (Move.drive .missing _ s (by exact rfl)).moves (by decide)
  refine .ite (fun _ => .refl _ s) fun _ => .ite (fun _ => .ite (fun _ => ?_) fun _ => m _) fun _ => ?_
  · exact ((m _).trans ((raise_moves (c := .fieldLinkLost) (by decide) _ _).mono (by decide))).trans
      ((Move.note _ _).moves (by decide))
  · exact (m _).trans ((Move.cleared _ _ _).moves (by decide))

theorem checkBrake_moves (s : State) : Moves brakeTags s (checkBrake s) := by
  unfold checkBrake; dsimp only
  have m : ∀ n, Moves brakeTags s (s.onDrive fun d => { d with disagree := n }) := fun n =>
    (Move.drive .disagree _ s (by exact rfl)).moves (by decide)
  refine .ite (fun _ => .ite (fun _ => ?_) fun _ => m _) fun _ => ?_
  · exact ((m _).trans ((raise_moves (c := .brakeFeedback) (by decide) _ _).mono (by decide))).trans
      ((Move.note _ _).moves (by decide))
  · exact (m _).trans ((Move.cleared _ _ _).moves (by decide))

theorem checkSlip_moves (s : State) : Moves slipTags s (checkSlip s) := by
  unfold checkSlip; dsimp only
  have m : ∀ n, Moves slipTags s (s.onDrive fun d => { d with slip := n }) := fun n =>
    (Move.drive .slip _ s (by exact rfl)).moves (by decide)
  refine .ite (fun _ => .ite (fun _ => ?_) fun _ => m _) fun _ => ?_
  · exact ((m _).trans ((raise_moves (c := .brakeSlip) (by decide) _ _).mono (by decide))).trans
      ((Move.note _ _).moves (by decide))
  · exact (m _).trans ((Move.cleared _ _ _).moves (by decide))

/-- The moves of R78's first step. -/
def checksTags : List Tag := currentTags ++ linkTags ++ brakeTags ++ slipTags

theorem driveChecks_moves (s : State) : Moves checksTags s (driveChecks s) :=
  ((((checkCurrent_moves s).mono (by decide)).trans ((checkLink_moves _).mono (by decide))).trans
    ((checkBrake_moves _).mono (by decide))).trans ((checkSlip_moves _).mono (by decide))

/-! ### The rope axis functions (chapter 7) -/

/-- The moves of the position, the overtravel and the limit at a rope station. -/
def ropeTags : List Tag :=
  .rope .measured :: .rope .encoderFault :: .rope .decalibration :: .rope .beyond :: .rope .limit :: .rope .report ::
    .raised .encoderFault :: .cleared .encoderFault :: .raised .zoneOvertravel :: .cleared .zoneOvertravel :: tripTags

/-- Those of the overtravel and of the limit. -/
def limitTags : List Tag := .rope .beyond :: .rope .limit :: .raised .zoneOvertravel :: .cleared .zoneOvertravel :: tripTags

theorem ropeMeasure_moves (s : State) : Moves ropeTags s (ropeMeasure s) := by
  unfold ropeMeasure; dsimp only
  exact (Move.rope .measured _ s (by exact rfl)).moves (by decide)

theorem ropeEncoder_moves (s : State) : Moves ropeTags s (ropeEncoder s) := by
  unfold ropeEncoder; dsimp only
  have m : ∀ b, Moves ropeTags s (s.onRope fun r => { r with encoderFault := b }) := fun b =>
    (Move.rope .encoderFault _ s (by exact rfl)).moves (by decide)
  refine .ite (fun _ => ?_) fun _ => .ite (fun _ => ?_) fun _ => m _
  · exact ((m _).trans ((Move.rope .decalibration (fun r => { r with calibrated := false }) _ rfl).moves
      (by decide))).trans ((raise_moves (by decide) _ _).mono (by decide))
  · exact (m _).trans ((Move.cleared _ _ _).moves (by decide))

theorem overtravel_moves (d : Nat) (s : State) : Moves limitTags s (raiseThenClear .zoneOvertravel (some d) s) :=
  (raiseThenClear_moves (by decide) _ _).mono (by decide)

theorem ropeOvertravel_moves (s : State) : Moves limitTags s (ropeOvertravel s) := by
  unfold ropeOvertravel; dsimp only
  have m1 : Moves limitTags s (if (s.rope.calibrated && beyondHaulIn s.params.rope s.rope.position)
        && !s.rope.beyondIn then
      raiseThenClear .zoneOvertravel (some 1) (s.onRope fun r =>
        { r with beyondIn := s.rope.calibrated && beyondHaulIn s.params.rope s.rope.position,
                 beyondOut := s.rope.calibrated && beyondPayout s.params.rope s.rope.position })
    else s.onRope fun r =>
        { r with beyondIn := s.rope.calibrated && beyondHaulIn s.params.rope s.rope.position,
                 beyondOut := s.rope.calibrated && beyondPayout s.params.rope s.rope.position }) := by
    have m := (Move.rope .beyond (fun r =>
        { r with beyondIn := s.rope.calibrated && beyondHaulIn s.params.rope s.rope.position,
                 beyondOut := s.rope.calibrated && beyondPayout s.params.rope s.rope.position }) s rfl).moves
      (gs := limitTags) (by decide)
    exact .ite (fun _ => m.trans (overtravel_moves 1 _)) fun _ => m
  exact .ite (fun _ => m1.trans (overtravel_moves 2 _)) fun _ => m1

theorem ropeHardLimit_moves (s : State) : Moves limitTags s (ropeHardLimit s) := by
  unfold ropeHardLimit; dsimp only
  have m := (Move.rope .limit (fun r => { r with limitPrev := some (hardLimitActive s) }) s rfl).moves
    (gs := limitTags) (by decide)
  exact .ite (fun _ => m.trans (overtravel_moves 3 _)) fun _ => m

theorem ropeReport_moves (s : State) : Moves ropeTags s (ropeReport s) :=
  (Move.rope .report _ s (by exact rfl)).moves (by decide)

/-- The moves of the hoist's class and overload, and of its slack. -/
def classTags : List Tag := [.rope .bucket, .rope .overload, .raised .overload, .cleared .overload]
def slackTags : List Tag := [.rope .slack, .raised .slackRope, .cleared .slackRope, .note .slackRope]
def hoistTags : List Tag := classTags ++ slackTags

theorem hoistClass_moves (s : State) : Moves classTags s (hoistClass s) :=
  (Move.rope .bucket _ s (by exact rfl)).moves (by decide)

theorem hoistOverload_moves (s : State) : Moves classTags s (hoistOverload s) := by
  unfold hoistOverload; dsimp only
  have m : ∀ b, Moves classTags s (s.onRope fun r => { r with overload := b }) := fun b =>
    (Move.rope .overload _ s (by exact rfl)).moves (by decide)
  refine .ite (fun _ => (m _).trans ((Move.raised _ _ _ (by decide)).moves (by decide))) fun _ => .ite (fun _ => ?_)
    fun _ => m _
  exact (m _).trans ((Move.cleared _ _ _).moves (by decide))

theorem hoistSlack_moves (s : State) : Moves slackTags s (hoistSlack s) := by
  unfold hoistSlack; dsimp only
  have m : ∀ n, Moves slackTags s (s.onRope fun r => { r with slack := n }) := fun n =>
    (Move.rope .slack _ s (by exact rfl)).moves (by decide)
  refine .ite (fun _ => ?_) fun _ => .ite (fun _ => ?_) fun _ => m _
  · exact ((m _).trans ((Move.raised .slackRope _ _ (by decide)).moves (by decide))).trans
      ((Move.note _ _).moves (by decide))
  · exact (m _).trans ((Move.cleared _ _ _).moves (by decide))

/-- The moves of the drag's ownership at a cycle start, one by one (R130, R132). -/
def ownershipTags : List Tag :=
  [.rope .transfer, .rope .yieldWait, .reclaim .yielded true, .reclaim .yielded false, .note .yieldWaitExpiry,
    .mute, .own .digging .yielded,
    .own .yielding .yielded, .own .reclaiming .yielded, .own .reclaiming .digging]

theorem dragToYielded_moves (s : State) : Moves [.mute, .rope .transfer, .own s.rope.ownership .yielded] s
    (dragToYielded s) := by
  have m1 := (Move.mute (fun e => e.kind == .xferYield) s).moves
    (gs := [.mute, .rope .transfer, .own s.rope.ownership .yielded]) (by simp)
  have m2 := (Move.rope .transfer (fun r => { r with walkSeen := true }) (ignoreYield s) rfl).moves
    (gs := [.mute, .rope .transfer, .own s.rope.ownership .yielded]) (by simp)
  have m3 := (Move.own .yielded ((ignoreYield s).onRope fun r => { r with walkSeen := true })).moves
    (gs := [.mute, .rope .transfer, .own s.rope.ownership .yielded]) (by simp [ignoreYield, muteEntries, muteWhere])
  exact (m1.trans m2).trans m3

theorem yieldedCycle_moves {s : State} (ho : s.rope.ownership = .yielded) :
    Moves ownershipTags s (yieldedCycle s) := by
  unfold yieldedCycle; dsimp only
  have reclaims : ∀ t : State, t.rope.ownership = .yielded → Moves ownershipTags t (enterReclaiming t) := by
    intro t ht
    have m := Move.reclaim t
    rw [ht] at m
    exact m.moves (by cases t.rope.yieldSent <;> decide)
  refine .ite (fun _ => (Move.rope .transfer _ s (by exact rfl)).moves (by decide)) fun _ => .ite (fun _ =>
    .ite (fun _ => reclaims s ho) fun _ => ?_) fun _ => .refl _ s
  have m := (Move.rope .yieldWait (fun r => { r with yieldWait := satAdd 1000 s.rope.yieldWait 1 }) s rfl).moves
    (gs := ownershipTags) (by decide)
  exact .ite (fun _ => (m.trans (reclaims _ ho)).trans ((Move.note _ _).moves (by decide))) fun _ => m

theorem ownershipCycle_moves (s : State) : Moves ownershipTags s (ownershipCycle s) := by
  have yields : ∀ v, s.rope.ownership = v → Tag.own v .yielded ∈ ownershipTags →
      Moves ownershipTags s (dragToYielded s) := by
    rintro v rfl hv
    refine (dragToYielded_moves s).mono fun g hg => ?_
    simp only [List.mem_cons, List.not_mem_nil, or_false] at hg
    obtain rfl | rfl | rfl := hg
    · decide
    · decide
    · exact hv
  unfold ownershipCycle
  split
  case h_1 ho => exact yieldedCycle_moves ho
  case h_2 ho => exact .ite (fun _ => yields _ ho (by decide)) fun _ => .refl _ s
  case h_3 ho => exact .ite (fun _ => yields _ ho (by decide)) fun _ => .refl _ s
  case h_4 ho =>
    refine .ite (fun _ => yields _ ho (by decide)) fun _ => .ite (fun _ => ?_) fun _ => .refl _ s
    have m := Move.own .digging s
    rw [ho] at m
    exact m.moves (by decide)

/-! ### The swing (chapter 8) -/

/-- The moves of the swing's circle and reports. -/
def swingTags : List Tag := [.swing .circle, .swing .report]

theorem swingStep_moves (s : State) : Moves swingTags s (swingStep s) :=
  ((Move.swing .circle (fun w =>
      { w with circle := circleCycle s.encoder s.drive.delta s.params.swing.countsPerRev w.circle }) s rfl).moves
    (by decide)).trans ((Move.swing .report (fun w => { w with parked := swingParked _, calReport := w.calibrated }) _
        rfl).moves (by decide))

/-! ### The walk (chapter 9) -/

/-- The moves of a walk's step count, and of its permissive. -/
def stepTags : List Tag := [.walk .stepCount, .raised .stepOvertime, .note .stepOvertime]
def permissiveTags : List Tag := [.walk .permissive, .cleared .walkPermissiveLost, .raised .walkPermissiveLost]

/-- The moves of a walk's transition at a cycle start, from each state it may leave. -/
def parkedTags : List Tag := [.count, .walk .askWait, .place .xferAsk, .walkTo .parked .asking]
def askingTags : List Tag :=
  [.walk .askWait, .place .xferAbort, .walkTo .asking .parked, .raised .transferRefused, .cleared .transferRefused,
    .note .askWaitExpiry]
def transferTags : List Tag :=
  [.walkTo .transferring .ready, .place .xferDone, .rearm, .coil, .walkTo .transferring .faulted, .place .xferAbort,
    .raised .transferFailed, .note .transferFailed]
def readyTags : List Tag := [.cleared .walkPermissiveLost, .coil, .walkTo .ready .returning]
def returningTags : List Tag :=
  [.place .xferRelease, .walkTo .returning .parked, .coil, .walkTo .returning .faulted, .place .xferAbort,
    .raised .transferFailed, .note .transferFailed] ++ (.markLoans :: returnTags)
def faultedStateTags : List Tag := [.walkTo .faulted .parked, .cleared .transferFailed]
def transitionTags : List Tag :=
  parkedTags ++ askingTags ++ transferTags ++ readyTags ++ returningTags ++ faultedStateTags

/-- The moves of the walk's part of a cycle start. -/
def walkTags : List Tag := .walk .counts :: (stepTags ++ transitionTags ++ permissiveTags)

theorem setWalkState_moves {v : WalkState} (w : WalkState) {s : State} (h : s.walk.state = v) {gs : List Tag}
    (hg : Tag.walkTo v w ∈ gs) : Moves gs s (setWalkState w s) := by
  subst h
  exact (Move.walkTo w s).moves hg

theorem place_walk (e : Entry) (s : State) : (place e s).walk = s.walk := (place_frame e s).1 .walk (by decide)

theorem enqueue_walk {e : Entry} {s t : State} {a : Admission} (h : enqueue e s = (t, a)) : t.walk = s.walk := by
  have : t = place e s := by rw [place, h]
  rw [this, place_walk]

theorem parkedCycle_moves {s : State} (hw : s.walk.state = .parked) : Moves parkedTags s (parkedCycle s) := by
  unfold parkedCycle
  refine .ite (fun _ => ?_) fun _ => .refl _ s
  split
  · exact (Move.count _ s (countRefused_up _)).moves (by decide)
  · next t a _ heq =>
    refine (((enqueue_moves heq (new_entry _ _ _ _ _ _) (by simp) (by simp [Kind.cls])
      (show Tag.place .xferAsk ∈ parkedTags by decide)).trans
      ((Move.walk .askWait (fun k => { k with askWait := 0 }) t rfl).moves (by decide)))).trans
        (setWalkState_moves .asking (v := .parked) ?_ (by decide))
    rw [State.onWalk_walk, enqueue_walk heq, hw]

theorem placeAbort_moves (cause : Nat) (s : State) : Moves askingTags s (placeAbort cause s) :=
  place_moves s (new_entry _ _ _ _ _ _) (by simp) (by simp [Kind.cls]) (show Tag.place .xferAbort ∈ askingTags by decide)

theorem askingCycle_moves {s : State} (hw : s.walk.state = .asking) : Moves askingTags s (askingCycle s) := by
  unfold askingCycle; dsimp only
  have m := (Move.walk .askWait (fun k => { k with askWait := s.walk.askWait + 1 }) s rfl).moves
    (gs := askingTags) (by decide)
  have ma := fun c => m.trans (placeAbort_moves c _)
  have hs : ∀ c, (placeAbort c (s.onWalk fun k => { k with askWait := s.walk.askWait + 1 })).walk.state = .asking :=
    fun c => by rw [placeAbort, place_walk, State.onWalk_walk, hw]
  refine .ite (fun _ => (ma _).trans (setWalkState_moves .parked (hs _) (by decide))) fun _ => .ite (fun _ => ?_)
    fun _ => m
  exact ((ma _).trans ((transferRefused_moves _ (hs _)).mono (by decide))).trans ((Move.note _ _).moves (by decide))

theorem enterReady_moves {s : State} (hw : s.walk.state = .transferring) : Moves transferTags s (enterReady s) :=
  ((setWalkState_moves .ready hw (by decide)).trans
    (place_moves _ (new_entry _ _ _ _ _ _) (by simp) (by simp [Kind.cls])
      (show Tag.place .xferDone ∈ transferTags by decide))).trans
      ((Move.rearm _).moves (by decide))

theorem transferringCycle_moves {s : State} (hw : s.walk.state = .transferring) :
    Moves transferTags s (transferringCycle s) := by
  unfold transferringCycle
  refine .ite (fun _ => enterReady_moves hw) fun _ => .ite (fun _ => ?_) fun _ => .refl _ s
  exact ((hw ▸ enterFaulted_moves 1 s).mono (by decide)).trans ((Move.note _ _).moves (by decide))

theorem readyCycle_moves {s : State} (hw : s.walk.state = .ready) : Moves readyTags s (readyCycle s) := by
  unfold readyCycle
  refine .ite (fun _ => ?_) fun _ => .refl _ s
  exact (((Move.coil s).moves (gs := readyTags) (by decide)).trans
    (setWalkState_moves .returning (s := setCoil false s) hw (by decide))).trans
    ((Move.cleared _ _ _).moves (by decide))

theorem returningCycle_moves {s : State} (hw : s.walk.state = .returning) :
    Moves returningTags s (returningCycle s) := by
  unfold returningCycle; dsimp only
  refine .ite (fun _ => ?_) fun _ => .ite (fun _ => ?_) fun _ => .refl _ s
  · refine (((returnAll_moves s).mono (by decide)).trans
      (place_moves _ (new_entry _ _ _ _ _ _) (by simp) (by simp [Kind.cls])
        (show Tag.place .xferRelease ∈ returningTags by decide))).trans
        (setWalkState_moves .parked (v := .returning) ?_ (by decide))
    rw [place_walk, (returnAll_frame s).1 .walk (by decide), hw]
  · exact ((hw ▸ enterFaulted_moves 2 s).mono (by decide)).trans ((Move.note _ _).moves (by decide))

theorem faultedCycle_moves {s : State} (hw : s.walk.state = .faulted) : Moves faultedStateTags s (faultedCycle s) := by
  unfold faultedCycle
  refine .ite (fun _ => ?_) fun _ => .refl _ s
  exact (setWalkState_moves .parked hw (by decide)).trans
    (.foldl _ (fun t d _ => (Move.cleared _ _ t).moves (by decide)) _)

theorem walkTransition_moves (s : State) : Moves transitionTags s (walkTransition s) := by
  unfold walkTransition
  split
  · exact (parkedCycle_moves ‹_›).mono (by decide)
  · exact (askingCycle_moves ‹_›).mono (by decide)
  · exact (transferringCycle_moves ‹_›).mono (by decide)
  · exact (readyCycle_moves ‹_›).mono (by decide)
  · exact .refl _ s
  · exact .refl _ s
  · exact (returningCycle_moves ‹_›).mono (by decide)
  · exact (faultedCycle_moves ‹_›).mono (by decide)

theorem stepCycle_moves (s : State) : Moves stepTags s (stepCycle s) := by
  unfold stepCycle; dsimp only
  have m : ∀ n, Moves stepTags s (s.onWalk fun k => { k with stepCount := n }) := fun n =>
    (Move.walk .stepCount _ s (by exact rfl)).moves (by decide)
  refine .ite (fun _ => .ite (fun _ => ?_) fun _ => m _) fun _ => .refl _ s
  exact ((m _).trans ((Move.raised .stepOvertime _ _ (by decide)).moves (by decide))).trans
    ((Move.note _ _).moves (by decide))

theorem permissiveCycle_moves (s : State) : Moves permissiveTags s (permissiveCycle s) := by
  unfold permissiveCycle
  have m : ∀ b, Moves permissiveTags s (s.onWalk fun k => { k with permissiveLost := b }) := fun b =>
    (Move.walk .permissive _ s (by exact rfl)).moves (by decide)
  refine .ite (fun _ => (m _).trans ((Move.cleared _ _ _).moves (by decide))) fun _ => .ite (fun _ => ?_)
    fun _ => .refl _ s
  exact (m _).trans ((Move.raised _ _ _ (by decide)).moves (by decide))

theorem walkStep_moves (s : State) : Moves walkTags s (walkStep s) :=
  ((((Move.walk .counts (fun k =>
      { k with circle := circleCycle s.encoder s.drive.delta s.params.walk.countsPerRev k.circle,
               stateCount := satAdd Config.counterMax k.stateCount 1 }) s rfl).moves (by decide)).trans
    ((stepCycle_moves _).mono (by decide))).trans ((walkTransition_moves _).mono (by decide))).trans
      ((permissiveCycle_moves _).mono (by decide))

/-! ### The axis function's step and the stages (R78) -/

/-- The moves of the axis function's step. -/
def axisTags : List Tag := ropeTags ++ hoistTags ++ ownershipTags ++ swingTags ++ walkTags

/-- The first part of the rope axis function's step, the hoist's and the drag's alike. -/
def ropeFirst (s : State) : State := ropeReport (ropeHardLimit (ropeOvertravel (ropeEncoder (ropeMeasure s))))

theorem ropeFirst_moves (s : State) : Moves ropeTags s (ropeFirst s) :=
  (((ropeMeasure_moves s).trans (ropeEncoder_moves _)).trans
    (((ropeOvertravel_moves _).trans (ropeHardLimit_moves _)).mono (by decide))).trans (ropeReport_moves _)

theorem ropeStep_hoist {s : State} (h : s.role = .hoist) :
    ropeStep s = hoistSlack (hoistOverload (hoistClass (ropeFirst s))) := by
  have hf : (ropeFirst s).role = .hoist := (ropeFirst_moves s).role.trans h
  unfold ropeStep; dsimp only
  unfold ropeFirst at hf ⊢
  rw [hf]

theorem ropeStep_drag {s : State} (h : s.role = .drag) : ropeStep s = ownershipCycle (ropeFirst s) := by
  have hf : (ropeFirst s).role = .drag := (ropeFirst_moves s).role.trans h
  unfold ropeStep; dsimp only
  unfold ropeFirst at hf ⊢
  rw [hf]

theorem axisStep_hoist {s : State} (h : s.role = .hoist) :
    axisStep s = hoistSlack (hoistOverload (hoistClass (ropeFirst s))) := by
  rw [← ropeStep_hoist h, axisStep, h]

theorem axisStep_drag {s : State} (h : s.role = .drag) : axisStep s = ownershipCycle (ropeFirst s) := by
  rw [← ropeStep_drag h, axisStep, h]

theorem axisStep_swing {s : State} (h : s.role = .swing) : axisStep s = swingStep s := by rw [axisStep, h]

theorem axisStep_walk {s : State} (h : s.role = .walk) : axisStep s = walkStep s := by rw [axisStep, h]

theorem axisStep_moves (s : State) : Moves axisTags s (axisStep s) := by
  cases h : s.role with
  | hoist =>
    rw [axisStep_hoist h]
    exact ((ropeFirst_moves s).mono (by decide)).trans
      ((((hoistClass_moves _).trans (hoistOverload_moves _)).mono (by decide)).trans ((hoistSlack_moves _).mono (by decide)))
  | drag =>
    rw [axisStep_drag h]
    exact ((ropeFirst_moves s).mono (by decide)).trans ((ownershipCycle_moves _).mono (by decide))
  | swing => rw [axisStep_swing h]; exact (swingStep_moves s).mono (by decide)
  | walk => rw [axisStep_walk h]; exact (walkStep_moves s).mono (by decide)
  | none | cab => rw [axisStep, h]; exact .refl _ s

/-- The moves of steps 1 and 2 of R78. -/
def inputsTags : List Tag := measureTags ++ checksTags ++ axisTags

theorem chainInputs_moves (s : State) : Moves inputsTags s (chainInputs s) :=
  ((((measure_moves s).trans (shareNeed_moves _)).mono fun _ h => by simp [inputsTags, h]).trans
    ((driveChecks_moves _).mono fun _ h => by simp [inputsTags, h])).trans
      ((axisStep_moves _).mono fun _ h => by simp [inputsTags, h])

/-- The moves of what the axis function judges on the target. -/
def judgeTags : List Tag :=
  [.rope .tightLine, .raised .tightLineLimit, .cleared .tightLineLimit, .swing .refusal, .raised .swingNotPermitted,
    .cleared .swingNotPermitted]

theorem tightBite_moves (s : State) : Moves judgeTags s (tightBite s) := by
  unfold tightBite; dsimp only
  have m : ∀ b, Moves judgeTags s (s.onRope fun r => { r with tightLine := b }) := fun b =>
    (Move.rope .tightLine _ s (by exact rfl)).moves (by decide)
  refine .ite (fun _ => (m _).trans ((Move.raised _ _ _ (by decide)).moves (by decide))) fun _ => .ite (fun _ => ?_)
    fun _ => m _
  exact (m _).trans ((Move.cleared _ _ _).moves (by decide))

theorem swingRefusal_moves (s : State) : Moves judgeTags s (swingRefusal s) := by
  unfold swingRefusal; dsimp only
  have m : ∀ b, Moves judgeTags s (s.onSwing fun w => { w with notPermitted := b }) := fun b =>
    (Move.swing .refusal _ s (by exact rfl)).moves (by decide)
  refine .ite (fun _ => (m _).trans ((Move.raised _ _ _ (by decide)).moves (by decide))) fun _ => .ite (fun _ => ?_)
    fun _ => m _
  exact (m _).trans ((Move.cleared _ _ _).moves (by decide))

theorem axisJudge_moves (s : State) : Moves judgeTags s (axisJudge s) := by
  unfold axisJudge
  split
  · exact tightBite_moves s
  · exact swingRefusal_moves s
  all_goals exact .refl _ s

/-- The move of the post-inhibit target. -/
def targetTags : List Tag := [.drive .target]

theorem chainTarget_moves (s : State) : Moves targetTags s (chainTarget s) :=
  (Move.drive .target (fun d =>
    { d with postTarget := stageInhibits (axisPermissive s) s (stageReference s.ring.current) }) s rfl).moves
      (by decide)

/-- The moves of the stall count. -/
def stallTags : List Tag :=
  .drive .stall :: .raised .stallHeld :: .cleared .stallHeld :: .note .stallHeld :: tripTags

/-- The moves of the stages. -/
def stagesTags : List Tag := .output :: stallTags

theorem countStall_moves (b : Bool) (s : State) : Moves stallTags s (countStall b s) := by
  unfold countStall; dsimp only
  have m : ∀ n, Moves stallTags s (s.onDrive fun d => { d with stall := n }) := fun n =>
    (Move.drive .stall _ s (by exact rfl)).moves (by decide)
  refine .ite (fun _ => ?_) fun _ => .ite (fun _ => ?_) fun _ => m _
  · exact ((m _).trans ((raise_moves (c := .stallHeld) (by decide) _ _).mono (by decide))).trans
      ((Move.note _ _).moves (by decide))
  · exact (m _).trans ((Move.cleared _ _ _).moves (by decide))

section
variable {s : State} (hj : s.joined = true) (ha : s.role.isAxis = true)
include hj ha

theorem chainStages_moves : Moves stagesTags s (chainStages s) :=
  ((Move.output (axisBounds s) s.drive.postTarget s rfl hj ha).moves (by decide)).trans
    ((countStall_moves _ _).mono (by decide))

/-- The moves of the brake logic and of the frame. -/
def outputsTags : List Tag := [.brake, .note .brakeSet, .linkFrame]

theorem brakeLogic_moves (x : Int) : Moves outputsTags s (brakeLogic x s) := by
  have m := fun (b : Brake) (n : Nat) h => (Move.brake b n s h hj ha).moves (gs := outputsTags) (by decide)
  unfold brakeLogic; dsimp only
  refine .ite (fun _ => m .set 0 fun _ => rfl) fun hm => ?_
  have run : ∀ b : Brake, s.alarms.mode ≠ .run → b = .set := fun _ h => absurd h hm
  split
  · exact .ite (fun _ => m .released 0 (run _)) fun _ => .refl _ s
  · next hb =>
    have stays : ∀ n, Moves outputsTags s (s.onDrive fun d => { d with delay := n }) := by
      intro n
      have h := m .released n (run _)
      rwa [State.onDrive, ← hb] at h
    refine .ite (fun _ => stays 0) fun _ => .ite (fun _ => ?_) fun _ => stays _
    exact (m .set _ (run _)).trans ((Move.note _ _).moves (by decide))

/-- The moves of steps 3 to 5 of R78. -/
def outTags : List Tag := targetTags ++ judgeTags ++ stagesTags ++ outputsTags

theorem chainOutputs_moves : Moves outTags s (chainOutputs s) := by
  have m1 : Moves (targetTags ++ judgeTags) s (axisJudge (chainTarget s)) :=
    ((chainTarget_moves s).mono (by decide)).trans ((axisJudge_moves _).mono (by decide))
  have m2 := chainStages_moves (m1.joined.trans hj) (m1.role ▸ ha)
  have j2 := m2.joined.trans (m1.joined.trans hj)
  have a2 : (chainStages (axisJudge (chainTarget s))).role.isAxis = true := by rw [m2.role, m1.role, ha]
  have m3 := brakeLogic_moves j2 a2 (brakeTarget (chainStages (axisJudge (chainTarget s))))
  have m4 := (Move.linkFrame _ (m3.joined.trans j2) (m3.role ▸ a2)).moves (gs := outputsTags) (by decide)
  exact (m1.mono (by decide)).trans ((m2.mono (by decide)).trans ((m3.trans m4).mono (by decide)))

end

/-! ### The yield, the step and the contactor checks (R129, R147, R148, R153) -/

/-- The moves of a grant and its XFER-YIELD, and of the drag's yield. -/
def sendTags : List Tag := [.rope .yieldSent, .grant, .place .xferYield, .reclaim .yielding true]
def yieldTags : List Tag :=
  .rope .yieldCount :: .place .xferRefuse :: .own .yielding .digging :: .note .yieldLimit :: sendTags

theorem requestGrant_moves (peer count : Nat) (s : State) : Moves sendTags s (requestGrant peer count s) := by
  unfold requestGrant; dsimp only
  refine .ite (fun _ => .refl _ s) fun hk => ?_
  exact (Move.grant peer _ s (fun h => hk (.inl h)) (Nat.min_le_right _ _)).moves (by decide)

/-- An XFER-YIELD that ends other than delivered makes the drag reclaim (R130). -/
theorem outcomeFailed_yield_moves {e : Entry} (h : e.kind = .xferYield) (s : State) :
    Moves [.reclaim .yielding true] s (outcomeFailed e s) := by
  unfold outcomeFailed
  rw [h]
  refine .ite (fun ha => ?_) fun _ => .refl _ s
  have m := Move.reclaim s
  rw [ha.1, ha.2.1] at m
  exact m.moves (by decide)

theorem sendYield_moves (s : State) : Moves sendTags s (sendYield s) := by
  unfold sendYield; dsimp only
  have m : Moves sendTags s ((if 0 < s.share.own - s.params.reserve then
      requestGrant ((s.numberOf .walk).getD 0) (s.share.own - s.params.reserve) s else s).onRope
        fun r => { r with yieldSent := true }) :=
    (Moves.ite (fun _ => requestGrant_moves _ _ s) fun _ => .refl _ s).trans
      ((Move.rope .yieldSent (fun r => { r with yieldSent := true }) _ rfl).moves (by decide))
  have placed : ∀ {e : Entry} {t u : State} {a}, enqueue e t = (u, a) → e.New → e.kind = .xferYield →
      Moves sendTags t u := fun h hn hk => enqueue_moves h hn (by simp [hk]) (by simp [hk, Kind.cls])
        (by rw [hk]; decide)
  split
  · next heq =>
    exact (m.trans (placed heq (new_entry _ _ _ _ _ _) rfl)).trans
      ((outcomeFailed_yield_moves rfl _).mono (by decide))
  · next heq => exact m.trans (placed heq (new_entry _ _ _ _ _ _) rfl)

theorem place_rope (e : Entry) (s : State) : (place e s).rope = s.rope := (place_frame e s).1 .rope (by decide)

theorem setOwnership_moves {v : Ownership} (w : Ownership) {s : State} (h : s.rope.ownership = v) {gs : List Tag}
    (hg : Tag.own v w ∈ gs) : Moves gs s (setOwnership w s) := by
  subst h
  exact (Move.own w s).moves hg

theorem yieldJudge_moves (s : State) : Moves yieldTags s (yieldJudge s) := by
  unfold yieldJudge; dsimp only
  refine .ite (fun hy => ?_) fun _ => .refl _ s
  have m := (Move.rope .yieldCount (fun r => { r with yieldCount := s.rope.yieldCount + 1 }) s rfl).moves
    (gs := yieldTags) (by decide)
  refine .ite (fun _ => m.trans ((sendYield_moves _).mono (by decide))) fun _ => .ite (fun _ => ?_) fun _ => m
  refine ((m.trans (place_moves _ (new_entry _ _ _ _ _ _) (by simp) (by simp [Kind.cls])
    (show Tag.place .xferRefuse ∈ yieldTags by decide))).trans
      (setOwnership_moves .digging (v := .yielding) ?_ (by decide))).trans ((Move.note _ _).moves (by decide))
  rw [place_rope, State.onRope_rope, hy.2.1]

/-- The moves of the walk's start and of the contactor checks. -/
def startTags : List Tag := [.walk .stepBegin, .walkTo .ready .stepping]
def disagreeTags : List Tag :=
  .contactor :: .cleared .contactorDisagree :: .raised .contactorDisagree :: .note .contactorDisagree :: tripTags
def contraryTags : List Tag :=
  .contactor :: .cleared .contactorDisagree :: .raised .contactorDisagree :: .note .contactorContrary :: tripTags
def contactorTags : List Tag := .drive .ran :: (startTags ++ disagreeTags ++ contraryTags)

theorem walkStart_moves (s : State) : Moves startTags s (walkStart s) := by
  unfold walkStart
  refine .ite (fun hw => ?_) fun _ => .refl _ s
  exact ((Move.walk .stepBegin (fun k => { k with stepCount := 0 }) s ⟨rfl, .inl rfl⟩).moves (by decide)).trans
    (setWalkState_moves .stepping (s := s.onWalk fun k => { k with stepCount := 0 }) hw.2.1 (by decide))

theorem checkDisagree_moves (s : State) : Moves disagreeTags s (checkDisagree s) := by
  unfold checkDisagree; dsimp only
  have m : ∀ g, Moves disagreeTags s (s.onContactor g) := fun g => (Move.contactor g s).moves (by decide)
  have c : ∀ d t, Moves disagreeTags t (clearAlarm .contactorDisagree d t) := fun d t =>
    (Move.cleared _ d t).moves (by decide)
  refine .ite (fun _ => ((m _).trans (c _ _)).trans (c _ _)) fun _ => .ite (fun _ => ?_) fun _ => m _
  exact ((m _).trans ((raise_moves (c := .contactorDisagree) (by decide) _ _).mono (by decide))).trans
    ((Move.note _ _).moves (by decide))

theorem checkContrary_moves (s : State) : Moves contraryTags s (checkContrary s) := by
  unfold checkContrary; dsimp only
  have m : ∀ g, Moves contraryTags s (s.onContactor g) := fun g => (Move.contactor g s).moves (by decide)
  refine .ite (fun _ => .ite (fun _ => ?_) fun _ => m _) fun _ => ?_
  · exact ((m _).trans ((raise_moves (c := .contactorDisagree) (by decide) _ _).mono (by decide))).trans
      ((Move.note _ _).moves (by decide))
  · exact (m _).trans ((Move.cleared _ _ _).moves (by decide))

theorem contactorChecks_moves (s : State) : Moves contactorTags s (contactorChecks s) := by
  unfold contactorChecks
  split
  · exact (checkDisagree_moves s).mono (by decide)
  · exact ((checkDisagree_moves s).mono (by decide)).trans ((checkContrary_moves _).mono (by decide))
  all_goals exact .refl _ s

/-- The moves of what follows the frame. -/
def afterTags : List Tag := yieldTags ++ contactorTags

theorem chainAfter_moves (s : State) : Moves afterTags s (chainAfter s) :=
  ((yieldJudge_moves s).mono (by decide)).trans (((((walkStart_moves _).mono (by decide)).trans (contactorChecks_moves _)).trans
    ((Move.drive .ran (fun d => { d with ran := true }) _ rfl).moves (by decide))).mono (by decide))

/-- The moves of the drive chain and the axis function at a cycle start. -/
def chainTags : List Tag := inputsTags ++ outTags ++ afterTags

theorem chainCycle_moves (s : State) : Moves chainTags s (chainCycle s) := by
  unfold chainCycle
  refine .ite (fun h => ?_) fun _ => .refl _ s
  obtain ⟨hj, ha⟩ : s.joined = true ∧ s.role.isAxis = true := by simpa using h
  have m := chainInputs_moves s
  exact ((m.mono fun _ h => by simp [chainTags, h]).trans
    ((chainOutputs_moves (m.joined.trans hj) (m.role ▸ ha)).mono fun _ h => by simp [chainTags, h])).trans
      ((chainAfter_moves _).mono fun _ h => by simp [chainTags, h])

end Sys2Proof.Machine
end

section
/-! PROOFS. The share unit's cycle, the status point and the whole cycle start as chains of moves. -/

namespace Sys2Proof.Machine

/-! ### The share unit at a cycle start (R100, R101, R107, R111) -/

/-- The moves of the ask and of the pressure. -/
def waitTags : List Tag := [.share .ask, .mute, .note .askWaitEnd]
def pressTags : List Tag := [.share .pressure, .place .shareRecall, .place .shareAsk, .share .ask, .note .pressure]
def pressureTags : List Tag := waitTags ++ pressTags

theorem endAsk_moves (s : State) : Moves waitTags s (endAsk s) :=
  ((Move.share .ask (fun h => { h with ask := none }) s rfl).moves (by decide)).trans
    ((Move.mute _ _).moves (by decide))

theorem askWaitCycle_moves (s : State) : Moves waitTags s (askWaitCycle s) := by
  unfold askWaitCycle
  split
  · exact .refl _ s
  · refine .ite (fun _ => (endAsk_moves s).trans ((Move.note _ _).moves (by decide))) fun _ => ?_
    exact (Move.share .ask _ s (by exact rfl)).moves (by decide)

theorem onPressure_moves (n : Nat) (s : State) :
    Moves pressTags s (s.onShare fun h => { h with pressure := n }) :=
  (Move.share .pressure (fun h => { h with pressure := n }) s rfl).moves (by decide)

theorem placeRecall_moves (r : LentRecord) (s : State) : Moves pressTags s (placeRecall r s) := by
  have m : ∀ {t a}, enqueue
      { kind := .shareRecall, target := toStation r.peer, words := countWords (shortfall r.count s) } s = (t, a) →
      Moves pressTags s t := fun h =>
    enqueue_moves h (new_entry _ _ _ _ _ _) (by simp) (by simp [Kind.cls])
      (show Tag.place .shareRecall ∈ pressTags by decide)
  unfold placeRecall
  split
  · exact m ‹_›
  · exact (m ‹_›).trans (onPressure_moves 0 _)

theorem placeAsk_moves (peer : Nat) (s : State) : Moves pressTags s (placeAsk peer s) := by
  have m : ∀ {t a}, enqueue
      { kind := .shareAsk, target := toStation peer, words := countWords (shortfall Config.tokens s) } s = (t, a) →
      Moves pressTags s t := fun h =>
    enqueue_moves h (new_entry _ _ _ _ _ _) (by simp) (by simp [Kind.cls])
      (show Tag.place .shareAsk ∈ pressTags by decide)
  unfold placeAsk
  split
  · exact m ‹_›
  · exact ((m ‹_›).trans ((Move.share .ask (fun h => { h with ask := some ⟨peer, 0⟩ }) _ rfl).moves
      (by decide))).trans (onPressure_moves 0 _)

theorem pressureAct_moves (s : State) : Moves pressTags s (pressureAct s) := by
  have noted : ∀ t, Moves pressTags t (t.note .pressure) := fun t => (Move.note _ t).moves (by decide)
  unfold pressureAct
  refine .ite (fun _ => .refl _ s) fun _ => ?_
  split
  · exact (placeRecall_moves _ s).trans (noted _)
  · refine .ite (fun _ => .refl _ s) fun _ => ?_
    split
    · exact .refl _ s
    · exact (placeAsk_moves _ s).trans (noted _)

theorem pressureCycle_moves (s : State) : Moves pressTags s (pressureCycle s) := by
  unfold pressureCycle; dsimp only
  have m := (Move.share .pressure (fun h =>
    { h with pressure := if overdrawn s then satAdd Config.pressureLimit h.pressure 1 else 0 }) s rfl).moves
      (gs := pressTags) (by decide)
  exact .ite (fun _ => m.trans (pressureAct_moves _)) fun _ => m

/-- The moves of the voluntary and the shed returns. -/
def shedTags : List Tag := .markLoans :: returnTags
def releaseTags : List Tag := .share .voluntary :: .note .voluntaryReturn :: shedTags

theorem onVoluntary_moves (n : Nat) (s : State) :
    Moves releaseTags s (s.onShare fun h => { h with voluntary := n }) :=
  (Move.share .voluntary (fun h => { h with voluntary := n }) s rfl).moves (by decide)

theorem voluntaryCycle_moves (s : State) : Moves releaseTags s (voluntaryCycle s) := by
  unfold voluntaryCycle
  split
  · exact onVoluntary_moves 0 s
  · refine .ite (fun _ => onVoluntary_moves 0 s) fun _ => .ite (fun _ => ?_) fun _ => ?_
    · exact ((onVoluntary_moves 0 s).trans ((returnRecord_moves _ _ _).mono (by decide))).trans
        ((Move.note _ _).moves (by decide))
    · exact (Move.share .voluntary (fun h => { h with voluntary := h.voluntary + 1 }) s rfl).moves (by decide)

/-- A record waits on to shed. -/
theorem keepsLoan_shedWait : KeepsLoan fun r =>
    if r.state == .shedding then { r with shedWait := min Config.shareWait (r.shedWait + 1) } else r := by
  intro r
  dsimp only
  split <;> exact ⟨rfl, rfl, id⟩

theorem shedCycle_moves (s : State) : Moves shedTags s (shedCycle s) := by
  unfold shedCycle; dsimp only
  exact ((Move.markLoans _ s keepsLoan_shedWait).moves (by decide)).trans
    (.foldl _ (fun t r _ => (returnRecord_moves _ _ t).mono (by decide)) _)

/-- The moves of the share unit at a cycle start. -/
def shareTags : List Tag := pressureTags ++ releaseTags

theorem shareCycle_moves (s : State) : Moves shareTags s (shareCycle s) := by
  unfold shareCycle
  refine .ite (fun _ => ?_) fun _ => .refl _ s
  exact (((askWaitCycle_moves s).mono (by decide)).trans ((pressureCycle_moves _).mono (by decide))).trans
    (((voluntaryCycle_moves _).mono (by decide)).trans ((shedCycle_moves _).mono (by decide)))

/-! ### The REPLY and the status point (R18, R28, R46) -/

/-- The moves of the answered query and of the status point. -/
def replyTags : List Tag := [.place .reply, .queries]
def statusTags : List Tag :=
  replyTags ++ [.settle, .line .arbitration, .statusTime, .sequence, .line .txSeq, .place .status]

theorem enqueue_queries {e : Entry} {s t : State} {a : Admission} (h : enqueue e s = (t, a)) :
    t.line.queries = s.line.queries := by
  obtain ⟨q, c, rfl⟩ := queueOnly_of_enqueue h
  rfl

theorem answerQuery_moves (s : State) : Moves replyTags s (answerQuery s) := by
  unfold answerQuery
  split
  · exact .refl _ s
  · next q rest hq =>
    have m : ∀ {t a}, enqueue { kind := .reply, target := q.tag.setWidth 4, words := replyWords s q } s = (t, a) →
        Moves replyTags s t := fun h => enqueue_moves h (new_entry _ _ _ _ _ _) (by simp) (by simp [Kind.cls])
          (show Tag.place .reply ∈ replyTags by decide)
    split
    · exact m ‹_›
    · next t a _ heq =>
      exact (m heq).trans ((Move.queries t rest q ((enqueue_queries heq).trans hq)).moves (by decide))

theorem reSequence_moves (seq : Byte) (s : State) : Moves statusTags s (reSequence seq s) := by
  unfold reSequence
  refine .ite (fun _ => ?_) fun _ => .refl _ s
  exact (Move.line .txSeq (fun l => { l with txSeq := seq }) s rfl).moves (by decide)

theorem composeStatus_moves (s : State) : Moves statusTags s (composeStatus s) := by
  unfold composeStatus; dsimp only
  refine .ite (fun _ => ?_) fun _ => .refl _ s
  exact (((Move.sequence _ s).moves (by decide)).trans (reSequence_moves _ _)).trans
    (place_moves _ (new_entry _ _ _ _ _ _) (by simp) (by simp [Kind.cls])
      (show Tag.place .status ∈ statusTags by decide))

theorem elapse_moves (n : Nat) (s : State) : Moves statusTags s (elapse n s) :=
  (Move.line .arbitration (fun l => { l with arbitration := l.arbitration - n }) s rfl).moves (by decide)

theorem statusPointNow_moves (s : State) : Moves statusTags s (statusPointNow s) := by
  unfold statusPointNow
  refine .ite (fun h => ?_) fun _ => .refl _ s
  obtain ⟨hr, -⟩ : s.time.running = true ∧ _ := by simpa using h
  exact ((elapse_moves _ s).trans ((Move.statusTime (elapse _ s) hr).moves (by decide))).trans
    (composeStatus_moves _)

theorem statusPointAtStart_moves (s : State) : Moves statusTags s (statusPointAtStart s) := by
  unfold statusPointAtStart
  refine .ite (fun _ => ?_) fun _ => .refl _ s
  exact ((Move.settle _ s).moves (by decide)).trans (statusPointNow_moves _)

/-! ### The cycle start (R23) -/

/-- The moves of the line unit at a cycle start. -/
def lineTags : List Tag := (.age :: expiryTags) ++ lineCountTags

theorem lineCycle_moves (s : State) : Moves lineTags s (lineCycle s) :=
  ((ageQueue_moves s).mono (by decide)).trans
    (((duplicateCycle_moves _).mono (by decide)).trans ((faultCycle_moves _).mono (by decide)))

theorem countLong_moves (s : State) : Moves [.long] s (countLong s) := (Move.long _ s).moves (by decide)

/-- The moves of the first part of a cycle start. -/
def countsTags : List Tag :=
  lineTags ++ ([.long] ++ pictureTags) ++ (termTags ++ quarantineTags ++ refreshTags)

/-- The first part of a cycle start but for the work of a long cycle. -/
def shortCounts (s : State) : State := pictureCycle (countLong (lineCycle s))

theorem cycleCounts_eq (s : State) :
    cycleCounts s = if isLongCycle s = true then longCycleWork (shortCounts s) else shortCounts s := rfl

theorem shortCounts_moves (s : State) : Moves (lineTags ++ ([.long] ++ pictureTags)) s (shortCounts s) :=
  ((lineCycle_moves s).mono fun _ h => by simp [h]).trans
    (((countLong_moves _).mono fun _ h => by simp [List.mem_singleton.mp h]).trans
      ((pictureCycle_moves _).mono fun _ h => by simp [h]))

theorem cycleCounts_moves (s : State) : Moves countsTags s (cycleCounts s) := by
  rw [cycleCounts_eq]
  have m := (shortCounts_moves s).mono (hs := countsTags) (List.subset_append_left _ _)
  exact .ite (fun _ => m.trans ((longCycleWork_moves _).mono (List.subset_append_right _ _))) fun _ => m

/-- The moves of the second part of a cycle start. -/
def controlTags : List Tag := ringTags ++ annunciatorTags ++ cabTags ++ chainTags ++ shareTags

theorem cycleControl_moves (s : State) : Moves controlTags s (cycleControl s) :=
  (((((ringCycle_moves s).mono fun _ h => by simp [controlTags, h]).trans
    ((annunciatorCycle_moves _).mono fun _ h => by simp [controlTags, h])).trans
    ((cabCycle_moves _).mono fun _ h => by simp [controlTags, h])).trans
    ((chainCycle_moves _).mono fun _ h => by simp [controlTags, h])).trans
    ((shareCycle_moves _).mono fun _ h => by simp [controlTags, h])

/-- The moves of the work of a cycle start. -/
def workTags : List Tag := countsTags ++ controlTags ++ statusTags

theorem cycleWork_moves (s : State) : Moves workTags s (cycleWork s) :=
  (((cycleCounts_moves s).mono fun _ h => by simp [workTags, h]).trans
    ((cycleControl_moves _).mono fun _ h => by simp [workTags, h])).trans
    ((((answerQuery_moves _).mono (by decide)).trans (statusPointAtStart_moves _)).mono fun _ h => by simp [workTags, h])

end Sys2Proof.Machine
end

section
/-! PROOFS. The acts a step is made of: the moves of a cycle start, and beside them what the line unit, the start-up
control and the owning blocks of received bulletins do. Each command is said once, below, as a chain of acts; a
condition that every act keeps is then kept by the step. -/

namespace Sys2Proof.Machine

/-! ### The acts -/

/-- The moves that settle no account of a grant or loan that is about to leave its list. -/
def Tag.plain (g : Tag) : Bool := g != .age && g != .tell && g != .termOut

/-- An entry keeps all but its attempts. -/
def KeepsEntry (g : Entry → Entry) : Prop := ∀ e, ∃ n, g e = { e with attempts := n }

/-- One act outside start-up. `f` adds the acts that leave a token account open until a later act closes it: an
entry is dropped, a removed record or an undelivered grant is not yet booked. -/
inductive Deed : Bool → State → State → Prop where
  | move {f : Bool} {g : Tag} {s t : State} (m : Move g s t) (h : f = true ∨ g.plain = true) : Deed f s t
  | begins {f : Bool} (s) : Deed f s (begin s)
  | ack {f : Bool} (b : Bool) (s) : Deed f s (setAck b s)
  | tally {f : Bool} (g : LineCounters → LineCounters) (s) : Deed f s (s.count g)
  | clock {f : Bool} (g : LineTime → LineTime) (s) (hc : (g s.time).cycle = s.time.cycle)
      (hr : (g s.time).running = s.time.running)
      (ho : s.time.running = false → (g s.time).offset = s.time.offset) : Deed f s (s.onTime g)
  | awaits {f : Bool} (s) : Deed f s (s.onDrive fun d => { d with awaiting := false })
  | encoder {f : Bool} (n : DWord) (s) : Deed f s { s with encoder := n }
  | pending {f : Bool} (p : List Instr) (s) : Deed f s { s with pending := p }
  | reference {f : Bool} (b : Bulletin) (s) : Deed f s (takeReference b s)
  | merges {f : Bool} (m : Merge) (s) (h : m.source ≠ s.station) (hl : s.line.state ≠ .quiet) :
      Deed f s (s.onTable (mergeTable m))
  | mergesTrip {f : Bool} (n : Nat) (c : AlarmCode) (d : Option Nat) (r : Stamp) (s) (h : n ≠ s.station)
      (hj : s.joined = true) : Deed f s (s.onTable (mergeTrip n c d r))
  | acksTable {f : Bool} (t : Stamp) (s) : Deed f s (s.onTable (ackTable t))
  | acks {f : Bool} (t : Stamp) (s) : Deed f s (ackList t s)
  | restarts {f : Bool} (s) (hj : s.joined = true) (hf : restartFailure s = none) : Deed f s (acceptRestart s)
  | coilOn {f : Bool} (s) : Deed f s (setCoil true s)
  | keeps {f : Bool} (k : Kind) (b : Bulletin) (d : Bool) (s) : Deed f s (keepAtCab k b d s)
  | borrows {f : Bool} (peer k : Nat) (g : Word) (term : Nat) (s) (hf : s.share.fresh = false)
      (hk : countInRange k = true) : Deed f s (s.onShare (bookBorrowed peer k g term))
  | returns {f : Bool} (b : Bulletin) (s) : Deed f s (takeReturn b s)
  | returned {f : Bool} (e : Entry) (s) : Deed f s (returnDelivered e s)
  | freshens {f : Bool} (n : Nat) (s) : Deed f s (freshPeer n s)
  | peer {f : Bool} (n : Nat) (g : PeerRecord → PeerRecord) (s) : Deed f s (setPeer n g s)
  | asked {f : Bool} (b : Bulletin) (s) (ha : s.line.state = .active)
      (h : s.line.queries.length < Config.querySize) : Deed f s (takeQuery b s)
  | withdraws {f : Bool} (s) : Deed f s (withdrawPace s)
  | offers {f : Bool} (s) : Deed f s (offer s)
  | lands {f : Bool} (g : Entry → Entry) (s) (h : KeepsEntry g) : Deed f s (landFlight g s)
  | lineRuns {f : Bool} (n m : Nat) (s) :
      Deed f s (s.onLine fun l => { l with bitErrorRun := n, noTakerRun := m })
  | drops (s) : Deed true s (dropFlight s)
  | flushes (s) : Deed true s
      (s.onLine fun l => { l with state := .lineFault, queue := [], queries := [], bitErrorRun := 0, faultStarts := 0 })
  | books (e : Entry) (s) : Deed true s (grantDelivered e s)

/-- A chain of deeds. -/
def Deeds (f : Bool) : State → State → Prop := Relation.ReflTransGen (Deed f)

/-- The end of an attempt of the entry IN FLIGHT. -/
inductive SendEnds : State → State → Prop where
  | back (e : Entry) (g : Entry → Entry) (s) (h : flight s.line.queue = some e) (hg : KeepsEntry g) :
      SendEnds s (flightEnds e g s)
  | fails (e : Entry) (s) (h : flight s.line.queue = some e) : SendEnds s (attemptFails e s)
  | delivered (e : Entry) (s) (h : flight s.line.queue = some e) : SendEnds s (attemptDelivered e s)
  | bitError (e : Entry) (s) (h : flight s.line.queue = some e) : SendEnds s (bitErrorEnds e s)

/-- The state that steps 1 to 4 of R190 raise STATION STARTED in. -/
def joinEntry (i : Inputs) (s : State) : State :=
  let s := { s with inputs := i }
  let s := s.onLine fun l => { l with state := .active }
  let s := if s.time.running then s else s.onTime fun t => { t with cycle := 0, offset := 0, running := true }
  (startQuarantine s).onStartup fun u => { u with state := .joined }

/-- The moves of the join's held raises and of its axis functions' beginning. -/
def heldTags : List Tag :=
  .settle :: .raised .configClamped :: .cleared .configClamped ::
    .raised .duplicateStation :: .line .duplicate :: .raised .configMismatch :: .raised .peerSilent ::
    .raised .referenceStarved :: .rope .transfer :: .own .digging .digging :: .own .yielding .digging ::
    .own .yielded .digging :: .own .reclaiming .digging :: .walkTo .parked .parked :: .walkTo .asking .parked ::
    .walkTo .transferring .parked :: .walkTo .ready .parked :: .walkTo .stepping .parked ::
    .walkTo .settling .parked :: .walkTo .returning .parked :: .walkTo .faulted .parked :: tripTags

/-- The moves of the join, before the blocks' first sample. -/
def joinTags : List Tag := .raised .stationStarted :: heldTags

/-- One act of a station. `w` adds the acts that set the cycle number. -/
inductive Act : Bool → State → State → Prop where
  | deed {w : Bool} {s t : State} (h : Deed false s t) : Act w s t
  | ages {w : Bool} (s) : Act w s (ageQueue s)
  | terms {w : Bool} (s) : Act w s (borrowedTerms s)
  | ends {w : Bool} {s t : State} (h : SendEnds s t) : Act w s t
  | turns (g : LineTime → LineTime) (s)
      (hs : s.time.running = true ∨ s.startup.state = .listen ∨ s.startup.state = .joined)
      (hr : (g s.time).running = true) : Act true s (s.onTime g)
  | reads {w : Bool} (p : Straps) (s) (h : s.startup.state = .reset) : Act w s
      (s.onStartup fun u => { u with state := .reading, station := p.station, rate := p.rate })
  | image {w : Bool} (block : List Byte) (s) (h : s.startup.state = .reading)
      (hc : settingsCause block s.station = none) : Act w s (formImage block s)
  | listens {w : Bool} (s) (h : s.startup.state = .selftest) : Act w s (enterListen s)
  | halts {w : Bool} (c : Nat) (s) (h : s.startup.state = .reading ∨ s.startup.state = .selftest
      ∨ s.line.state = .rejoining) : Act w s (halt c s)
  | rejoins {w : Bool} (s) (h : s.line.state = .rejoining) : Act w s (leaveLoopback .active s)
  | timers {w : Bool} (n m : Nat) (s) : Act w s (s.onStartup fun u => { u with listenTimer := n, faultCount := m })
  | joins {w : Bool} (i : Inputs) (s u : State) (h : s.startup.state = .listen)
      (m : Moves joinTags (joinEntry i s) u) : Act w s (watchOwned u)

/-- A chain of acts. -/
def Acts (w : Bool) : State → State → Prop := Relation.ReflTransGen (Act w)

/-- A step that sets no cycle number; or one whose last setting of it is followed by the ring's cycle. -/
def Goes (s t : State) : Prop := Acts false s t ∨ ∃ u, Acts true s u ∧ Acts false (ringCycle u) t

section
variable {w f : Bool} {gs : List Tag} {s t u : State}

theorem Deeds.refl (f : Bool) (s : State) : Deeds f s s := Relation.ReflTransGen.refl

theorem Deed.one (h : Deed f s t) : Deeds f s t := .single h

theorem Deeds.trans (h : Deeds f s t) (k : Deeds f t u) : Deeds f s u := Relation.ReflTransGen.trans h k

theorem Deeds.ite {c : Prop} [Decidable c] (h : c → Deeds f s t) (k : ¬ c → Deeds f s u) :
    Deeds f s (if c then t else u) := by
  split
  · exact h ‹_›
  · exact k ‹_›

/-- A condition that every deed keeps is kept by their chains. -/
theorem Deeds.keeps {P : State → Prop} (h : ∀ s t, Deed f s t → P s → P t) (d : Deeds f s t) (hp : P s) : P t := by
  induction d with
  | refl => exact hp
  | tail _ hlast ih => exact h _ _ hlast ih

theorem Moves.deeds (h : Moves gs s t) (hp : ∀ g ∈ gs, g.plain = true) : Deeds f s t :=
  Relation.ReflTransGen.mono (fun _ _ ⟨g, hg, m⟩ => .move m (.inr (hp g hg))) s t h

theorem Moves.deedsAll (h : Moves gs s t) : Deeds true s t :=
  Relation.ReflTransGen.mono (fun _ _ ⟨_, _, m⟩ => .move m (.inl rfl)) s t h

theorem Acts.refl (w : Bool) (s : State) : Acts w s s := Relation.ReflTransGen.refl

theorem Act.one (h : Act w s t) : Acts w s t := .single h

theorem Acts.trans (h : Acts w s t) (k : Acts w t u) : Acts w s u := Relation.ReflTransGen.trans h k

theorem Acts.ite {c : Prop} [Decidable c] (h : c → Acts w s t) (k : ¬ c → Acts w s u) :
    Acts w s (if c then t else u) := by
  split
  · exact h ‹_›
  · exact k ‹_›

theorem Deeds.acts (h : Deeds false s t) : Acts w s t := Relation.ReflTransGen.mono (fun _ _ d => .deed d) s t h

theorem Deed.acts (h : Deed false s t) : Acts w s t := .single (.deed h)

theorem Moves.acts (h : Moves gs s t) (hp : ∀ g ∈ gs, g.plain = true) : Acts w s t := (h.deeds hp).acts

theorem Act.turning (h : Act false s t) : Act true s t := by
  cases h with
  | deed h => exact .deed h
  | ages => exact .ages s
  | terms => exact .terms s
  | ends h => exact .ends h
  | reads p _ h => exact .reads p s h
  | image b _ h hc => exact .image b s h hc
  | listens _ h => exact .listens s h
  | halts c _ h => exact .halts c s h
  | rejoins _ h => exact .rejoins s h
  | timers n m => exact .timers n m s
  | joins i _ u h m => exact .joins i s u h m

theorem Acts.turning (h : Acts false s t) : Acts true s t := Relation.ReflTransGen.mono (fun _ _ a => a.turning) s t h

/-- A condition that every act keeps is kept by their chains. -/
theorem Acts.keeps {P : State → Prop} (h : ∀ s t, Act w s t → P s → P t) (a : Acts w s t) (hp : P s) : P t := by
  induction a with
  | refl => exact hp
  | tail _ hlast ih => exact h _ _ hlast ih

theorem ringCycle_acts (s : State) : Acts w s (ringCycle s) := (ringCycle_moves s).acts (by decide)

theorem Acts.goes (h : Acts false s t) : Goes s t := .inl h

theorem Goes.acts (h : Goes s t) : Acts true s t := by
  rcases h with h | ⟨u, h, k⟩
  · exact h.turning
  · exact (h.trans (ringCycle_acts u)).trans k.turning

theorem Goes.after (h : Goes s t) (k : Acts false t u) : Goes s u := by
  rcases h with h | ⟨v, h, m⟩
  · exact .inl (h.trans k)
  · exact .inr ⟨v, h, m.trans k⟩

theorem Goes.trans (h : Goes s t) (k : Goes t u) : Goes s u := by
  rcases k with k | ⟨v, k, m⟩
  · exact h.after k
  · exact .inr ⟨v, h.acts.trans k, m⟩

end

/-! ### The cycle start as acts -/

theorem plain_of_mem {gs : List Tag} (h : gs.all Tag.plain = true) : ∀ g ∈ gs, g.plain = true := by
  simpa using h

theorem lineCycle_acts {w : Bool} (s : State) : Acts w s (lineCycle s) :=
  (Act.ages s).one.trans (((duplicateCycle_moves _).acts (plain_of_mem (by decide))).trans
    ((faultCycle_moves _).acts (plain_of_mem (by decide))))

theorem shareLongCycle_acts {w : Bool} (s : State) : Acts w s (shareLongCycle s) := by
  unfold shareLongCycle
  refine .ite (fun hj => ?_) fun _ => .refl w s
  have hb := (borrowedTerms_moves s).joined
  have hl := lentTerms_moves (borrowedTerms s)
  exact ((Act.terms s).one.trans (hl.acts (plain_of_mem (by decide)))).trans
    ((quarantineStep_moves (hl.joined.trans (hb.trans hj))).acts (plain_of_mem (by decide)))

theorem longCycleWork_acts {w : Bool} (s : State) : Acts w s (longCycleWork s) :=
  (shareLongCycle_acts s).trans
    (((((refreshRound_moves _).mono (by decide)).trans (tableLongCycle_moves _)).trans ((Move.note _ _).moves (by decide))).acts
      (plain_of_mem (by decide)))

theorem cycleCounts_acts {w : Bool} (s : State) : Acts w s (cycleCounts s) := by
  rw [cycleCounts_eq]
  have m : Acts w s (shortCounts s) := ((lineCycle_acts s).trans
    ((countLong_moves _).acts (plain_of_mem (by decide)))).trans
      ((pictureCycle_moves _).acts (plain_of_mem (by decide)))
  exact .ite (fun _ => m.trans (longCycleWork_acts _)) fun _ => m

theorem chainTags_plain : chainTags.all Tag.plain = true := by
  simp only [chainTags, List.all_append]
  decide

/-- The work of a cycle start after the ring's. -/
theorem afterRing_acts {w : Bool} (s : State) : Acts w (ringCycle s)
    (statusPointAtStart (answerQuery (cycleControl s))) :=
  ((((((annunciatorCycle_moves _).acts (plain_of_mem (by decide))).trans
    ((cabCycle_moves _).acts (plain_of_mem (by decide)))).trans
    ((chainCycle_moves _).acts (plain_of_mem chainTags_plain))).trans
    ((shareCycle_moves _).acts (plain_of_mem (by decide)))).trans
    ((answerQuery_moves _).acts (plain_of_mem (by decide)))).trans
    ((statusPointAtStart_moves _).acts (plain_of_mem (by decide)))

/-- A cycle start whose line time some acts before have set. -/
theorem cycleStartFor_goes {c : DWord} {i : Inputs} {s u : State} (h : Acts true s u)
    (hs : u.time.running = true ∨ u.startup.state = .listen ∨ u.startup.state = .joined) :
    Goes s (cycleStartFor c i u) := by
  refine .inr ⟨cycleCounts (sampleInputs i (u.onTime fun t =>
    { t with cycle := c, offset := 0, running := true, statusDone := false })), ?_, afterRing_acts _⟩
  exact ((h.trans (Act.turns _ u hs rfl).one).trans ((sampleInputs_moves i _).acts (plain_of_mem (by decide)))).trans
    (cycleCounts_acts _)

theorem placePace_moves (s : State) : Moves [.place .pace, .settle] s (placePace s) :=
  (place_moves s (new_entry _ _ _ _ _ _) (by simp) (by simp [Kind.cls])
    (show Tag.place .pace ∈ [.place .pace, .settle] by decide)).trans ((Move.settle _ _).moves (by decide))

/-- The state whose PACE an expiring timer places. -/
def expiredTime (s : State) : State :=
  (elapse (s.units - 1 - s.time.offset) s).onTime fun t =>
    { t with cycle := s.time.cycle + 1, offset := 0, statusDone := false }

theorem timerExpiry_eq {i : Inputs} {s : State} (h : s.time.running = true) :
    timerExpiry i s = cycleStartFor (s.time.cycle + 1) i (placePace (expiredTime s)) := if_pos h

theorem timerExpiry_goes (i : Inputs) (s : State) : Goes s (timerExpiry i s) := by
  by_cases h : s.time.running = true
  · rw [timerExpiry_eq h]
    have a : Acts true s (expiredTime s) :=
      ((elapse_moves _ s).acts (plain_of_mem (by decide))).trans (Act.turns _ (elapse _ s) (.inl h) h).one
    have hp : (placePace (expiredTime s)).time = (expiredTime s).time := (placePace_frame _).1 .time (by decide)
    exact cycleStartFor_goes (a.trans ((placePace_moves _).acts (plain_of_mem (by decide))))
      (.inl (by rw [hp]; exact h))
  · rw [timerExpiry, if_neg h]
    exact (Acts.refl false s).goes

theorem statusPointNow_acts {w : Bool} (s : State) : Acts w s (statusPointNow s) :=
  (statusPointNow_moves s).acts (plain_of_mem (by decide))

/-! ### Start-up -/

theorem setWalkState_parked_moves (s : State) : Moves heldTags s (setWalkState .parked s) := by
  have m := Move.walkTo .parked s
  cases h : s.walk.state <;> rw [h] at m <;> exact m.moves (by decide)

theorem dragJoin_moves (s : State) : Moves heldTags s (dragJoin s) := by
  unfold dragJoin
  refine .ite (fun _ => ?_) fun _ => ?_
  · have m := Move.own .digging s
    cases h : s.rope.ownership <;> rw [h] at m <;> exact m.moves (by decide)
  · exact (Move.rope .transfer (fun r => { r with walkSeen := s.walkSide }) s rfl).moves (by decide)

theorem quiet_moves {gs : List Tag} {c : AlarmCode} (d : Option Nat) (s : State) (h : c ≠ .shareLoanDropped)
    (hg : Tag.raised c ∈ gs) : Moves gs s (raiseQuiet c d s) := (Move.raised c d s h).moves hg

theorem heldRaises_moves (s : State) : Moves heldTags s (heldRaises s) := by
  unfold heldRaises; dsimp only
  have m1 : Moves heldTags s (if s.startup.clamped then raiseAndClear .configClamped none s else s) :=
    .ite (fun _ => (raiseAndClear_moves (by decide) _ s).mono (by decide)) fun _ => .refl _ s
  revert m1
  generalize (if s.startup.clamped then raiseAndClear .configClamped none s else s) = s1
  intro m1
  have m2 : Moves heldTags s (if s1.line.dupHeld then
      (raiseQuiet .duplicateStation none s1).onLine fun l => { l with dupHeld := false } else s1) := by
    refine .ite (fun _ => ?_) fun _ => m1
    exact (m1.trans (quiet_moves _ _ (by decide) (by decide))).trans
      ((Move.line .duplicate (fun l => { l with dupHeld := false }) _ rfl).moves (by decide))
  revert m2
  generalize (if s1.line.dupHeld then
      (raiseQuiet .duplicateStation none s1).onLine fun l => { l with dupHeld := false } else s1) = s2
  intro m2
  have folds : ∀ (c : AlarmCode), c ≠ .shareLoanDropped → Tag.raised c ∈ heldTags → ∀ (l : List Nat) (t : State),
      Moves heldTags t (l.foldl (fun s n => raiseQuiet c (some n) s) t) := fun c hc hm l t =>
    .foldl l (fun u n _ => quiet_moves (some n) u hc hm) t
  have m3 := fun l l' => (m2.trans (folds .configMismatch (by decide) (by decide) l s2)).trans
    (folds .peerSilent (by decide) (by decide) l' _)
  exact .ite (fun _ => (m3 _ _).trans (quiet_moves _ _ (by decide) (by decide))) fun _ => m3 _ _

theorem joinStart_eq (i : Inputs) (s : State) :
    joinStart { s with inputs := i } = raise .stationStarted none (joinEntry i s) := rfl

/-- The blocks begun at the join, but for their first sample. -/
def beginAxes (s : State) : State :=
  match s.role with
  | .drag => dragJoin s
  | .walk => setWalkState .parked s
  | .none | .cab | .hoist | .swing => s

theorem beginBlocks_eq (s : State) : beginBlocks s = emergencySample (watchOwned (beginAxes s)) := rfl

theorem beginAxes_moves (s : State) : Moves heldTags s (beginAxes s) := by
  unfold beginAxes
  split
  · exact dragJoin_moves s
  · exact setWalkState_parked_moves s
  all_goals exact .refl _ s

theorem settle_joins (s : State) : Moves heldTags s (settle s) := (Move.settle _ s).moves (by decide)

theorem joins_of_held {s t : State} (h : Moves heldTags s t) : Moves joinTags s t := h.mono (List.subset_cons_self _ _)

/-- The join up to its own first cycle start. -/
def joinDone (i : Inputs) (s : State) : State :=
  beginBlocks (settle (heldRaises (settle (joinStart { s with inputs := i }))))

theorem joinDone_acts {w : Bool} (i : Inputs) {s : State} (h : s.startup.state = .listen) : Acts w s (joinDone i s) := by
  unfold joinDone
  rw [beginBlocks_eq, joinStart_eq]
  refine (Act.joins i s _ h ?_).one.trans ((emergencySample_moves _).acts (plain_of_mem (by decide)))
  exact ((raise_moves (by decide) _ _).mono (by decide)).trans (joins_of_held
    ((((settle_joins _).trans (heldRaises_moves _)).trans (settle_joins _)).trans (beginAxes_moves _)))

theorem join_eq (i : Inputs) (s : State) : join i s =
    if !s.time.running then cycleStartFor 0 i (settle (joinDone i s)) else joinDone i s := rfl

theorem joinDone_startup (i : Inputs) (s : State) : (joinDone i s).startup.state = .joined := by
  unfold joinDone
  rw [beginBlocks_eq, joinStart_eq, (emergencySample_moves _).startup, (watchOwned_frame _).1 .startup (by decide),
    (beginAxes_moves _).startup, (settle_joins _).startup, (heldRaises_moves _).startup, (settle_joins _).startup,
    (raise_moves (by decide) _ _).startup]
  unfold joinEntry
  rfl

/-- No move of the join sets the line time. -/
theorem join_time_of_moves {s t : State} (h : Moves heldTags s t) : t.time = s.time :=
  (h.frame (bs := .unit0 :: .unit1 :: .cab :: .inputs :: raiseBlocks) (by decide)).1 .time (by decide)

theorem joinDone_time (i : Inputs) {s : State} (h : s.time.running = true) : (joinDone i s).time = s.time := by
  have he : (joinEntry i s).time = s.time := by
    unfold joinEntry; dsimp only
    rw [if_pos (show ((({ s with inputs := i } : State).onLine fun l => { l with state := .active }).time.running = true)
      from h)]
    rfl
  unfold joinDone
  rw [beginBlocks_eq, joinStart_eq, (emergencySample_frame _).1 .time (by decide),
    (watchOwned_frame _).1 .time (by decide), join_time_of_moves (beginAxes_moves _),
    join_time_of_moves (settle_joins _), join_time_of_moves (heldRaises_moves _),
    join_time_of_moves (settle_joins _), (raise_frame _ _ _).1 .time (by decide), he]

theorem join_goes (i : Inputs) {s : State} (h : s.startup.state = .listen) : Goes s (join i s) := by
  rw [join_eq]
  have hj : (settle (joinDone i s)).startup.state = .joined := by
    rw [(settle_joins _).startup, joinDone_startup]
  have a : Acts true s (settle (joinDone i s)) :=
    (joinDone_acts i h).trans ((settle_joins _).acts (plain_of_mem (by decide)))
  split
  · exact cycleStartFor_goes a (.inr (.inr hj))
  · exact (joinDone_acts i h).goes

theorem listenExpires_goes (i : Inputs) {s : State} (h : s.startup.state = .listen) : Goes s (listenExpires i s) := by
  have a := (Act.timers (w := false) (2 * s.units) s.startup.faultCount s).one.goes
  exact a.trans (join_goes i h)

theorem enterReading_acts {w : Bool} (p : Straps) {s : State} (h : s.startup.state = .reset) :
    Acts w s (enterReading p s) := by
  unfold enterReading; dsimp only
  have m := (Act.reads (w := w) p s h).one
  exact .ite (fun _ => m.trans (Act.halts 1 _ (.inl rfl)).one) fun _ => .ite
    (fun _ => m.trans (Act.halts 2 _ (.inl rfl)).one) fun _ => m

theorem imageComplete_acts {w : Bool} (b : List Byte) {s : State} (h : s.startup.state = .reading) :
    Acts w s (imageComplete b s) := by
  unfold imageComplete
  split
  · exact (Act.halts _ s (.inl h)).one
  · exact (Act.image b s h ‹_›).one

theorem startTick_goes (s : State) : Goes s (startTick s) := by
  unfold startTick
  split
  · next h =>
    dsimp only
    split
    · exact listenExpires_goes _ h
    · exact (Act.timers (w := false) _ s.startup.faultCount s).one.goes
  · exact (Act.timers (w := false) s.startup.listenTimer _ s).one.goes
  all_goals exact (Acts.refl false s).goes

theorem startTick_running {s : State} (h : s.time.running = true) : (startTick s).time.running = true := by
  unfold startTick
  split
  · dsimp only
    split
    · rw [listenExpires, join_eq, if_neg (by simpa using h), joinDone_time _ (by exact h)]; exact h
    · exact h
  all_goals exact h

theorem timeTick_goes {s : State} (hr : s.time.running = true) : Goes s (timeTick s) := by
  unfold timeTick
  split
  · exact timerExpiry_goes _ s
  · have a : Acts false s (s.onTime fun t => { t with offset := t.offset + 1 }) :=
      (Deed.clock (fun t => { t with offset := t.offset + 1 }) s rfl rfl fun h => by simp [h] at hr).acts
    exact (Acts.ite (fun _ => a.trans (statusPointNow_acts _)) fun _ => a).goes

theorem begin_acts {w : Bool} (s : State) : Acts w s (begin s) := (Deed.begins s).acts

end Sys2Proof.Machine
end

section
/-! PROOFS. The sending side, the receiving side and the step as chains of acts. -/

namespace Sys2Proof.Machine

/-! ### The owners' acts -/

section
variable {f : Bool} {s t u : State}

theorem inStepPace_deeds (s : State) : Deeds f s (inStepPace s) := by
  unfold inStepPace; dsimp only
  have m : Deeds f s (s.onTime fun t => { t with inStep := bump8 s.time.inStep }) :=
    (Deed.clock (fun t => { t with inStep := bump8 s.time.inStep }) s rfl rfl fun _ => rfl).one
  exact .ite (fun _ => m.trans ((Move.cleared .paceJump none _).moves
    (gs := [.cleared .paceJump]) (by decide) |>.deeds (plain_of_mem (by decide)))) fun _ => m

theorem applyRestart_deeds (s : State) : Deeds f s (applyRestart s) := by
  unfold applyRestart
  refine .ite (fun _ => .refl f s) fun h => ?_
  split
  · exact (raiseThenClear_moves (by decide) _ s).deeds (plain_of_mem (by decide))
  · exact (Deed.restarts s (by simp at h; exact h.1) ‹_›).one

theorem ackDelivered_deeds (t : Stamp) (s : State) : Deeds f s (ackDelivered t s) := by
  unfold ackDelivered
  exact .ite (fun _ => (Deed.acksTable t s).one.trans (Deed.acks t _).one) fun _ => .refl f s

theorem yieldDelivered_deeds (e : Entry) (s : State) : Deeds f s (yieldDelivered e s) := by
  unfold yieldDelivered
  refine .ite (fun h => ?_) fun _ => .refl f s
  have m1 := (Move.rope .transfer (fun r => { r with walkSeen := false, reclaimPending := false }) s rfl).moves
    (gs := [.rope .transfer, .rope .yieldWait, .own .yielding .yielded]) (by decide)
  have m2 := (Move.rope .yieldWait (fun r => { r with yieldWait := 0 })
    (s.onRope fun r => { r with walkSeen := false, reclaimPending := false }) rfl).moves
      (gs := [.rope .transfer, .rope .yieldWait, .own .yielding .yielded]) (by decide)
  exact ((m1.trans m2).trans (setOwnership_moves .yielded (v := .yielding) (gs := [.rope .transfer, .rope .yieldWait,
    .own .yielding .yielded]) (s := (s.onRope fun r => { r with walkSeen := false, reclaimPending := false }).onRope
      fun r => { r with yieldWait := 0 }) h.1 (by decide))).deeds (plain_of_mem (by decide))

theorem outcomeDelivered_deeds (e : Entry) (s : State) : Deeds true s (outcomeDelivered e s) := by
  unfold outcomeDelivered
  split
  · exact inStepPace_deeds s
  · unfold statusDelivered
    split
    · exact .refl _ s
    · exact (Deed.peer _ _ s).one
  · exact (Deed.books e s).one
  · exact (Deed.returned e s).one
  · exact yieldDelivered_deeds e s
  · exact ackDelivered_deeds _ s
  · exact applyRestart_deeds s
  · exact .refl _ s

theorem outcomeFailed_deeds (e : Entry) (s : State) : Deeds true s (outcomeFailed e s) := by
  by_cases h : e.kind = .shareGrant
  · rw [outcomeFailed_grant h]
    exact (Deed.move (.tell e s) (.inl rfl)).one
  · exact (outcomeFailed_moves h s).deedsAll

/-! ### The ends of an attempt (R13, R15, R19) -/

theorem applyDue_deeds (e : Entry) (d : Due) (s : State) : Deeds true s (applyDue e d s) := by
  cases d with
  | replaced =>
    show Deeds true s (countReplaced e.kind s)
    unfold countReplaced
    split
    · exact (Deed.tally _ s).one
    · exact (Deed.tally _ s).one
    · exact .refl _ s
  | expired => exact (entryExpired_moves s e).deedsAll

theorem flightEnds_deeds (e : Entry) {g : Entry → Entry} (hg : KeepsEntry g) (s : State) :
    Deeds true s (flightEnds e g s) := by
  unfold flightEnds
  split
  · exact (Deed.lands g s hg).one
  · exact (Deed.drops s).one.trans (applyDue_deeds e _ _)

theorem clear_deeds (c : AlarmCode) (d : Option Nat) (s : State) : Deeds f s (clearAlarm c d s) :=
  ((Move.cleared c d s).moves (gs := [.cleared c]) (by simp)).deeds (by simp [Tag.plain])

theorem quiet_deeds {c : AlarmCode} (hc : c ≠ .shareLoanDropped) (d : Option Nat) (s : State) :
    Deeds f s (raiseQuiet c d s) :=
  ((Move.raised c d s hc).moves (gs := [.raised c]) (by simp)).deeds (by simp [Tag.plain])

theorem broadcastLost_deeds (s : State) : Deeds f s (broadcastLost s) := by
  unfold broadcastLost; dsimp only
  have m : ∀ n, Deeds f s (s.onLine fun l => { l with noTakerRun := n }) := fun n =>
    (Deed.lineRuns s.line.bitErrorRun n s).one
  refine .ite (fun _ => ?_) fun _ => m _
  exact ((m _).trans (Deed.clock (fun t => { t with alone := true }) _ rfl rfl fun _ => rfl).one).trans
    (quiet_deeds (by decide) _ _)

theorem broadcastDelivered_deeds (s : State) : Deeds f s (broadcastDelivered s) := by
  unfold broadcastDelivered; dsimp only
  have m : Deeds f s ((s.onLine fun l => { l with noTakerRun := 0 }).onTime fun t => { t with alone := false }) :=
    (Deed.lineRuns s.line.bitErrorRun 0 s).one.trans
      (Deed.clock (fun t => { t with alone := false }) _ rfl rfl fun _ => rfl).one
  exact .ite (fun _ => m.trans (clear_deeds _ _ _)) fun _ => m

theorem keepsEntry_failed : KeepsEntry fun e => { e with attempts := e.attempts + 1 } := fun _ => ⟨_, rfl⟩

theorem keepsEntry_id : KeepsEntry id := fun e => ⟨e.attempts, rfl⟩

theorem attemptFails_deeds (e : Entry) (s : State) : Deeds true s (attemptFails e s) := by
  unfold attemptFails
  refine .ite (fun _ => ?_) fun _ => flightEnds_deeds e keepsEntry_failed s
  unfold noTaker; dsimp only
  have m : Deeds true s ((dropFlight s).count fun c => { c with noTaker := bump c.noTaker }) :=
    (Deed.drops s).one.trans (Deed.tally _ _).one
  exact (m.trans (.ite (fun _ => broadcastLost_deeds _) fun _ => .refl _ _)).trans (outcomeFailed_deeds e _)

theorem attemptDelivered_deeds (e : Entry) (s : State) : Deeds true s (attemptDelivered e s) := by
  unfold attemptDelivered; dsimp only
  have m : Deeds true s ((dropFlight s).count fun c => { c with sent := bump c.sent }) :=
    (Deed.drops s).one.trans (Deed.tally _ _).one
  exact ((m.trans (.ite (fun _ => broadcastDelivered_deeds _) fun _ => .refl _ _)).trans (clear_deeds _ _ _)).trans
    (outcomeDelivered_deeds e _)

theorem Deeds.foldl {α : Type} {g : State → α → State} (l : List α) (h : ∀ s, ∀ x ∈ l, Deeds f s (g s x)) (s : State) :
    Deeds f s (l.foldl g s) := by
  induction l generalizing s with
  | nil => exact .refl f s
  | cons x l ih => exact (h s x (by simp)).trans (ih (fun s y hy => h s y (by simp [hy])) _)

theorem enterLineFault_deeds (s : State) : Deeds true s (enterLineFault s) := by
  unfold enterLineFault; dsimp only
  refine ((Deed.flushes s).one.trans (.foldl _ (fun t x _ => ?_) _)).trans (quiet_deeds (by decide) _ _)
  exact (Deed.tally _ t).one.trans (outcomeFailed_deeds x _)

theorem bitErrorEnds_deeds (e : Entry) (s : State) : Deeds true s (bitErrorEnds e s) := by
  unfold bitErrorEnds; dsimp only
  have m : Deeds true s ((s.onLine fun l => { l with bitErrorRun := s.line.bitErrorRun + 1 }).count fun c =>
      { c with bitErrors := bump c.bitErrors }) :=
    (Deed.lineRuns (s.line.bitErrorRun + 1) s.line.noTakerRun s).one.trans (Deed.tally _ _).one
  have m2 := m.trans (attemptFails_deeds e _)
  exact .ite (fun _ => m2.trans (enterLineFault_deeds _)) fun _ => m2

/-- The end of an attempt, whatever its outcome, as single deeds. -/
theorem SendEnds.deeds (h : SendEnds s t) : Deeds true s t := by
  cases h with
  | back e g _ h hg => exact flightEnds_deeds e hg s
  | fails e _ h => exact attemptFails_deeds e s
  | delivered e _ h => exact attemptDelivered_deeds e s
  | bitError e => exact bitErrorEnds_deeds e s

/-! ### Receiving -/

theorem takeTrip_deeds {b : Bulletin} (h : b.sender.toNat ≠ s.station) : Deeds f s (takeTrip b s) := by
  unfold takeTrip; dsimp only
  refine .ite (fun hj => ?_) fun _ => .refl f s
  have m : Deeds f s (enterTripped s) := (enterTripped_moves s).deeds (plain_of_mem (by decide))
  have hs : (enterTripped s).station = s.station := by
    rw [State.station, (enterTripped_moves s).startup, State.station]
  refine .ite (fun _ => ?_) fun _ => m
  split
  · exact m
  · exact m.trans (Deed.mergesTrip _ _ _ _ _ (hs ▸ h) ((enterTripped_moves s).joined.trans hj)).one

theorem mergeOf_source {n : Nat} {ws : List Word} {m : Merge} (h : mergeOf n ws = some m) : m.source = n := by
  unfold mergeOf at h; dsimp only at h
  split at h
  · cases h
  · split at h
    · cases h; rfl
    · cases h

theorem takeAlarm_deeds {b : Bulletin} (h : b.sender.toNat ≠ s.station) (hl : s.line.state ≠ .quiet) :
    Deeds f s (takeAlarm b s) := by
  unfold takeAlarm
  refine .ite (fun _ => ?_) fun _ => .refl f s
  split
  · exact .refl f s
  · next m hm => exact (Deed.merges m s (mergeOf_source hm ▸ h) hl).one

/-- The moves of an XFER bulletin at the drag and at the walk. -/
def xferTags : List Tag :=
  [.place .xferRefuse, .rope .yieldCount, .rope .yieldSent, .own .digging .yielding, .mute,
    .reclaim .yielding true, .reclaim .yielding false,
    .rope .transfer, .walkTo .asking .transferring, .raised .transferRefused, .cleared .transferRefused,
    .walkTo .asking .parked]

theorem dragAsk_moves (b : Bulletin) (s : State) : Moves xferTags s (dragAsk b s) := by
  have refuse : ∀ r, Moves xferTags s
      (place { kind := .xferRefuse, target := toRole .walk s, words := reasonWords r } s) := fun r =>
    place_moves s (new_entry _ _ _ _ _ _) (by simp) (by simp [Kind.cls])
      (show Tag.place .xferRefuse ∈ xferTags by decide)
  unfold dragAsk
  refine .ite (fun _ => .refl _ s) fun _ => .ite (fun _ => refuse _) fun hd => .ite (fun _ => refuse _) fun _ => ?_
  have m1 := (Move.rope .yieldCount (fun r => { r with yieldCount := 0 }) s rfl).moves (gs := xferTags) (by decide)
  have m2 := (Move.rope .yieldSent (fun r => { r with yieldSent := false })
    (s.onRope fun r => { r with yieldCount := 0 }) rfl).moves (gs := xferTags) (by decide)
  exact (m1.trans m2).trans (setOwnership_moves .yielding (v := .digging)
    (s := (s.onRope fun r => { r with yieldCount := 0 }).onRope fun r => { r with yieldSent := false })
      (not_not.1 hd) (by decide))

theorem dragAbort_moves (b : Bulletin) (s : State) : Moves xferTags s (dragAbort b s) := by
  unfold dragAbort
  refine .ite (fun _ => .refl _ s) fun _ => ?_
  split
  · next ho =>
    have m := Move.reclaim (ignoreYield s)
    have hm : (ignoreYield s).rope.ownership = .yielding := ho
    rw [hm] at m
    exact ((Move.mute _ s).moves (by decide)).trans (m.moves (by cases (ignoreYield s).rope.yieldSent <;> decide))
  · exact (Move.rope .transfer (fun r => { r with reclaimPending := true }) s rfl).moves (by decide)
  all_goals exact .refl _ s

theorem dragRelease_moves (b : Bulletin) (s : State) : Moves xferTags s (dragRelease b s) := by
  unfold dragRelease
  refine .ite (fun _ => ?_) fun _ => .refl _ s
  exact (Move.rope .transfer (fun r => { r with reclaimPending := true }) s rfl).moves (by decide)

theorem walkYield_deeds (b : Bulletin) (s : State) : Deeds f s (walkYield b s) := by
  unfold walkYield
  refine .ite (fun h => ?_) fun _ => .refl f s
  exact (Deed.coilOn s).one.trans ((setWalkState_moves .transferring (s := setCoil true s) (gs := xferTags) h.2
    (by decide)).deeds (plain_of_mem (by decide)))

theorem walkRefuse_moves (b : Bulletin) (s : State) : Moves xferTags s (walkRefuse b s) := by
  unfold walkRefuse
  exact .ite (fun h => (transferRefused_moves _ h.2).mono (by decide)) fun _ => .refl _ s

theorem takeXferBroadcast_deeds {k : Kind} {b : Bulletin} {g : State → State} (h : ∀ s, Deeds f s (g s)) (s : State) :
    Deeds f s (takeXferBroadcast k b g s) := by
  unfold takeXferBroadcast
  refine .ite (fun _ => .refl f s) fun _ => ?_
  split
  · exact h s
  · exact (Deed.keeps k b true s).one
  all_goals exact .refl f s

/-- The moves of a SHARE-ASK answered and of a recall. -/
def askTags : List Tag := [.place .shareRefuse, .grant, .markLoans]

theorem answerAsk_moves (b : Bulletin) (s : State) : Moves askTags s (answerAsk b s) := by
  have refuse : ∀ r, Moves askTags s
      (place { kind := .shareRefuse, target := toStation b.sender.toNat, words := reasonWords r } s) := fun r =>
    place_moves s (new_entry _ _ _ _ _ _) (by simp) (by simp [Kind.cls])
      (show Tag.place .shareRefuse ∈ askTags by decide)
  unfold answerAsk; dsimp only
  refine .ite (fun _ => refuse _) fun hc => .ite (fun _ => refuse _) fun _ => .ite (fun _ => refuse _) fun hs => ?_
  exact (Move.grant _ _ s (by omega) (Nat.min_le_right _ _)).moves (by decide)

theorem answerFrom_deeds (peer : Nat) (s : State) : Deeds f s (answerFrom peer s) := by
  unfold answerFrom
  exact .ite (fun _ => (endAsk_moves s).deeds (plain_of_mem (by decide))) fun _ => .refl f s

theorem takeGrant_deeds (b : Bulletin) (s : State) : Deeds f s (takeGrant b s) := by
  unfold takeGrant; dsimp only
  refine (answerFrom_deeds _ s).trans (.ite (fun h => ?_) fun _ => .refl f _)
  obtain ⟨hf, hk⟩ : _ = false ∧ _ := by simpa using h
  exact (Deed.borrows _ _ _ _ _ hf hk).one

theorem takeRefuse_deeds (b : Bulletin) (s : State) : Deeds f s (takeRefuse b s) := by
  unfold takeRefuse
  exact .ite (fun _ => .refl f s) fun _ => answerFrom_deeds _ s

/-- A recalled record keeps its loan. -/
theorem keepsLoan_recall (peer c : Nat) : KeepsLoan fun r =>
    if r.peer == peer then
      match r.state with
      | .holding => { r with state := .shedding, shed := min c r.count, shedWait := 0 }
      | .shedding => { r with shed := max r.shed (min c r.count) }
      | .returning => r
    else r := by
  intro r
  dsimp only
  split
  · split
    · exact ⟨rfl, rfl, fun _ => Nat.min_le_right _ _⟩
    · exact ⟨rfl, rfl, fun h => max_le h (Nat.min_le_right _ _)⟩
    · exact ⟨rfl, rfl, id⟩
  · exact ⟨rfl, rfl, id⟩

theorem takeRecall_moves (b : Bulletin) (s : State) : Moves askTags s (takeRecall b s) := by
  unfold takeRecall; dsimp only
  exact .ite (fun _ => .refl _ s) fun _ => (Move.markLoans _ s (keepsLoan_recall _ _)).moves (by decide)

theorem compareSignature_deeds (n : Nat) (w : Word) (s : State) : Deeds f s (compareSignature n w s) := by
  unfold compareSignature; dsimp only
  refine .ite (fun _ => ?_) fun _ => .ite (fun _ => ?_) fun _ => .refl f s
  · exact (Deed.peer n _ s).one.trans (quiet_deeds (by decide) _ _)
  · exact (Deed.peer n _ s).one.trans (clear_deeds _ _ _)

theorem takeStatus_deeds (b : Bulletin) (s : State) : Deeds f s (takeStatus b s) := by
  unfold takeStatus
  split
  · exact .refl f s
  · dsimp only
    have m : ∀ n g c w g', Deeds f s (clearAlarm .peerSilent (some n)
        (setPeer n g' (compareSignature n w ((setPeer n g s).count c)))) := fun n g c w g' =>
      ((((Deed.peer n g s).one.trans (Deed.tally c _).one).trans (compareSignature_deeds n w _)).trans
        (Deed.peer n g' _).one).trans (clear_deeds _ _ _)
    exact .ite (fun _ => (m _ _ _ _ _).trans (Deed.freshens _ _).one) fun _ => m _ _ _ _ _

theorem duplicateHeard_deeds (s : State) : Deeds f s (duplicateHeard s) := by
  have dup : ∀ (g : LineUnit → LineUnit) (t : State), LineField.only .duplicate t.line (g t.line) →
      Deeds f t (t.onLine g) := fun g t h =>
    ((Move.line .duplicate g t h).moves (gs := [.line .duplicate]) (by decide)).deeds (plain_of_mem (by decide))
  unfold duplicateHeard; dsimp only
  have m := dup (fun l => { l with dupCount := 0, dupCounting := true }) s rfl
  exact .ite (fun _ => m.trans (dup (fun l => { l with dupHeld := true }) _ rfl)) fun _ =>
    m.trans (quiet_deeds (by decide) _ _)

end

theorem takePace_goes (b : Bulletin) (i : Inputs) (s : State) : Goes s (takePace b i s) := by
  have hw : Acts false s (withdrawPace s) := (Deed.withdraws s).acts
  unfold takePace; dsimp only
  split
  · split
    · exact cycleStartFor_goes (Act.deed (Deed.withdraws s)).one (.inr (.inl ‹_›))
    · exact hw.goes
  · next hr =>
    have hr : (withdrawPace s).time.running = true := by simpa using hr
    have turned : ∀ g : LineTime → LineTime, (g (withdrawPace s).time).running = (withdrawPace s).time.running →
        Acts true s ((withdrawPace s).onTime g) := fun g hg =>
      hw.turning.trans (Act.turns g _ (.inl hr) (hg.trans hr)).one
    split
    · refine (hw.trans ?_).goes
      exact (Deed.clock (fun t => { t with offset := 0 }) _ rfl rfl fun h => by rw [hr] at h; cases h).acts.trans
        (inStepPace_deeds _).acts
    · have m : ∀ u : State, (inStepPace u).time.running = u.time.running := by
        intro u
        unfold inStepPace; dsimp only
        split
        · rw [(clearAlarm_frame _ _ _).1 .time (by decide)]; rfl
        · rfl
      split
      · refine cycleStartFor_goes ((turned (fun t => { t with cycle := _, offset := 0 }) rfl).trans
          (inStepPace_deeds _).acts) (.inl ?_)
        rw [m]; exact hr
      · refine cycleStartFor_goes ((turned _ (by rfl)).trans (quiet_deeds (by decide) _ _).acts) (.inl ?_)
        rw [paceJump, (raiseQuiet_frame _ _ _).1 .time (by decide)]; exact hr

/-- A bulletin read, judged and handed to its owning block. -/
theorem receive_goes {k : Kind} {b : Bulletin} {act : State → State} (s : State)
    (h : ∀ u : State, k = .query ∨ b.sender.toNat ≠ u.station → hasRoom k u = true →
      (k.isBroadcast = true ∨ u.line.state = .active) → u.line.state ≠ .quiet → Goes u (act u)) :
    Goes s (receive k b act (begin s)) := by
  have m : Acts false s (setAck false (begin s)) := (begin_acts s).trans (Deed.ack false _).acts
  unfold receive; dsimp only
  split
  · exact m.goes
  · next hrd =>
    have hl : (setAck false (begin s)).line.state ≠ .quiet := fun hq => hrd (by unfold reads; rw [hq]; rfl)
    split
    · exact (m.trans (Deed.tally _ _).acts).goes
    · split
      · exact (m.trans (duplicateHeard_deeds _).acts).goes
      · next ho =>
        have ho : k = .query ∨ b.sender.toNat ≠ (setAck false (begin s)).station := by
          by_cases hk : k = .query
          · exact .inl hk
          · exact .inr (by simpa [hk] using ho)
        unfold judge
        split
        · next hp =>
          obtain ⟨-, hroom⟩ : _ = true ∧ _ := by simpa using hp
          split
          · next ha => exact (m.trans (Deed.ack true _).acts).goes.trans (h _ ho hroom (.inr ha) hl)
          · split
            · next hb => exact m.goes.trans (h _ ho hroom (.inl hb) hl)
            · exact m.goes
        · split
          · exact (m.trans (Deed.keeps _ _ _ _).acts).goes
          · exact m.goes

/-! ### The commands and the step -/

theorem eventCycle_goes (e : Event) (i : Inputs) (s : State) : Goes s (eventCycle e i s) := by
  unfold eventCycle
  split
  · exact (begin_acts s).goes.trans (timerExpiry_goes _ _)
  · exact (Acts.refl false s).goes

theorem sampleInputs_acts {w : Bool} (i : Inputs) (s : State) : Acts w s (sampleInputs i s) :=
  (sampleInputs_moves i s).acts (plain_of_mem (by decide))

theorem sampleAfter_acts {w : Bool} (before : Byte) (index : Option Bool) (i : Inputs) (s : State) :
    Acts w s (sampleAfter before index i s) := (sampleAfter_moves _ _ _ s).acts (plain_of_mem (by decide))

theorem slaveEdge_acts {w : Bool} (u : UnitIndex) (s : State) : Acts w s (slaveEdge u s) := by
  unfold slaveEdge; dsimp only
  exact .ite (fun _ => .refl w s) fun _ => .ite (fun _ => sampleAfter_acts _ _ _ s) fun _ => sampleAfter_acts _ _ _ s

theorem masterEdge_acts {w : Bool} (u : UnitIndex) (s : State) : Acts w s (masterEdge u s) := by
  unfold masterEdge; dsimp only
  exact .ite (fun _ => sampleAfter_acts _ _ _ s) fun _ => .refl w s

theorem tick_goes (s : State) : Goes s (tick s) := by
  unfold tick; dsimp only
  have m : Goes s (sampleInputs s.inputs (elapse 1 (begin s))) :=
    (((begin_acts s).trans ((elapse_moves 1 _).acts (plain_of_mem (by decide)))).trans (sampleInputs_acts _ _)).goes
  have m2 := m.trans (startTick_goes _)
  split
  · next hr =>
    exact m2.trans (timeTick_goes (startTick_running hr))
  · exact m2

/-- Every command but full reset is a chain of acts. -/
theorem exec_goes {c : Instr} {s t : State} (hc : c ≠ .fullReset) (h : exec c s = .next t) : Goes s t := by
  have fin : ∀ {u : State}, Goes s u → (Host.Outcome.next u : Host.Outcome State Fault Refusal) = .next t → Goes s t :=
    fun g h => by injection h with h; exact h ▸ g
  have b : Acts false s (begin s) := begin_acts s
  have still : Goes s (begin s) := b.goes
  have row : ∀ e i, Goes s (eventCycle e i s) := fun e i => eventCycle_goes e i s
  cases c with
  | fullReset => exact absurd rfl hc
  | readingEntry p => exact fin (b.trans (.ite (fun hs => enterReading_acts p hs) fun _ => .refl _ _)).goes h
  | settingsByteTimeout =>
    exact fin (b.trans (.ite (fun hs => (Act.halts 3 _ (.inl hs)).one) fun _ => .refl _ _)).goes h
  | settingsImageComplete block =>
    exact fin (b.trans (.ite (fun hs => imageComplete_acts block hs) fun _ => .refl _ _)).goes h
  | selftestEnd r =>
    exact fin (b.trans (.ite (fun hs => .ite (fun _ => (Act.listens _ hs).one) fun _ =>
      (Act.halts 9 _ (.inr (.inl hs))).one) fun _ => .refl _ _)).goes h
  | listenTimerExpiry i =>
    refine fin ?_ h
    split
    · exact still.trans (listenExpires_goes i ‹_›)
    · exact still
  | cycleStart i => exact fin (still.trans (timerExpiry_goes i _)) h
  | statusPoint => exact fin (b.trans (statusPointNow_acts _)).goes h
  | lineIdleOffer => exact fin (b.trans (Deed.offers _).acts).goes h
  | arbitrationLoss =>
    simp only [exec, execArbitrationLoss] at h
    split at h
    · exact fin still h
    · next e he =>
      have m := b.trans (Deed.tally (fun c => { c with arbitrationLosses := bump c.arbitrationLosses }) (begin s)).acts
      exact fin (m.trans (Act.ends (.back e id ((begin s).count _) he keepsEntry_id)).one).goes h
  | bitError =>
    simp only [exec, execBitError] at h
    split at h
    · exact fin still h
    · next e he => exact fin (b.trans (Act.ends (.bitError e _ he)).one).goes h
  | attemptEnd acked =>
    simp only [exec, execAttemptEnd] at h
    split at h
    · exact fin still h
    · next e he =>
      have m : Acts false s ((begin s).onLine fun l => { l with bitErrorRun := 0 }) :=
        b.trans (Deed.lineRuns 0 (begin s).line.noTakerRun (begin s)).acts
      have he' : flight ((begin s).onLine fun l => { l with bitErrorRun := 0 }).line.queue = some e := he
      exact fin (m.trans (.ite (fun _ => (Act.ends (.delivered e _ he')).one) fun _ =>
        (Act.ends (.fails e _ he')).one)).goes h
  | bulletinDiscard r =>
    simp only [exec, execBulletinDiscard] at h
    have m : Acts false s (setAck false (begin s)) := b.trans (Deed.ack false _).acts
    split at h
    · exact fin m.goes h
    · split at h
      · exact fin (m.trans (Deed.tally _ _).acts).goes h
      · split at h
        · exact fin (m.trans (Deed.tally _ _).acts).goes h
        · exact fin m.goes h
  | trip x => exact fin (receive_goes s fun u ho _ _ _ => (takeTrip_deeds (ho.resolve_left (by decide))).acts.goes) h
  | pace x i => exact fin (receive_goes s fun u _ _ _ _ => takePace_goes x i u) h
  | restart x => exact fin (receive_goes s fun u _ _ _ _ => (applyRestart_deeds u).acts.goes) h
  | alarmAck x => exact fin (receive_goes s fun u _ _ _ _ => (Deed.acks _ u).acts.goes) h
  | xferAsk x =>
    exact fin (receive_goes s fun u _ _ _ _ => ((dragAsk_moves x u).acts (plain_of_mem (by decide))).goes) h
  | xferYield x => exact fin (receive_goes s fun u _ _ _ _ => (walkYield_deeds x u).acts.goes) h
  | xferRefuse x =>
    exact fin (receive_goes s fun u _ _ _ _ => ((walkRefuse_moves x u).acts (plain_of_mem (by decide))).goes) h
  | xferDone x =>
    exact fin (receive_goes s fun u _ _ _ _ => (takeXferBroadcast_deeds (fun v => .refl _ v) u).acts.goes) h
  | xferAbort x =>
    exact fin (receive_goes s fun u _ _ _ _ => (takeXferBroadcast_deeds
      (fun v => (dragAbort_moves x v).deeds (plain_of_mem (by decide))) u).acts.goes) h
  | xferRelease x =>
    exact fin (receive_goes s fun u _ _ _ _ => ((dragRelease_moves x u).acts (plain_of_mem (by decide))).goes) h
  | shareAsk x =>
    exact fin (receive_goes s fun u _ _ _ _ => ((answerAsk_moves x u).acts (plain_of_mem (by decide))).goes) h
  | shareGrant x => exact fin (receive_goes s fun u _ _ _ _ => (takeGrant_deeds x u).acts.goes) h
  | shareRefuse x => exact fin (receive_goes s fun u _ _ _ _ => (takeRefuse_deeds x u).acts.goes) h
  | shareReturn x => exact fin (receive_goes s fun u _ _ _ _ => (Deed.returns x u).acts.goes) h
  | shareRecall x =>
    exact fin (receive_goes s fun u _ _ _ _ => ((takeRecall_moves x u).acts (plain_of_mem (by decide))).goes) h
  | status x => exact fin (receive_goes s fun u _ _ _ _ => (takeStatus_deeds x u).acts.goes) h
  | reference x => exact fin (receive_goes s fun u _ _ _ _ => (Deed.reference x u).acts.goes) h
  | alarm x => exact fin (receive_goes s fun u ho _ _ hl =>
    (takeAlarm_deeds (ho.resolve_left (by decide)) hl).acts.goes) h
  | query x =>
    refine fin (receive_goes s fun u _ hr ha _ => (Deed.asked x u (ha.resolve_left (by decide)) ?_).acts.goes) h
    simpa [hasRoom] using hr
  | reply x => exact fin (receive_goes s fun u _ _ _ _ => (Acts.refl _ u).goes) h
  | slaveEdge u => exact fin (b.trans (slaveEdge_acts u _)).goes h
  | masterEdge u => exact fin (b.trans (masterEdge_acts u _)).goes h
  | ownedHookLoss din => exact fin (b.trans (sampleInputs_acts _ _)).goes h
  | operatorStop din => exact fin (b.trans (sampleInputs_acts _ _)).goes h
  | fieldLinkAck => exact fin (b.trans (Deed.awaits _).acts).goes h
  | rejoinTestEnd r =>
    exact fin (b.trans (.ite (fun hs => .ite (fun _ => (Act.rejoins _ hs).one) fun _ =>
      (Act.halts 9 _ (.inr (.inr hs))).one) fun _ => .refl _ _)).goes h
  | encoderTransition r =>
    exact fin (b.trans (.ite (fun _ => .refl _ _) fun _ => (Deed.encoder _ _).acts)).goes h
  | faultPinPulse =>
    exact fin (b.trans (.ite (fun _ => (Act.timers (begin s).startup.listenTimer _ (begin s)).one) fun _ =>
      .refl _ _)).goes h
  | longCycle i | peerSilent i | referenceStarved i | duplicateStationClear i | lineRejoin i | pressure i
  | askWaitEnd i | voluntaryReturn i | loanTermEnd i | loanGraceEnd i | quarantineEnd i | stallHeld i
  | fieldLinkLost i | brakeSet i | brakeFeedback i | brakeSlip i | slackRope i | yieldLimit i | yieldWaitExpiry i
  | askWaitExpiry i | transferFailed i | contactorDisagree i | contactorContrary i | stepOvertime i
  | flashPhaseInvert i | refusalFlashEnd i | tablePurge i => exact fin (row _ i) h

/-- The state that full reset leaves, pins and waiting commands standing (R185, log entry 5). -/
def restored (i : Inputs) (p : List Instr) : State := { State.reset with inputs := i, pending := p }

/-- A step is a chain of acts, or full reset. -/
theorem step_goes {s t : State} (h : step s = .next t) : Goes s t ∨ ∃ i p, t = restored i p := by
  unfold step at h
  split at h
  · injection h with h
    exact .inl (h ▸ tick_goes s)
  · next c rest _ =>
    by_cases hc : c = .fullReset
    · subst hc
      injection h with h
      exact .inr ⟨_, _, h.symm⟩
    · exact .inl ((Deed.pending rest s).acts.goes.trans (exec_goes hc h))

/-- What every chain of acts keeps, and full reset brings, is kept by the step. -/
theorem kept_of_goes {inv rests : State → Prop} (hr : ∀ i p, inv (restored i p))
    (hg : ∀ s t, Goes s t → rests s → inv s → inv t) : Kept inv rests := fun s t hs h hstep => by
  rcases step_goes hstep with g | ⟨i, p, rfl⟩
  · exact hg s t g h hs
  · exact hr i p

end Sys2Proof.Machine
end

section
/-! PROOFS. What the alarm unit's operations do to the line unit: they place ALARM bulletins. -/

namespace Sys2Proof.Machine

/-- The line unit stands, or an ALARM has been placed. -/
def AlarmPlaced (s t : State) : Prop :=
  t.line = s.line ∨ ∃ e : Entry, e.New ∧ e.kind = .alarm ∧ t.line = (place e s).line

/-- Some ALARM bulletins have been placed, one after the other. -/
def AlarmLine : State → State → Prop := Relation.ReflTransGen AlarmPlaced

section
variable {s t u : State}

theorem AlarmLine.trans (h : AlarmLine s t) (k : AlarmLine t u) : AlarmLine s u := Relation.ReflTransGen.trans h k

theorem alarmLine_of_line (h : t.line = s.line) : AlarmLine s t := .single (.inl h)

/-- What a placement keeps of the line unit, the alarm unit's operations keep. -/
theorem AlarmLine.keeps {Q : LineUnit → Prop} (h : AlarmLine s t)
    (hq : ∀ (e : Entry) (s : State), e.New → e.kind = .alarm → Q s.line → Q (place e s).line) :
    Q s.line → Q t.line := by
  intro hs
  induction h with
  | refl => exact hs
  | tail _ hlast ih =>
    rcases hlast with h | ⟨e, hn, hk, h⟩
    · rwa [h]
    · rw [h]; exact hq e _ hn hk ih

theorem reportAlarm_alarmLine (r : AlarmRecord) (a b : Bool) (s : State) : AlarmLine s (reportAlarm r a b s) := by
  refine .single (.inr ⟨{ kind := .alarm, target := Config.broadcast, words := alarmWords r a b },
    new_entry _ _ _ _ _ _, rfl, ?_⟩)
  unfold reportAlarm; dsimp only
  split <;> rfl

theorem report_alarmLine (r : AlarmRecord) (a b : Bool) (l : List AlarmRecord) (s : State) :
    AlarmLine s (reportAlarm r a b (setAlarmList l s)) :=
  (alarmLine_of_line (s := s) (t := setAlarmList l s) rfl).trans (reportAlarm_alarmLine r a b _)

theorem enterRecord_alarmLine (r : AlarmRecord) (s : State) : AlarmLine s (enterRecord r s).1 := by
  unfold enterRecord; dsimp only
  split
  · exact report_alarmLine _ _ _ _ s
  · split
    · exact alarmLine_of_line rfl
    · exact (report_alarmLine _ _ _ _ s).trans (report_alarmLine _ _ _ _ _)

theorem raiseRecord_alarmLine (c : AlarmCode) (d : Option Nat) (s : State) : AlarmLine s (raiseRecord c d s).1 := by
  unfold raiseRecord; dsimp only
  split
  · exact alarmLine_of_line rfl
  · split
    · exact enterRecord_alarmLine _ s
    · split
      · exact report_alarmLine _ _ _ _ s
      · exact report_alarmLine _ _ _ _ s

theorem raiseQuiet_alarmLine (c : AlarmCode) (d : Option Nat) (s : State) : AlarmLine s (raiseQuiet c d s) :=
  raiseRecord_alarmLine c d s

theorem setRearm_line (s : State) : (setRearm s).line = s.line := (setRearm_frame s).1 .line (by decide)

theorem clearAlarm_alarmLine (c : AlarmCode) (d : Option Nat) (s : State) : AlarmLine s (clearAlarm c d s) := by
  have rearmIf : ∀ (p : Prop) [Decidable p] (t : State), AlarmLine s t → AlarmLine s (if p then setRearm t else t) := by
    intro p _ t h
    split
    · exact h.trans (alarmLine_of_line (setRearm_line t))
    · exact h
  unfold clearAlarm; dsimp only
  split
  · exact alarmLine_of_line rfl
  · split
    · exact alarmLine_of_line rfl
    · split
      · exact rearmIf _ s (alarmLine_of_line rfl)
      · exact rearmIf _ _ (report_alarmLine _ _ _ _ s)
      · exact rearmIf _ _ (report_alarmLine _ _ _ _ s)

theorem loanDropped_alarmLine (n : Nat) (s : State) : AlarmLine s (loanDropped n s) :=
  (raiseQuiet_alarmLine _ _ s).trans (clearAlarm_alarmLine _ _ _)

theorem ackRecord_alarmLine (t : Stamp) (s : State) (r : AlarmRecord) : AlarmLine s (ackRecord t s r) := by
  unfold ackRecord
  split
  · split
    · exact alarmLine_of_line rfl
    · exact report_alarmLine _ _ _ _ s
    · exact report_alarmLine _ _ _ _ s
  · exact alarmLine_of_line rfl

theorem ackList_alarmLine (t : Stamp) (s : State) : AlarmLine s (ackList t s) := by
  have folds : ∀ (l : List AlarmRecord) (u : State), AlarmLine u (l.foldl (ackRecord t) u) := by
    intro l
    induction l with
    | nil => exact fun u => alarmLine_of_line rfl
    | cons r l ih => exact fun u => (ackRecord_alarmLine t u r).trans (ih _)
  unfold ackList
  split
  · exact folds _ s
  · exact alarmLine_of_line rfl

end

/-! ### What the alarm unit's operations do to the machine table: they merge their own records -/

/-- Some merges have been made, one after the other. -/
def AlarmTable : State → State → Prop :=
  Relation.ReflTransGen fun s t => t.table = s.table ∨ ∃ m : Merge, t.table = mergeTable m s.table

section
variable {s t u : State}

theorem AlarmTable.trans (h : AlarmTable s t) (k : AlarmTable t u) : AlarmTable s u := Relation.ReflTransGen.trans h k

theorem alarmTable_of_table (h : t.table = s.table) : AlarmTable s t := .single (.inl h)

/-- What a merge keeps of the table, the alarm unit's operations keep. -/
theorem AlarmTable.keeps {Q : MachineTable → Prop} (h : AlarmTable s t)
    (hq : ∀ (m : Merge) (t : MachineTable), Q t → Q (mergeTable m t)) : Q s.table → Q t.table := by
  intro hs
  induction h with
  | refl => exact hs
  | tail _ hlast ih =>
    rcases hlast with h | ⟨m, h⟩ <;> rw [h]
    · exact ih
    · exact hq m _ ih

theorem reportAlarm_alarmTable (r : AlarmRecord) (a b : Bool) (s : State) : AlarmTable s (reportAlarm r a b s) := by
  have hp : ∀ e, (place e s).table = s.table := fun e => (place_frame e s).1 .table (by decide)
  unfold reportAlarm; dsimp only
  split
  · exact .single (.inr ⟨_, congrArg (mergeTable _) (hp _)⟩)
  · exact alarmTable_of_table (hp _)

theorem report_alarmTable (r : AlarmRecord) (a b : Bool) (l : List AlarmRecord) (s : State) :
    AlarmTable s (reportAlarm r a b (setAlarmList l s)) :=
  (alarmTable_of_table (s := s) (t := setAlarmList l s) rfl).trans (reportAlarm_alarmTable r a b _)

theorem raiseRecord_alarmTable (c : AlarmCode) (d : Option Nat) (s : State) : AlarmTable s (raiseRecord c d s).1 := by
  unfold raiseRecord; dsimp only
  split
  · exact alarmTable_of_table rfl
  · split
    · unfold enterRecord; dsimp only
      split
      · exact report_alarmTable _ _ _ _ s
      · split
        · exact alarmTable_of_table rfl
        · exact (report_alarmTable _ _ _ _ s).trans (report_alarmTable _ _ _ _ _)
    · split
      · exact report_alarmTable _ _ _ _ s
      · exact report_alarmTable _ _ _ _ s

theorem raiseQuiet_alarmTable (c : AlarmCode) (d : Option Nat) (s : State) : AlarmTable s (raiseQuiet c d s) :=
  raiseRecord_alarmTable c d s

theorem setRearm_table (s : State) : (setRearm s).table = s.table := (setRearm_frame s).1 .table (by decide)

theorem clearAlarm_alarmTable (c : AlarmCode) (d : Option Nat) (s : State) : AlarmTable s (clearAlarm c d s) := by
  have rearmIf : ∀ (p : Prop) [Decidable p] (t : State), AlarmTable s t → AlarmTable s (if p then setRearm t else t) := by
    intro p _ t h
    split
    · exact h.trans (alarmTable_of_table (setRearm_table t))
    · exact h
  unfold clearAlarm; dsimp only
  split
  · exact alarmTable_of_table rfl
  · split
    · exact alarmTable_of_table rfl
    · split
      · exact rearmIf _ s (alarmTable_of_table rfl)
      · exact rearmIf _ _ (report_alarmTable _ _ _ _ s)
      · exact rearmIf _ _ (report_alarmTable _ _ _ _ s)

theorem loanDropped_alarmTable (n : Nat) (s : State) : AlarmTable s (loanDropped n s) :=
  (raiseQuiet_alarmTable _ _ s).trans (clearAlarm_alarmTable _ _ _)

theorem ackRecord_alarmTable (t : Stamp) (s : State) (r : AlarmRecord) : AlarmTable s (ackRecord t s r) := by
  unfold ackRecord
  split
  · split
    · exact alarmTable_of_table rfl
    · exact report_alarmTable _ _ _ _ s
    · exact report_alarmTable _ _ _ _ s
  · exact alarmTable_of_table rfl

theorem ackList_alarmTable (t : Stamp) (s : State) : AlarmTable s (ackList t s) := by
  have folds : ∀ (l : List AlarmRecord) (u : State), AlarmTable u (l.foldl (ackRecord t) u) := by
    intro l
    induction l with
    | nil => exact fun u => alarmTable_of_table rfl
    | cons r l ih => exact fun u => (ackRecord_alarmTable t u r).trans (ih _)
  unfold ackList
  split
  · exact folds _ s
  · exact alarmTable_of_table rfl

end

/-- A condition on the machine table that every merge and every age keeps is kept by every move. -/
theorem Move.table_keeps {Q : MachineTable → Prop} {g : Tag} {s t : State} (m : Move g s t)
    (hm : ∀ (m : Merge) (t : MachineTable), Q t → Q (mergeTable m t))
    (ha : ∀ t : MachineTable, Q t → Q (Machine.ageTable t))
    (hf : ∀ (p : TableField) (t t' : MachineTable), p.only t t' → Q t → Q t') (hq : Q s.table) : Q t.table := by
  by_cases hb : Block.table ∈ g.blocks
  · cases m with
    | raised c d => exact (raiseQuiet_alarmTable c d s).keeps hm hq
    | cleared c d => exact (clearAlarm_alarmTable c d s).keeps hm hq
    | dropped n => exact (loanDropped_alarmTable n s).keeps hm hq
    | report r => exact (reportAlarm_alarmTable r false true s).keeps hm hq
    | table p g _ ho => exact hf p _ _ ho hq
    | ageTable => exact ha _ hq
    | _ => exact absurd hb (by simp [Tag.blocks])
  · have : t.table = s.table := m.frame.1 .table hb
    rwa [this]

/-! ### The line unit after each move -/

section
variable {Q : LineUnit → Prop}

/-- A condition on the line unit that placements and the queue's own moves keep is kept by every move. -/
structure LineKept (Q : LineUnit → Prop) : Prop where
  place : ∀ (e : Entry) (s : State), e.New → e.kind ≠ .shareGrant → Q s.line → Q (enqueue e s).1.line
  grant : ∀ (e : Entry) (s : State), e.New → e.kind = .shareGrant → Q s.line → Q (enqueue e s).1.line
  count : ∀ (g : LineCounters → LineCounters) (l : LineUnit), Q l → Q { l with counters := g l.counters }
  mute : ∀ (p : Entry → Bool) (l : LineUnit), Q l →
    Q { l with queue := l.queue.map fun e => if p e then { e with muted := true } else e }
  settle : ∀ (p : Entry → Bool) (l : LineUnit), Q l →
    Q { l with queue := l.queue.map fun e => if p e then { e with rank := min e.rank 1 } else e }
  age : ∀ (c : DWord) (l : LineUnit), Q l → Q { l with queue := queueLeft c l.queue }
  field : ∀ (p : LineField) (l l' : LineUnit), p.only l l' → Q l → Q l'
  queries : ∀ (l : LineUnit) (rest : List Query) (q : Query), l.queries = q :: rest → Q l →
    Q { l with queries := rest }
  rejoin : ∀ (l l' : LineUnit), l.state = .lineFault → Q l →
    l' = { l with state := .rejoining, loopback := l'.loopback, txSeq := l'.txSeq, arbitration := l'.arbitration } → Q l'

theorem placeTold_line (e : Entry) (s : State) : (placeTold e s).line = (enqueue e s).1.line := by
  unfold placeTold
  rcases enqueue e s with ⟨t, a⟩
  cases a with
  | evicted x => exact (tellLender_frame x t).1 .line (by decide)
  | admitted => rfl
  | refused => rfl

theorem placeGrant_line (peer k : Nat) (s : State) : ∃ e : Entry, e.New ∧ e.kind = .shareGrant ∧
    (placeGrant peer k s).1.line = (enqueue e (s.onShare fun h => { h with grantNumber := h.grantNumber + 1 })).1.line := by
  refine ⟨{ kind := .shareGrant, target := toStation peer, words := grantWords k s.share.grantNumber },
    new_entry _ _ _ _ _ _, rfl, ?_⟩
  unfold placeGrant; dsimp only
  split
  · next h => rw [h]
  · next h => rw [h]; rfl

theorem LineKept.alarm (h : LineKept Q) {s t : State} (a : AlarmLine s t) : Q s.line → Q t.line :=
  a.keeps fun e s hn hk hq => h.place e s hn (by rw [hk]; decide) hq

theorem LineKept.move (h : LineKept Q) {g : Tag} {s t : State} (m : Move g s t) (hq : Q s.line) : Q t.line := by
  by_cases hb : Block.line ∈ g.blocks
  · cases m with
    | count g => exact h.count g _ hq
    | place e _ hn hg => rw [placeTold_line]; exact h.place e s hn hg hq
    | mute p => exact h.mute p _ hq
    | settle p => exact h.settle p _ hq
    | age => exact h.age _ _ hq
    | line p g _ ho => exact h.field p _ _ ho hq
    | queries _ rest q hr => exact h.queries _ rest q hr hq
    | rejoin _ hl => exact h.rejoin s.line _ hl hq rfl
    | walkTo w =>
      have hm : ∀ t : State, Q t.line → Q (watchOwned (t.onWalk fun k => { k with state := w, stateCount := 0 })).line :=
        fun t ht => by rw [(watchOwned_frame _).1 .line (by decide)]; exact ht
      unfold setWalkState; dsimp only
      split
      · exact hm _ (h.mute _ _ hq)
      · exact hm _ hq
    | grant peer k _ hk hs =>
      obtain ⟨e, hn, hg, he⟩ := placeGrant_line peer k s
      rw [he]
      exact h.grant e _ hn hg hq
    | raised c d => exact h.alarm (raiseQuiet_alarmLine c d s) hq
    | cleared c d => exact h.alarm (clearAlarm_alarmLine c d s) hq
    | dropped n => exact h.alarm (loanDropped_alarmLine n s) hq
    | report r => exact h.alarm (reportAlarm_alarmLine r false true s) hq
    | _ => exact absurd hb (by simp [Tag.blocks])
  · have : t.line = s.line := m.frame.1 .line hb
    rwa [this]

end

end Sys2Proof.Machine
end

section
/-! PROOFS. What every step keeps of line state, start state, timer and settings image (O51). -/

namespace Sys2Proof.Machine

/-! ### Line state and start state -/

/-- The line state goes with a start state, and nothing waits outside ACTIVE. -/
def LineAgrees (st : StartState) (l : LineUnit) : Prop :=
  lineStateFits st l.state = true ∧ (l.state ≠ .active → l.queue = [] ∧ l.queries = [])

theorem lineAgrees_of_queue {st : StartState} {l l' : LineUnit} (h : LineAgrees st l) (hs : l'.state = l.state)
    (hq : l.queue = [] → l'.queue = []) (hr : l.queries = [] → l'.queries = []) : LineAgrees st l' :=
  ⟨hs ▸ h.1, fun ha => (h.2 (hs ▸ ha)).imp hq hr⟩

theorem lineAgrees_enqueue {st : StartState} (e : Entry) (s : State) (h : LineAgrees st s.line) :
    LineAgrees st (enqueue e s).1.line := by
  by_cases ha : s.line.state = .active
  · obtain ⟨q, c, hq⟩ := queueOnly_enqueue e s
    rw [hq]
    exact ⟨h.1, fun hn => absurd ha hn⟩
  · rw [enqueue_refused ha]
    exact h

theorem lineStateFits_fault {st : StartState} (h : lineStateFits st .lineFault = true) : st = .joined := by
  cases st <;> simp_all [lineStateFits]

theorem lineAgrees_kept (st : StartState) : LineKept (LineAgrees st) where
  place e s _ _ h := lineAgrees_enqueue e s h
  grant e s _ _ h := lineAgrees_enqueue e s h
  count _ _ h := h
  mute _ _ h := lineAgrees_of_queue h rfl (fun hq => by simp [hq]) id
  settle _ _ h := lineAgrees_of_queue h rfl (fun hq => by simp [hq]) id
  age _ _ h := lineAgrees_of_queue h rfl (fun hq => by simp [hq, queueLeft]) id
  field p l l' ho h := by
    cases p <;> (simp only [LineField.only] at ho; rw [ho]; exact h)
  queries l rest q hr h := ⟨h.1, fun ha => by simp [(h.2 ha).2] at hr⟩
  rejoin l l' hl h ho := by
    have hn := h.2 (by rw [hl]; decide)
    have hst : st = .joined := lineStateFits_fault (hl ▸ h.1)
    rw [ho]
    exact ⟨by rw [hst]; rfl, fun _ => hn⟩

/-! ### Start state and timer -/

/-- The timer goes with a start state. -/
structure TimeAgrees (st : StartState) (t : LineTime) : Prop where
  runs : st = .joined → t.running = true
  stops : t.running = true → st = .listen ∨ st = .joined
  still : t.running = false → t.offset = 0

theorem startAgrees_iff (s : State) :
    StartAgrees s ↔ LineAgrees s.startup.state s.line ∧ TimeAgrees s.startup.state s.time :=
  ⟨fun h => ⟨⟨h.line, h.empty⟩, ⟨h.runs, h.stops, h.still⟩⟩,
    fun ⟨h, k⟩ => ⟨h.1, h.2, k.runs, k.stops, k.still⟩⟩

theorem startAgrees_of_time {s t : State} (h : StartAgrees s) (hu : t.startup.state = s.startup.state)
    (hl : LineAgrees s.startup.state t.line) (hr : t.time.running = s.time.running)
    (ho : s.time.running = false → t.time.offset = s.time.offset) : StartAgrees t := by
  rw [startAgrees_iff, hu]
  exact ⟨hl, fun hs => hr ▸ h.runs hs, fun hs => h.stops (hr ▸ hs),
    fun hs => (ho (hr ▸ hs)).trans (h.still (hr ▸ hs))⟩

theorem Move.startAgrees {g : Tag} {s t : State} (m : Move g s t) (h : StartAgrees s) : StartAgrees t := by
  have hl := (lineAgrees_kept s.startup.state).move m ((startAgrees_iff s).1 h).1
  have hu := m.startup
  by_cases hb : Block.time ∈ g.blocks
  · cases m with
    | long n => exact startAgrees_of_time h rfl hl rfl fun _ => rfl
    | statusTime _ hr => exact startAgrees_of_time h rfl hl rfl fun hs => by rw [hr] at hs; cases hs
    | _ => exact absurd hb (by simp [Tag.blocks])
  · have ht : t.time = s.time := m.frame.1 .time hb
    exact startAgrees_of_time h (by rw [hu]) hl (by rw [ht]) fun _ => by rw [ht]

theorem startAgrees_of_frame {bs : List Block} {s t : State} (h : StartAgrees s) (f : Frame bs s t)
    (hl : Block.line ∉ bs) (ht : Block.time ∉ bs) (hu : Block.startup ∉ bs) : StartAgrees t := by
  have el : t.line = s.line := f.1 .line hl
  have et : t.time = s.time := f.1 .time ht
  have eu : t.startup = s.startup := f.1 .startup hu
  rw [startAgrees_iff] at h ⊢
  rwa [el, et, eu]

theorem startAgrees_of_line {s t : State} (h : StartAgrees s) (f : Frame [.line] s t)
    (hl : LineAgrees s.startup.state t.line) : StartAgrees t := by
  have et : t.time = s.time := f.1 .time (by decide)
  have eu : t.startup = s.startup := f.1 .startup (by decide)
  exact startAgrees_of_time h (by rw [eu]) hl (by rw [et]) fun _ => by rw [et]

theorem takeReturn_frame (b : Bulletin) (s : State) : Frame [.share] s (takeReturn b s) := by
  unfold takeReturn; dsimp only
  split
  · exact .refl _ s
  · split
    · exact .refl _ s
    · exact onShare_frame s _

theorem returnDelivered_frame (e : Entry) (s : State) : Frame [.share] s (returnDelivered e s) := by
  unfold returnDelivered; dsimp only
  split
  · exact .refl _ s
  · exact onShare_frame s _

theorem grantDelivered_frame (e : Entry) (s : State) : Frame [.share] s (grantDelivered e s) := by
  unfold grantDelivered; dsimp only
  exact .ite (onShare_frame s _) (.refl _ s)

theorem freshPeer_frame (n : Nat) (s : State) : Frame [.line, .share] s (freshPeer n s) :=
  (onShare_frame s _).comp (muteWhere_frame _ _) (by decide) (by decide)

theorem takeReference_frame (b : Bulletin) (s : State) : Frame [.line, .ring] s (takeReference b s) := by
  unfold takeReference
  exact .ite (ruleReference_frame _ s) (.refl _ s)

theorem acceptRestart_frame (s : State) : Frame [.alarms, .ring, .table] s (acceptRestart s) := by
  unfold acceptRestart; dsimp only
  have h := (onAlarms_frame s fun a => { a with mode := .run }).comp (setRearm_frame _) (ds := [.alarms, .ring, .table])
    (by decide) (by decide)
  exact .ite (h.trans ((onTable_frame _ _).mono (by decide))) h

theorem keepAtCab_frame (k : Kind) (b : Bulletin) (d : Bool) (s : State) : Frame [.cab] s (keepAtCab k b d s) := by
  unfold keepAtCab; dsimp only
  exact .ite (onCab_frame s _) (.ite (onCab_frame s _) (.refl _ s))

theorem offer_frame (s : State) : Frame [.line] s (offer s) := by
  unfold offer
  refine .ite ?_ (.refl _ s)
  split
  · exact .refl _ s
  · exact onLine_frame s _

/-- The reference's rule leaves the line state and what waits. -/
theorem takeReference_line (b : Bulletin) (s : State) :
    (takeReference b s).line = { s.line with counters := (takeReference b s).line.counters } := by
  unfold takeReference ruleReference; dsimp only
  split
  · split
    · rfl
    · split <;> rfl
  · rfl

theorem freshPeer_line (n : Nat) (s : State) : ∃ p : Entry → Bool,
    (freshPeer n s).line = { s.line with
      queue := s.line.queue.map fun e => if p e then { e with muted := true } else e } := ⟨_, rfl⟩

/-- An offer sets one WAITING entry in flight, in ACTIVE alone. -/
theorem offer_cases (s : State) : offer s = s ∨ (s.line.state = .active ∧ ∃ k e, s.line.queue[k]? = some e ∧
    e.inFlight = false ∧ (flight s.line.queue).isNone ∧ offer s = s.onLine fun l =>
      { l with queue := l.queue.modify k fun e => { e with inFlight := true },
               arbitration := arbitrationUnits s.startup.rate,
               txSeq := if e.kind = .status then e.seq else s.picture.seq }) := by
  unfold offer
  split
  · next h =>
    cases hk : offerPlace s.line.queue with
    | none => exact .inl rfl
    | some k =>
      obtain ⟨c, -, hc⟩ := Option.bind_eq_some_iff.1 hk
      obtain ⟨hlt, hp, -⟩ := List.findIdx?_eq_some_iff_getElem.1 hc
      refine .inr ⟨h.1, k, s.line.queue[k], List.getElem?_eq_getElem hlt, (by simpa using hp : _ ∧ _).1, h.2, ?_⟩
      simp only [State.onLine, List.getElem?_eq_getElem hlt]
  · exact .inl rfl

theorem Deed.startup {f : Bool} {s t : State} (d : Deed f s t) : t.startup = s.startup := by
  cases d with
  | move m => exact m.startup
  | begins | ack | tally | clock | awaits | encoder | pending | merges | mergesTrip | acksTable | coilOn | borrows
  | peer | asked | withdraws | lands | lineRuns | drops | flushes => rfl
  | reference b => exact (takeReference_frame b s).1 .startup (by decide)
  | acks t => exact (ackList_frame t s).1 .startup (by decide)
  | restarts => exact (acceptRestart_frame s).1 .startup (by decide)
  | keeps k b d => exact (keepAtCab_frame k b d s).1 .startup (by decide)
  | returns b => exact (takeReturn_frame b s).1 .startup (by decide)
  | returned e => exact (returnDelivered_frame e s).1 .startup (by decide)
  | freshens n => exact (freshPeer_frame n s).1 .startup (by decide)
  | offers => exact (offer_frame s).1 .startup (by decide)
  | books e => exact (grantDelivered_frame e s).1 .startup (by decide)

/-- Every deed keeps the agreement; that the queues are flushed needs the station joined. -/
theorem Deed.startAgrees {f : Bool} {s t : State} (d : Deed f s t) (hf : f = true → s.startup.state = .joined)
    (h : StartAgrees s) : StartAgrees t := by
  have hl : LineAgrees s.startup.state s.line := ((startAgrees_iff s).1 h).1
  cases d with
  | move m => exact m.startAgrees h
  | begins => exact startAgrees_of_line h (begin_frame s) (lineAgrees_of_queue hl rfl (fun hq => by simp [begin, hq]) id)
  | ack b => exact startAgrees_of_line h (onLine_frame s _) hl
  | tally g => exact startAgrees_of_line h (onLine_frame s _) hl
  | clock g _ hc hr ho => exact startAgrees_of_time h rfl hl hr ho
  | awaits => exact startAgrees_of_frame h (onDrive_frame s _) (by decide) (by decide) (by decide)
  | encoder n => exact ⟨h.line, h.empty, h.runs, h.stops, h.still⟩
  | pending p => exact ⟨h.line, h.empty, h.runs, h.stops, h.still⟩
  | reference b =>
    have f := takeReference_frame b s
    refine startAgrees_of_time h (by rw [f.1 .startup (by decide)]) ?_ (by rw [f.1 .time (by decide)])
      fun _ => by rw [f.1 .time (by decide)]
    rw [takeReference_line]
    exact hl
  | merges | mergesTrip | acksTable => exact startAgrees_of_frame h (onTable_frame s _) (by decide) (by decide) (by decide)
  | acks t =>
    have f := ackList_frame t s
    exact startAgrees_of_time h (by rw [f.1 .startup (by decide)])
      ((lineAgrees_kept _).alarm (ackList_alarmLine t s) hl) (by rw [f.1 .time (by decide)])
      fun _ => by rw [f.1 .time (by decide)]
  | restarts => exact startAgrees_of_frame h (acceptRestart_frame s) (by decide) (by decide) (by decide)
  | coilOn => exact startAgrees_of_frame h (setCoil_frame true s) (by decide) (by decide) (by decide)
  | keeps k b d => exact startAgrees_of_frame h (keepAtCab_frame k b d s) (by decide) (by decide) (by decide)
  | borrows => exact startAgrees_of_frame h (onShare_frame s _) (by decide) (by decide) (by decide)
  | returns b => exact startAgrees_of_frame h (takeReturn_frame b s) (by decide) (by decide) (by decide)
  | returned e => exact startAgrees_of_frame h (returnDelivered_frame e s) (by decide) (by decide) (by decide)
  | books e => exact startAgrees_of_frame h (grantDelivered_frame e s) (by decide) (by decide) (by decide)
  | freshens n =>
    have f := freshPeer_frame n s
    obtain ⟨p, hp⟩ := freshPeer_line n s
    refine startAgrees_of_time h (by rw [f.1 .startup (by decide)]) ?_ (by rw [f.1 .time (by decide)])
      fun _ => by rw [f.1 .time (by decide)]
    rw [hp]
    exact lineAgrees_of_queue hl rfl (fun hq => by simp [hq]) id
  | peer n g => exact startAgrees_of_frame h (setPeer_frame n g s) (by decide) (by decide) (by decide)
  | asked b _ ha => exact startAgrees_of_line h (onLine_frame s _) ⟨hl.1, fun hn => absurd ha hn⟩
  | withdraws =>
    exact startAgrees_of_line h (onLine_frame s _) (lineAgrees_of_queue hl rfl (fun hq => by simp [withdrawPace, hq]) id)
  | offers =>
    rcases offer_cases s with ho | ⟨ha, k, e, -, -, -, ho⟩
    · rwa [ho]
    · rw [ho]
      exact startAgrees_of_line h (onLine_frame s _) ⟨hl.1, fun hn => absurd ha hn⟩
  | lands g _ hg =>
    exact startAgrees_of_line h (onLine_frame s _)
      (lineAgrees_of_queue hl rfl (fun hq => by simp [landFlight, hq]) id)
  | lineRuns n m => exact startAgrees_of_line h (onLine_frame s _) hl
  | drops => exact startAgrees_of_line h (onLine_frame s _) (lineAgrees_of_queue hl rfl (fun hq => by simp [dropFlight, hq]) id)
  | flushes =>
    exact startAgrees_of_line h (onLine_frame s _) ⟨by rw [hf rfl]; rfl, fun _ => ⟨rfl, rfl⟩⟩

/-- An entry is in flight in ACTIVE alone, so at a joined station. -/
theorem joined_of_flight {s : State} {e : Entry} (h : StartAgrees s) (he : flight s.line.queue = some e) :
    s.startup.state = .joined := by
  have ha : s.line.state = .active := by
    by_contra hn
    simp [(h.empty hn).1, flight] at he
  have hl := h.line
  rw [ha] at hl
  cases hs : s.startup.state <;> simp_all [lineStateFits]

theorem SendEnds.flies {s t : State} (h : SendEnds s t) : ∃ e, flight s.line.queue = some e := by
  cases h with
  | back e _ _ he _ => exact ⟨e, he⟩
  | fails e _ he => exact ⟨e, he⟩
  | delivered e _ he => exact ⟨e, he⟩
  | bitError e _ he => exact ⟨e, he⟩

theorem Deeds.startup {f : Bool} {s t : State} (d : Deeds f s t) : t.startup = s.startup :=
  d.keeps (P := fun u => u.startup = s.startup) (fun _ _ d h => d.startup.trans h) rfl

theorem SendEnds.startAgrees {s t : State} (d : SendEnds s t) (h : StartAgrees s) : StartAgrees t := by
  obtain ⟨e, he⟩ := d.flies
  have keeps := d.deeds.keeps (P := fun u => StartAgrees u ∧ u.startup.state = .joined)
    (fun _ _ d hu => ⟨d.startAgrees (fun _ => hu.2) hu.1, by rw [d.startup]; exact hu.2⟩)
  exact (keeps ⟨h, joined_of_flight h he⟩).1

theorem ageQueue_startAgrees {s : State} (h : StartAgrees s) : StartAgrees (ageQueue s) :=
  (ageQueue_moves s).keeps (fun _ _ _ _ m => m.startAgrees) h

theorem borrowedTerms_startAgrees {s : State} (h : StartAgrees s) : StartAgrees (borrowedTerms s) :=
  (borrowedTerms_moves s).keeps (fun _ _ _ _ m => m.startAgrees) h

theorem joinEntry_startAgrees (i : Inputs) (s : State) : StartAgrees (joinEntry i s) := by
  have hr : (joinEntry i s).time.running = true := by
    unfold joinEntry; dsimp only
    split
    · assumption
    · rfl
  refine ⟨?_, fun hn => absurd ?_ hn, fun _ => hr, fun _ => .inr rfl, fun hs => by rw [hr] at hs; cases hs⟩
  · unfold joinEntry; dsimp only; split <;> rfl
  · unfold joinEntry; dsimp only; split <;> rfl

theorem quiet_of_state {s : State} (h : StartAgrees s)
    (hs : s.startup.state = .reading ∨ s.startup.state = .selftest ∨ s.startup.state = .reset) :
    s.line.state = .quiet ∧ s.line.queue = [] ∧ s.line.queries = [] ∧ s.time.running = false ∧ s.time.offset = 0 := by
  have hl := h.line
  have hq : s.line.state = .quiet := by
    rcases hs with hs | hs | hs <;> rw [hs] at hl <;> cases hl' : s.line.state <;> rw [hl'] at hl <;>
      first | rfl | cases hl
  have hr : s.time.running = false := by
    by_contra hr
    rcases h.stops (by simpa using hr) with h' | h' <;> rcases hs with hs | hs | hs <;> rw [hs] at h' <;> cases h'
  have he := h.empty (by rw [hq]; decide)
  exact ⟨hq, he.1, he.2, hr, h.still hr⟩

theorem halt_startAgrees (c : Nat) {s : State} (he : s.line.queue = [] ∧ s.line.queries = []) :
    StartAgrees (halt c s) := ⟨rfl, fun _ => he, fun h => (nomatch h), fun h => (nomatch h), fun _ => rfl⟩

theorem rejoining_joined {s : State} (h : StartAgrees s) (hs : s.line.state = .rejoining) :
    s.startup.state = .joined := by
  have hl := h.line
  rw [hs] at hl
  cases hst : s.startup.state <;> simp_all [lineStateFits]

theorem Act.startAgrees {w : Bool} {s t : State} (a : Act w s t) (h : StartAgrees s) : StartAgrees t := by
  cases a with
  | deed d => exact d.startAgrees (fun hf => by cases hf) h
  | ages => exact ageQueue_startAgrees h
  | terms => exact borrowedTerms_startAgrees h
  | ends d => exact d.startAgrees h
  | turns g _ hs hr =>
    refine ⟨h.line, h.empty, fun _ => hr, fun _ => ?_, fun hn => by rw [State.onTime_time, hr] at hn; cases hn⟩
    rcases hs with hs | hs | hs
    · exact h.stops hs
    · exact .inl hs
    · exact .inr hs
  | reads p _ hs =>
    obtain ⟨hq, h1, h2, hr, ho⟩ := quiet_of_state h (.inr (.inr hs))
    refine ⟨?_, fun _ => ⟨h1, h2⟩, fun h => (nomatch h), fun hn => ?_, fun _ => ho⟩
    · show lineStateFits .reading s.line.state = true
      rw [hq]; rfl
    · rw [State.onStartup_time, hr] at hn; cases hn
  | image block _ hs hc =>
    obtain ⟨hq, h1, h2, hr, ho⟩ := quiet_of_state h (.inl hs)
    refine ⟨?_, fun _ => ⟨h1, h2⟩, fun h => (nomatch h), fun hn => ?_, fun _ => ho⟩
    · show lineStateFits .selftest s.line.state = true
      rw [hq]; rfl
    · change s.time.running = true at hn
      rw [hr] at hn; cases hn
  | listens _ hs =>
    obtain ⟨hq, h1, h2, hr, ho⟩ := quiet_of_state h (.inr (.inl hs))
    exact ⟨rfl, fun _ => ⟨h1, h2⟩, fun h => (nomatch h), fun _ => .inl rfl, fun _ => ho⟩
  | halts c _ hs =>
    refine halt_startAgrees c ?_
    rcases hs with hs | hs | hs
    · exact ⟨(quiet_of_state h (.inl hs)).2.1, (quiet_of_state h (.inl hs)).2.2.1⟩
    · exact ⟨(quiet_of_state h (.inr (.inl hs))).2.1, (quiet_of_state h (.inr (.inl hs))).2.2.1⟩
    · exact h.empty (by rw [hs]; decide)
  | rejoins _ hs =>
    have hj := rejoining_joined h hs
    refine ⟨?_, fun hn => absurd rfl hn, h.runs, h.stops, h.still⟩
    show lineStateFits s.startup.state .active = true
    rw [hj]; rfl
  | timers n m => exact ⟨h.line, h.empty, h.runs, h.stops, h.still⟩
  | joins i _ u hs m =>
    exact startAgrees_of_frame (m.keeps (fun _ _ _ _ m => m.startAgrees) (joinEntry_startAgrees i s))
      (watchOwned_frame u) (by decide) (by decide) (by decide)

theorem restored_startAgrees (i : Inputs) (p : List Instr) : StartAgrees (restored i p) :=
  ⟨rfl, fun _ => ⟨rfl, rfl⟩, fun h => (nomatch h), fun h => (nomatch h), fun _ => rfl⟩

theorem Acts.startAgrees {w : Bool} {s t : State} (a : Acts w s t) (h : StartAgrees s) : StartAgrees t :=
  a.keeps (fun _ _ a => a.startAgrees) h

/-- What every act keeps beside the agreement of start and line state is kept by a step. -/
theorem Goes.keeps {P : State → Prop} {s t : State} (g : Goes s t)
    (h : ∀ s t, Act true s t → StartAgrees s → P s → P t) (hs : StartAgrees s) (hp : P s) : P t :=
  (g.acts.keeps (P := fun u => StartAgrees u ∧ P u) (fun _ _ a hu => ⟨a.startAgrees hu.1, h _ _ a hu.1 hu.2⟩)
    ⟨hs, hp⟩).2

/-! ### The settings image -/

theorem le_clampNat {lo hi : Nat} (h : lo ≤ hi) (x : Nat) : lo ≤ clampNat lo hi x := by
  unfold clampNat
  split
  · exact le_rfl
  · split <;> omega

theorem clampNat_le {lo hi : Nat} (h : lo ≤ hi) (x : Nat) : clampNat lo hi x ≤ hi := by
  unfold clampNat
  split
  · exact h
  · split <;> omega

theorem clampNat_mem {lo hi : Nat} (h : lo ≤ hi) (x : Nat) : lo ≤ clampNat lo hi x ∧ clampNat lo hi x ≤ hi :=
  ⟨le_clampNat h x, clampNat_le h x⟩

/-- Both passes hold the globals to TABLE 12-7 and TABLE 11-3. -/
theorem globalsHeld_clamp (g : Globals) : GlobalsHeld g.clampFixed.clampDependent := by
  have period := le_clampNat (lo := 5) (hi := 50) (by decide) g.pacePeriod
  have high := le_clampNat (lo := 500) (hi := 1000) (by decide) g.highMark
  constructor
  case period => exact ⟨period, clampNat_le (by decide) _⟩
  case statusPoint =>
    show min g.statusPoint (clampNat 5 50 g.pacePeriod - 1) < clampNat 5 50 g.pacePeriod
    omega
  case marks =>
    refine ⟨?_, clampNat_le (by decide) _⟩
    show min g.lowMark (clampNat 500 1000 g.highMark - 100) + 100 ≤ clampNat 500 1000 g.highMark
    omega
  case longLength => exact clampNat_mem (lo := 2) (hi := 64) (by decide) _
  case staleness => exact clampNat_mem (lo := 2) (hi := 20) (by decide) _
  case window => exact clampNat_mem (lo := 1) (hi := 32) (by decide) _
  case loanTerm => exact clampNat_mem (lo := 1) (hi := 255) (by decide) _
  case contactorLimit => exact clampNat_mem (lo := 10) (hi := 100) (by decide) _

/-- The settings image of a block. -/
def imageOf (block : List Byte) (station : Nat) : Settings :=
  (rawSettings block ((Role.ofCode (roleByte block station)).getD .none)).clamp
    ((Role.ofCode (roleByte block station)).getD .none)

theorem formImage_startup (block : List Byte) (s : State) : (formImage block s).startup =
    { s.startup with state := .selftest, settings := imageOf block s.station,
                     clamped := imageOf block s.station !=
                       rawSettings block ((Role.ofCode (roleByte block s.station)).getD .none),
                     signature := headerCheck block } := rfl

theorem imageOf_table (block : List Byte) (n : Nat) : (imageOf block n).table =
    (List.range 8).map fun k => { tableEntryOf block k with subs := (tableEntryOf block k).subs ||| statusBit } := by
  simp only [imageOf, Settings.clamp, rawSettings, List.map_map]
  rfl

/-- The role of the station's own entry is the role the image was clamped for. -/
theorem imageOf_role (block : List Byte) {n : Nat} (hn : n < 8) :
    ((imageOf block n).table.getD n {}).role = (Role.ofCode (roleByte block n)).getD .none := by
  rw [imageOf_table, List.getD_eq_getElem?_getD, List.getElem?_map, List.getElem?_range hn]
  rfl

theorem station_lt (s : State) : s.station < 8 := s.startup.station.isLt

theorem formImage_role (block : List Byte) (s : State) :
    (formImage block s).role = (Role.ofCode (roleByte block s.station)).getD .none := by
  have hs : (formImage block s).station = s.station := rfl
  rw [State.role, State.entryOf, formImage_startup, hs]
  exact imageOf_role block (station_lt s)

theorem formImage_params (block : List Byte) (s : State) : (formImage block s).params =
    (((paramsOf block (formImage block s).role).clampFixed (formImage block s).role).clampDependent
      (formImage block s).role (globalsOf block).clampFixed.clampDependent) := by
  rw [formImage_role]
  rfl

theorem clampDependent_yieldLimit (p : RopeParams) (r : Role) (c : Nat) :
    (p.clampDependent r c).yieldLimit = p.yieldLimit := by
  unfold RopeParams.clampDependent; dsimp only
  split <;> split <;> rfl

/-- The drag's yield limit is held by the first pass and stands in the second. -/
theorem clamp_yieldLimit (p : Params) (g : Globals) :
    ((p.clampFixed .drag).clampDependent .drag g).rope.yieldLimit = clampNat 20 1000 p.rope.yieldLimit :=
  (clampDependent_yieldLimit (p.rope.clampFixed .drag) .drag _).trans rfl

theorem settingsHeld_formImage (block : List Byte) (s : State) : SettingsHeld (formImage block s) where
  globals _ := globalsHeld_clamp (globalsOf block)
  homes _ e he := by
    rw [formImage_startup] at he
    change e ∈ (imageOf block s.station).table at he
    rw [imageOf_table] at he
    obtain ⟨k, -, rfl⟩ := List.mem_map.1 he
    exact Nat.min_le_left _ _
  stall _ := by
    rw [formImage_params]
    exact le_max_right _ _
  brakeCheck _ := by
    rw [formImage_params]
    exact clampNat_le (by decide) _
  yieldLimit _ hr := by
    rw [formImage_params, hr, clamp_yieldLimit]
    exact clampNat_mem (by decide) _
  walk _ hr := by
    rw [formImage_params, hr]
    obtain ⟨a, b⟩ := clampNat_mem (lo := 20) (hi := 1000) (by decide) (paramsOf block .walk).walk.askWait
    exact ⟨a, b, clampNat_mem (lo := 100) (hi := 10000) (by decide) _⟩

theorem settingsHeld_of_startup {s t : State} (h : SettingsHeld s) (hs : t.startup.settings = s.startup.settings)
    (hn : t.startup.station = s.startup.station) (hf : imageFormed t → imageFormed s) : SettingsHeld t := by
  have hg : t.globals = s.globals := by rw [State.globals, hs, State.globals]
  have hp : t.params = s.params := by rw [State.params, hs, State.params]
  have hr : t.role = s.role := by simp only [State.role, State.entryOf, State.station, hs, hn]
  constructor
  · exact fun k => hg ▸ h.globals (hf k)
  · exact fun k => hs ▸ h.homes (hf k)
  · exact fun k => hp ▸ h.stall (hf k)
  · exact fun k => hp ▸ h.brakeCheck (hf k)
  · exact fun k hd => hp ▸ h.yieldLimit (hf k) (hr ▸ hd)
  · exact fun k hd => hp ▸ h.walk (hf k) (hr ▸ hd)

theorem settingsHeld_of_unformed {t : State} (h : ¬ imageFormed t) : SettingsHeld t :=
  ⟨fun k => absurd k h, fun k => absurd k h, fun k => absurd k h, fun k => absurd k h, fun k => absurd k h,
    fun k => absurd k h⟩

theorem settingsHeld_same {s t : State} (h : SettingsHeld s) (hu : t.startup = s.startup) : SettingsHeld t :=
  settingsHeld_of_startup h (by rw [hu]) (by rw [hu]) (by unfold imageFormed; rw [hu]; exact id)

theorem joinEntry_startup (i : Inputs) (s : State) :
    (joinEntry i s).startup = { s.startup with state := .joined } := by
  unfold joinEntry; dsimp only
  split <;> rfl

theorem Act.settingsHeld {w : Bool} {s t : State} (a : Act w s t) (h : SettingsHeld s) : SettingsHeld t := by
  cases a with
  | deed d => exact settingsHeld_same h d.startup
  | ages => exact settingsHeld_same h (ageQueue_moves s).startup
  | terms => exact settingsHeld_same h (borrowedTerms_moves s).startup
  | ends d => exact settingsHeld_same h d.deeds.startup
  | turns => exact settingsHeld_same h rfl
  | reads => exact settingsHeld_of_unformed (by unfold imageFormed; simp)
  | image block => exact settingsHeld_formImage block s
  | listens _ hs => exact settingsHeld_of_startup h rfl rfl fun _ => .inl hs
  | halts c => exact settingsHeld_of_unformed (by unfold imageFormed; simp [halt, shareHalted, driveHalted])
  | rejoins => exact settingsHeld_same h rfl
  | timers => exact settingsHeld_of_startup h rfl rfl id
  | joins i _ u hs m =>
    have hu : (watchOwned u).startup = { s.startup with state := .joined } := by
      rw [(watchOwned_frame u).1 .startup (by decide), m.startup, joinEntry_startup]
    exact settingsHeld_of_startup h (by rw [hu]) (by rw [hu]) fun _ => .inr (.inl hs)

end Sys2Proof.Machine

open Sys2Proof Sys2Proof.Machine

/-- Settles O51: each act of a step keeps the agreement of start state, line state and timer, and the image that
both passes of R187 form lies in its ranges. -/
theorem stepKeepsStartAgrees : Obligations.StepKeepsStartAgrees := kept_of_goes
  (fun i p => ⟨restored_startAgrees i p, settingsHeld_of_unformed (by unfold imageFormed; simp [restored, State.reset])⟩)
  fun _ _ g _ ⟨hs, hh⟩ => ⟨g.acts.startAgrees hs, g.acts.keeps (fun _ _ a => a.settingsHeld) hh⟩

end

section
/-! PROOFS. Queues, lists and table stay within their sizes (O53). -/

namespace Sys2Proof.Machine

/-! ### The transmit queue -/

/-- The transmit queue within its size: the general entries, the reserved one, and one entry in flight. -/
structure QueueFits (q : List Entry) : Prop where
  general : (q.filter fun e => !e.reserved).length ≤ Config.queueSize
  reserved : (q.filter fun e => e.reserved).length ≤ 1
  inFlight : (q.filter fun e => e.inFlight).length ≤ 1

theorem QueueFits.sublist {q q' : List Entry} (h : QueueFits q) (hs : q'.Sublist q) : QueueFits q' :=
  ⟨(hs.filter _).length_le.trans h.general, (hs.filter _).length_le.trans h.reserved,
    (hs.filter _).length_le.trans h.inFlight⟩

theorem QueueFits.map {q : List Entry} (h : QueueFits q) (f : Entry → Entry)
    (hr : ∀ e, (f e).reserved = e.reserved) (hf : ∀ e, (f e).inFlight = true → e.inFlight = true) :
    QueueFits (q.map f) := by
  refine ⟨?_, ?_, ?_⟩
  · rw [List.filter_map, List.length_map]
    simpa only [Function.comp_def, hr] using h.general
  · rw [List.filter_map, List.length_map]
    simpa only [Function.comp_def, hr] using h.reserved
  · rw [List.filter_map, List.length_map]
    refine (List.Sublist.length_le ?_).trans h.inFlight
    exact List.monotone_filter_right q fun e he => hf e he

theorem QueueFits.standIn {q : List Entry} {e : Entry} (h : QueueFits q) (hr : e.reserved = false)
    (hf : e.inFlight = false) (hs : (q.filter fun e => !e.reserved).length < Config.queueSize) :
    QueueFits (standIn e q) := by
  refine ⟨?_, ?_, ?_⟩ <;> rw [length_filter_standIn]
  · rw [if_pos (by simp [hr])]; omega
  · rw [if_neg (by simp [hr]), Nat.zero_add]; exact h.reserved
  · rw [if_neg (by simp [hf]), Nat.zero_add]; exact h.inFlight

/-- The reserved entry, where none stands. -/
theorem QueueFits.standIn_reserved {q : List Entry} {e : Entry} (h : QueueFits q) (hr : e.reserved = true)
    (hf : e.inFlight = false) (hn : ∀ x ∈ q, x.reserved = false) : QueueFits (Machine.standIn e q) := by
  refine ⟨?_, ?_, ?_⟩ <;> rw [length_filter_standIn]
  · rw [if_neg (by simp [hr]), Nat.zero_add]; exact h.general
  · have : q.filter (fun e => e.reserved) = [] := List.filter_eq_nil_iff.2 fun x hx => by simp [hn x hx]
    rw [if_pos (by simp [hr]), this]
    exact le_rfl
  · rw [if_neg (by simp [hf]), Nat.zero_add]; exact h.inFlight

theorem queueFits_elders {q : List Entry} (k : Kind) (h : QueueFits q) :
    QueueFits ((q.filter fun e => !(e.kind == k && !e.inFlight)).map fun e =>
      if e.kind == k then { e with due := some .replaced } else e) := by
  refine (h.sublist List.filter_sublist).map _ (fun e => ?_) fun e => ?_
  · split <;> rfl
  · split <;> exact id

theorem countReplaced_queue (k : Kind) (s : State) : (countReplaced k s).line.queue = s.line.queue := by
  unfold countReplaced
  split <;> rfl

theorem replaceElders_queue (k : Kind) (s : State) : (replaceElders k s).line.queue =
    if isReplacing k = true then (s.line.queue.filter fun e => !(e.kind == k && !e.inFlight)).map fun e =>
      if e.kind == k then { e with due := some .replaced } else e
    else s.line.queue := by
  unfold replaceElders replaceOlder; dsimp only
  split
  · split
    · rw [countReplaced_queue]; rfl
    · rfl
  · rfl

theorem queueFits_replaceElders (k : Kind) {s : State} (h : QueueFits s.line.queue) :
    QueueFits (replaceElders k s).line.queue := by
  rw [replaceElders_queue]
  split
  · exact queueFits_elders k h
  · exact h

theorem queueFits_admitGeneral {e : Entry} {s : State} (hr : e.reserved = false) (hf : e.inFlight = false)
    (h : QueueFits s.line.queue) : QueueFits (admitGeneral e s).1.line.queue := by
  rcases admitGeneral_cases e s with ⟨hs, ha⟩ | ⟨-, k, x, hx, ha⟩ | ⟨-, ha⟩ <;> rw [ha]
  · exact h.standIn hr hf hs
  · refine (h.sublist (List.eraseIdx_sublist _ _)).standIn hr hf ?_
    have hl := length_filter_eraseIdx (p := fun e => !e.reserved) hx.here
    have hg := h.general
    rw [if_pos (by simp [hx.waits.2])] at hl
    omega
  · exact h

theorem queueFits_enqueue {e : Entry} {s : State} (hn : e.New) (h : QueueFits s.line.queue) :
    QueueFits (enqueue e s).1.line.queue := by
  rcases enqueue_cases e s with ⟨-, he⟩ | ⟨-, -, hr, he⟩ | ⟨-, he⟩ <;> rw [he]
  · exact h
  · exact h.standIn_reserved rfl hn.waits hr
  · exact queueFits_admitGeneral hn.reserved hn.waits (queueFits_replaceElders _ h)

theorem queueFits_queueLeft (c : DWord) {q : List Entry} (h : QueueFits q) : QueueFits (queueLeft c q) := by
  have ha : QueueFits (q.map Entry.aged) := h.map _ (fun e => by unfold Entry.aged; split <;> rfl)
    fun e => by unfold Entry.aged; split <;> exact id
  refine (ha.sublist List.filter_sublist).map _ (fun e => ?_) fun e => ?_
  · unfold Entry.markExpired; split
    · split <;> rfl
    · rfl
  · unfold Entry.markExpired; split
    · split <;> exact id
    · exact id

theorem length_filter_modify_of_eq {α : Type} {p : α → Bool} {f : α → α} (h : ∀ x, p (f x) = p x) (l : List α)
    (k : Nat) : ((l.modify k f).filter p).length = (l.filter p).length := by
  induction l generalizing k with
  | nil => rw [List.modify_nil]
  | cons x l ih =>
    cases k with
    | zero => simp only [List.modify_zero_cons, List.filter_cons, h]; split <;> rfl
    | succ k =>
      simp only [List.modify_succ_cons, List.filter_cons]
      split
      · rw [List.length_cons, List.length_cons, ih]
      · exact ih k

theorem length_filter_modify_le {α : Type} (p : α → Bool) (f : α → α) (l : List α) (k : Nat) :
    ((l.modify k f).filter p).length ≤ (l.filter p).length + 1 := by
  induction l generalizing k with
  | nil => rw [List.modify_nil]; exact Nat.zero_le _
  | cons x l ih =>
    cases k with
    | zero =>
      rw [List.modify_zero_cons]
      have new : ((f x :: l).filter p).length ≤ (l.filter p).length + 1 := by rw [List.filter_cons]; split <;> simp
      have old : (l.filter p).length ≤ ((x :: l).filter p).length := ((List.sublist_cons_self x l).filter p).length_le
      omega
    | succ k =>
      simp only [List.modify_succ_cons, List.filter_cons]
      split
      · simp only [List.length_cons]; exact Nat.succ_le_succ (ih k)
      · exact ih k

theorem queueFits_offer {q : List Entry} (h : QueueFits q) (k : Nat) (hn : (flight q).isNone = true) :
    QueueFits (q.modify k fun e => { e with inFlight := true }) := by
  have none : q.filter (fun e => e.inFlight) = [] := by
    rw [List.filter_eq_nil_iff]
    simpa [flight] using hn
  refine ⟨?_, ?_, ?_⟩
  · exact (length_filter_modify_of_eq (f := fun e : Entry => { e with inFlight := true }) (fun _ => rfl) q k).le.trans h.general
  · exact (length_filter_modify_of_eq (f := fun e : Entry => { e with inFlight := true }) (fun _ => rfl) q k).le.trans h.reserved
  · exact (length_filter_modify_le _ _ _ _).trans (by rw [none]; exact le_rfl)

/-- The line unit within its sizes. -/
def LineFits (l : LineUnit) : Prop := QueueFits l.queue ∧ l.queries.length ≤ Config.querySize

theorem lineFits_enqueue {e : Entry} {s : State} (hn : e.New) (h : LineFits s.line) :
    LineFits (enqueue e s).1.line := by
  refine ⟨queueFits_enqueue hn h.1, ?_⟩
  obtain ⟨q, c, hq⟩ := queueOnly_enqueue e s
  rw [hq]
  exact h.2

theorem lineFits_kept : LineKept LineFits where
  place _ _ hn _ h := lineFits_enqueue hn h
  grant _ _ hn _ h := lineFits_enqueue hn h
  count _ _ h := h
  mute p l h := ⟨h.1.map _ (fun e => by split <;> rfl) fun e => by split <;> exact id, h.2⟩
  settle p l h := ⟨h.1.map _ (fun e => by split <;> rfl) fun e => by split <;> exact id, h.2⟩
  age c l h := ⟨queueFits_queueLeft c h.1, h.2⟩
  field p l l' ho h := by cases p <;> (simp only [LineField.only] at ho; rw [ho]; exact h)
  queries l rest q hr h := ⟨h.1, by have := h.2; rw [hr] at this; exact (Nat.le_succ _).trans this⟩
  rejoin l l' _ h ho := by rw [ho]; exact h

/-! ### The alarm list -/

/-- The list within its size. -/
def ListFits (a : Alarms) : Prop := a.list.length ≤ Config.alarmListSize

theorem length_alarmInsert (r : AlarmRecord) (l : List AlarmRecord) : (alarmInsert r l).length = l.length + 1 := by
  induction l with
  | nil => rfl
  | cons x l ih =>
    unfold alarmInsert
    split
    · rfl
    · rw [List.length_cons, ih, List.length_cons]

theorem reportAlarm_alarms (r : AlarmRecord) (a b : Bool) (s : State) : (reportAlarm r a b s).alarms = s.alarms :=
  (reportAlarm_frame r a b s).1 .alarms (by decide)

theorem report_list (r : AlarmRecord) (a b : Bool) (l : List AlarmRecord) (s : State) :
    (reportAlarm r a b (setAlarmList l s)).alarms.list = l := by rw [reportAlarm_alarms]; rfl

theorem alarmVictim_lt {v : Severity} {l : List AlarmRecord} {k : Nat} (h : alarmVictim v l = some k) :
    k < l.length := by
  unfold alarmVictim at h
  split at h
  · next hf =>
    cases h
    exact (List.findIdx?_eq_some_iff_getElem.1 hf).1
  · split at h
    · cases h
    · exact (List.findIdx?_eq_some_iff_getElem.1 h).1

/-- A filter that drops a member is shorter. -/
theorem length_filter_lt {α : Type} {p : α → Bool} {l : List α} {x : α} (hx : x ∈ l) (hp : p x = false) :
    (l.filter p).length < l.length :=
  List.length_filter_lt_length_iff_exists.2 ⟨x, hx, by simp [hp]⟩

theorem listFits_raiseRecord (c : AlarmCode) (d : Option Nat) {s : State} (h : ListFits s.alarms) :
    ListFits (raiseRecord c d s).1.alarms := by
  unfold ListFits at h ⊢
  unfold raiseRecord; dsimp only
  split
  · exact h
  · split
    · unfold enterRecord; dsimp only
      split
      · next hl => rw [report_list, length_alarmInsert]; exact hl
      · split
        · exact h
        · next hv =>
          rw [report_list, length_alarmInsert, List.length_eraseIdx_of_lt (alarmVictim_lt hv)]
          have := alarmVictim_lt hv
          omega
    · next r hr =>
      split
      · rw [report_list, length_alarmInsert]
        exact (length_filter_lt (List.mem_of_find?_eq_some hr) (by simpa using List.find?_some hr)).trans_le h
      · rw [report_list, List.length_map]; exact h

theorem setRearm_alarms (s : State) : (setRearm s).alarms = s.alarms := (setRearm_frame s).1 .alarms (by decide)

theorem listFits_clearAlarm (c : AlarmCode) (d : Option Nat) {s : State} (h : ListFits s.alarms) :
    ListFits (clearAlarm c d s).alarms := by
  have rearmIf : ∀ (p : Prop) [Decidable p] (t : State), ListFits t.alarms →
      ListFits (if p then setRearm t else t).alarms := by
    intro p _ t ht
    split
    · rw [setRearm_alarms]; exact ht
    · exact ht
  unfold clearAlarm; dsimp only
  split
  · exact h
  · split
    · exact h
    · split
      · exact rearmIf _ s h
      · refine rearmIf _ _ ?_
        rw [ListFits, report_list]
        exact (List.length_filter_le _ _).trans h
      · refine rearmIf _ _ ?_
        rw [ListFits, report_list, List.length_map]
        exact h

theorem listFits_ackList (t : Stamp) {s : State} (h : ListFits s.alarms) : ListFits (ackList t s).alarms := by
  have one : ∀ u r, ListFits u.alarms → ListFits (ackRecord t u r).alarms := by
    intro u r hu
    unfold ackRecord
    split
    · split
      · exact hu
      · rw [ListFits, report_list, List.length_map]; exact hu
      · rw [ListFits, report_list]; exact (List.length_filter_le _ _).trans hu
    · exact hu
  have folds : ∀ (l : List AlarmRecord) (u : State), ListFits u.alarms →
      ListFits (l.foldl (ackRecord t) u).alarms := by
    intro l
    induction l with
    | nil => exact fun _ hu => hu
    | cons r l ih => exact fun u hu => ih _ (one u r hu)
  unfold ackList
  split
  · exact folds _ s h
  · exact h

/-! ### The machine table -/

/-- The table within its size. -/
def TableFits (t : MachineTable) : Prop := t.records.length ≤ Config.tableSize

theorem length_tableInsert (r : TableRecord) (l : List TableRecord) : (tableInsert r l).length = l.length + 1 := by
  induction l with
  | nil => rfl
  | cons x l ih =>
    unfold tableInsert
    split
    · rfl
    · rw [List.length_cons, ih, List.length_cons]

theorem refreshFirstOut_records (t : MachineTable) : (refreshFirstOut t).records = t.records := by
  unfold refreshFirstOut
  split <;> rfl

theorem length_tableRoom {l l' : List TableRecord} (h : l.length ≤ Config.tableSize) (hr : tableRoom l = some l') :
    l'.length < Config.tableSize := by
  have erased : ∀ {k p}, l.findIdx? p = some k → (l.eraseIdx k).length < Config.tableSize := by
    intro k p hk
    have hlt := (List.findIdx?_eq_some_iff_getElem.1 hk).1
    rw [List.length_eraseIdx_of_lt hlt]
    omega
  unfold tableRoom at hr
  split at hr
  · cases hr; assumption
  · split at hr
    · next hk => cases hr; exact erased hk
    · obtain ⟨k, hk, rfl⟩ := Option.map_eq_some_iff.1 hr
      exact erased hk

theorem tableFits_tableForm (r : TableRecord) (b : Bool) {t : MachineTable} (h : TableFits t) :
    TableFits (tableForm r b t) := by
  unfold tableForm
  split
  · exact h
  · split
    · next hr =>
      show (tableInsert r _).length ≤ Config.tableSize
      rw [length_tableInsert]
      exact length_tableRoom h hr
    · exact h

theorem tableFits_refresh {t : MachineTable} (h : TableFits t) : TableFits (refreshFirstOut t) := by
  rw [TableFits, refreshFirstOut_records]; exact h

theorem length_tableUpdate {r : TableRecord} {l : List TableRecord}
    (h : l.any (sameKey r.source r.code r.detail) = true) : (tableUpdate r l).length ≤ l.length := by
  obtain ⟨x, hx, hk⟩ := List.any_eq_true.1 h
  unfold tableUpdate
  split
  · rw [List.length_map]
  · rw [length_tableInsert]
    exact length_filter_lt hx (by simp [hk])

theorem tableFits_mergeTable (m : Merge) {t : MachineTable} (h : TableFits t) : TableFits (mergeTable m t) := by
  unfold mergeTable
  refine tableFits_refresh ?_
  split
  · exact (List.length_filter_le _ _).trans h
  · dsimp only
    split
    · next ha => exact (length_tableUpdate ha).trans h
    · exact tableFits_tableForm _ _ h

theorem tableFits_mergeTrip (n : Nat) (c : AlarmCode) (d : Option Nat) (r : Stamp) {t : MachineTable}
    (h : TableFits t) : TableFits (mergeTrip n c d r t) := by
  unfold mergeTrip
  split
  · exact tableFits_refresh h
  · exact tableFits_refresh (tableFits_tableForm _ _ h)

theorem tableFits_ageTable {t : MachineTable} (h : TableFits t) : TableFits (ageTable t) := by
  refine tableFits_refresh ?_
  refine (List.length_filter_le _ _).trans ?_
  rw [List.length_map]
  exact h

theorem tableFits_ackTable (s : Stamp) {t : MachineTable} (h : TableFits t) : TableFits (ackTable s t) := by
  have hr : (ackTable s t).records = t.records.filterMap (ackTableRecord s) := by
    unfold ackTable; dsimp only
    split <;> rfl
  rw [TableFits, hr]
  exact (List.length_filterMap_le _ _).trans h

/-! ### The station -/

/-- The capture units' queues within their size. -/
def UnitsFit (s : State) : Prop :=
  s.unit0.slaveQueue.length ≤ Config.slaveQueueSize ∧ s.unit1.slaveQueue.length ≤ Config.slaveQueueSize

theorem bounded_iff (s : State) : Bounded s ↔ LineFits s.line ∧ ListFits s.alarms ∧ TableFits s.table ∧ UnitsFit s
    ∧ s.picture.peers.length = 8 ∧ s.cab.handleFault.length = 4 :=
  ⟨fun h => ⟨⟨⟨h.general, h.reserved, h.inFlight⟩, h.queries⟩, h.alarms, h.table, ⟨h.slave0, h.slave1⟩, h.peers,
      h.handles⟩,
    fun ⟨⟨⟨g, r, f⟩, q⟩, a, t, ⟨u0, u1⟩, p, c⟩ => ⟨g, r, f, q, a, t, u0, u1, p, c⟩⟩

theorem bounded_of_frame {bs : List Block} {s t : State} (h : Bounded s) (f : Frame bs s t)
    (line : Block.line ∉ bs ∨ LineFits t.line := by exact .inl (by decide))
    (alarms : Block.alarms ∉ bs ∨ ListFits t.alarms := by exact .inl (by decide))
    (table : Block.table ∉ bs ∨ TableFits t.table := by exact .inl (by decide))
    (unit0 : Block.unit0 ∉ bs := by decide) (unit1 : Block.unit1 ∉ bs := by decide)
    (picture : Block.picture ∉ bs ∨ t.picture.peers.length = 8 := by exact .inl (by decide))
    (cab : Block.cab ∉ bs ∨ t.cab.handleFault.length = 4 := by exact .inl (by decide)) : Bounded t := by
  obtain ⟨l, a, tb, ⟨u0, u1⟩, p, c⟩ := (bounded_iff s).1 h
  have same : ∀ b : Block, b ∉ bs → b.same s t := f.1
  rw [bounded_iff]
  refine ⟨line.elim (fun hb => ?_) id, alarms.elim (fun hb => ?_) id, table.elim (fun hb => ?_) id, ⟨?_, ?_⟩,
    picture.elim (fun hb => ?_) id, cab.elim (fun hb => ?_) id⟩
  · rw [show t.line = s.line from same .line hb]; exact l
  · rw [show t.alarms = s.alarms from same .alarms hb]; exact a
  · rw [show t.table = s.table from same .table hb]; exact tb
  · rw [show t.unit0 = s.unit0 from same .unit0 unit0]; exact u0
  · rw [show t.unit1 = s.unit1 from same .unit1 unit1]; exact u1
  · rw [show t.picture = s.picture from same .picture hb]; exact p
  · rw [show t.cab = s.cab from same .cab hb]; exact c

theorem Move.listFits {g : Tag} {s t : State} (m : Move g s t) (h : ListFits s.alarms) : ListFits t.alarms := by
  by_cases hb : Block.alarms ∈ g.blocks
  · cases m with
    | trip =>
      rw [(driveTripped_frame _).1 .alarms (by decide)]; exact h
    | raised c d => exact listFits_raiseRecord c d h
    | cleared c d => exact listFits_clearAlarm c d h
    | dropped n => exact listFits_clearAlarm _ _ (listFits_raiseRecord _ _ h)
    | refresh n => exact h
    | _ => exact absurd hb (by simp [Tag.blocks])
  · have : t.alarms = s.alarms := m.frame.1 .alarms hb
    rwa [this]

theorem Move.tableFits {g : Tag} {s t : State} (m : Move g s t) (h : TableFits s.table) : TableFits t.table :=
  m.table_keeps (fun m _ => tableFits_mergeTable m) (fun _ => tableFits_ageTable)
    (fun p t t' ho h => by cases p <;> (simp only [TableField.only] at ho; rw [ho]; exact h)) h

theorem Move.bounded {g : Tag} {s t : State} (m : Move g s t) (h : Bounded s) : Bounded t := by
  obtain ⟨l, a, tb, ⟨u0, u1⟩, p, c⟩ := (bounded_iff s).1 h
  have hl := lineFits_kept.move m l
  have ha := m.listFits a
  have ht := m.tableFits tb
  by_cases hb : Block.unit0 ∈ g.blocks ∨ Block.unit1 ∈ g.blocks ∨ Block.picture ∈ g.blocks ∨ Block.cab ∈ g.blocks
  · rw [bounded_iff]
    cases m with
    | unit u g _ ho =>
      cases u
      · exact ⟨hl, ha, ht, ⟨(ho _).trans (max_le le_rfl u0), u1⟩, p, c⟩
      · exact ⟨hl, ha, ht, ⟨u0, (ho _).trans (max_le le_rfl u1)⟩, p, c⟩
    | ageing => exact ⟨hl, ha, ht, ⟨u0, u1⟩, by rw [State.onPicture_picture, List.length_map, p], c⟩
    | sequence q => exact ⟨hl, ha, ht, ⟨u0, u1⟩, p, c⟩
    | cab f g _ ho =>
      refine ⟨hl, ha, ht, ⟨u0, u1⟩, p, ?_⟩
      rw [State.onCab_cab]
      cases f <;> simp only [CabField.only] at ho
      · exact ho.2.trans c
      all_goals rw [ho]; exact c
    | _ => exact absurd hb (by simp [Tag.blocks])
  · simp only [not_or] at hb
    exact bounded_of_frame h m.frame (.inr hl) (.inr ha) (.inr ht) hb.1 hb.2.1 (.inl hb.2.2.1) (.inl hb.2.2.2)

theorem Deed.bounded {f : Bool} {s t : State} (d : Deed f s t) (h : Bounded s) : Bounded t := by
  obtain ⟨⟨q, qr⟩, a, tb, ⟨u0, u1⟩, p, c⟩ := (bounded_iff s).1 h
  have line : ∀ {t : State}, Frame [.line] s t → LineFits t.line → Bounded t := fun f hl =>
    bounded_of_frame h f (line := .inr hl)
  have table : ∀ {t : State}, Frame [.table] s t → TableFits t.table → Bounded t := fun f ht =>
    bounded_of_frame h f (table := .inr ht)
  have share : ∀ {t : State}, Frame [.share] s t → Bounded t := fun f =>
    bounded_of_frame h f
  cases d with
  | move m => exact m.bounded h
  | begins => exact line (begin_frame s) ⟨q.map _ (fun _ => rfl) fun _ => id, qr⟩
  | ack b => exact line (onLine_frame s _) ⟨q, qr⟩
  | tally g => exact line (onLine_frame s _) ⟨q, qr⟩
  | clock g =>
    exact bounded_of_frame h (onTime_frame s g)
  | awaits =>
    exact bounded_of_frame h (onDrive_frame s _)
  | encoder n => exact (bounded_iff _).2 ⟨⟨q, qr⟩, a, tb, ⟨u0, u1⟩, p, c⟩
  | pending l => exact (bounded_iff _).2 ⟨⟨q, qr⟩, a, tb, ⟨u0, u1⟩, p, c⟩
  | reference b =>
    refine bounded_of_frame h (takeReference_frame b s) (line := .inr ?_)
    rw [takeReference_line]
    exact ⟨q, qr⟩
  | merges m => exact table (onTable_frame s _) (tableFits_mergeTable m tb)
  | mergesTrip n c d r => exact table (onTable_frame s _) (tableFits_mergeTrip n c d r tb)
  | acksTable t => exact table (onTable_frame s _) (tableFits_ackTable t tb)
  | acks t =>
    exact bounded_of_frame h (ackList_frame t s)
      (line := .inr (lineFits_kept.alarm (ackList_alarmLine t s) ⟨q, qr⟩)) (alarms := .inr (listFits_ackList t a))
      (table := .inr ((ackList_alarmTable t s).keeps (fun m _ => tableFits_mergeTable m) tb))
  | restarts =>
    refine bounded_of_frame h (acceptRestart_frame s) (alarms := .inr ?_) (table := .inr ?_)
    all_goals unfold acceptRestart; dsimp only
    · split
      · rw [State.onTable_alarms, setRearm_alarms]; exact a
      · rw [setRearm_alarms]; exact a
    · split
      · rw [State.onTable_table, setRearm_table]; exact tb
      · rw [setRearm_table]; exact tb
  | coilOn =>
    exact bounded_of_frame h (setCoil_frame true s)
  | keeps k b d =>
    refine bounded_of_frame h (keepAtCab_frame k b d s) (cab := .inr ?_)
    unfold keepAtCab; dsimp only
    split
    · exact c
    · split <;> exact c
  | borrows => exact share (onShare_frame s _)
  | returns b => exact share (takeReturn_frame b s)
  | returned e => exact share (returnDelivered_frame e s)
  | books e => exact share (grantDelivered_frame e s)
  | freshens n =>
    refine bounded_of_frame h (freshPeer_frame n s) (line := .inr ?_)
    obtain ⟨g, hg⟩ := freshPeer_line n s
    rw [hg]
    exact ⟨q.map _ (fun e => by split <;> rfl) fun e => by split <;> exact id, qr⟩
  | peer n g =>
    refine bounded_of_frame h (setPeer_frame n g s) (picture := .inr ?_)
    rw [setPeer, State.onPicture_picture, List.length_set, p]
  | asked b _ ha hr =>
    refine line (onLine_frame s _) ⟨q, ?_⟩
    show (s.line.queries ++ [queryOf b]).length ≤ _
    rw [List.length_append, List.length_singleton]
    exact hr
  | withdraws => exact line (onLine_frame s _) ⟨q.sublist List.filter_sublist, qr⟩
  | offers =>
    rcases offer_cases s with ho | ⟨-, k, e, -, -, hn, ho⟩
    · rwa [ho]
    · rw [ho]
      exact line (onLine_frame s _) ⟨queueFits_offer q k hn, qr⟩
  | lands g _ hg =>
    refine line (onLine_frame s _) ⟨q.map _ (fun e => ?_) fun e => ?_, qr⟩
    · split
      · obtain ⟨n, hn⟩ := hg e
        rw [hn]
      · rfl
    · split
      · intro hc; cases hc
      · exact id
  | lineRuns n m => exact line (onLine_frame s _) ⟨q, qr⟩
  | drops => exact line (onLine_frame s _) ⟨q.sublist List.filter_sublist, qr⟩
  | flushes => exact line (onLine_frame s _) ⟨⟨Nat.zero_le _, Nat.zero_le _, Nat.zero_le _⟩, Nat.zero_le _⟩

theorem ageQueue_bounded {s : State} (h : Bounded s) : Bounded (ageQueue s) :=
  (ageQueue_moves s).keeps (fun _ _ _ _ m => m.bounded) h

theorem Act.bounded {w : Bool} {s t : State} (a : Act w s t) (h : Bounded s) : Bounded t := by
  cases a with
  | deed d => exact d.bounded h
  | ages => exact ageQueue_bounded h
  | terms => exact (borrowedTerms_moves s).keeps (fun _ _ _ _ m => m.bounded) h
  | ends d => exact d.deeds.keeps (fun _ _ d => d.bounded) h
  | turns g => exact bounded_of_frame h (onTime_frame s g)
  | reads p => exact bounded_of_frame h (onStartup_frame s _)
  | timers n m => exact bounded_of_frame h (onStartup_frame s _)
  | image b =>
    obtain ⟨l, a, tb, u, p, c⟩ := (bounded_iff s).1 h
    exact (bounded_iff _).2 ⟨l, a, tb, u, p, c⟩
  | listens =>
    obtain ⟨l, a, tb, u, p, c⟩ := (bounded_iff s).1 h
    exact (bounded_iff _).2 ⟨l, a, tb, u, p, c⟩
  | halts n =>
    obtain ⟨l, a, tb, u, p, c⟩ := (bounded_iff s).1 h
    exact (bounded_iff _).2 ⟨l, a, tb, u, p, c⟩
  | rejoins =>
    obtain ⟨l, a, tb, u, p, c⟩ := (bounded_iff s).1 h
    exact (bounded_iff _).2 ⟨l, a, tb, u, p, c⟩
  | joins i _ u hs m =>
    have he : Bounded (joinEntry i s) := by
      obtain ⟨l, a, tb, u, p, c⟩ := (bounded_iff s).1 h
      rw [bounded_iff]
      unfold joinEntry; dsimp only
      split <;> exact ⟨l, a, tb, u, p, c⟩
    have hu := m.keeps (fun _ _ _ _ m => m.bounded) he
    exact bounded_of_frame hu (watchOwned_frame u)

end Sys2Proof.Machine

open Sys2Proof Sys2Proof.Machine

/-- Settles O53: each act of a step keeps every size. -/
theorem stepKeepsBounded : Obligations.StepKeepsBounded := kept_of_goes
  (fun _ _ => (bounded_iff _).2 ((bounded_iff State.reset).1 (by constructor <;> decide)))
  fun _ _ g _ h => g.acts.keeps (fun _ _ a => a.bounded) h

end

section
/-! PROOFS. The alarm list and the machine table stay ordered (O54). -/

namespace Sys2Proof.Machine

/-! ### Stamps -/

theorem Stamp.le_iff (a b : Stamp) : a.le b = true ↔
    a.cycle.toNat < b.cycle.toNat ∨ (a.cycle.toNat = b.cycle.toNat ∧ a.offset ≤ b.offset) := by
  simp [Stamp.le, BitVec.toNat_eq]

theorem Stamp.lt_iff (a b : Stamp) : a.lt b = true ↔
    a.cycle.toNat < b.cycle.toNat ∨ (a.cycle.toNat = b.cycle.toNat ∧ a.offset < b.offset) := by
  rw [Stamp.lt, Bool.not_eq_true', ← Bool.not_eq_true, Stamp.le_iff]
  omega

theorem Stamp.eq_iff (a b : Stamp) : a = b ↔ a.cycle.toNat = b.cycle.toNat ∧ a.offset = b.offset := by
  cases a
  cases b
  simp [BitVec.toNat_eq]

theorem Stamp.le_trans {a b c : Stamp} (h : a.le b = true) (k : b.le c = true) : a.le c = true := by
  rw [Stamp.le_iff] at *
  omega

theorem Stamp.le_of_lt {a b : Stamp} (h : a.lt b = true) : a.le b = true := by
  rw [Stamp.lt_iff] at h
  rw [Stamp.le_iff]
  omega

theorem Stamp.le_of_not_lt {a b : Stamp} (h : ¬ a.lt b = true) : b.le a = true := by
  rw [Stamp.lt_iff] at h
  rw [Stamp.le_iff]
  omega

/-! ### The alarm list -/

/-- The list by raised time. -/
def InOrder (l : List AlarmRecord) : Prop := l.Pairwise fun a b => a.raised.le b.raised = true

/-- The list by raised time, no code and detail twice. -/
def ListOrdered (l : List AlarmRecord) : Prop := InOrder l ∧ (l.map AlarmRecord.key).Nodup

theorem isRecord_iff {c : AlarmCode} {d : Option Nat} {r : AlarmRecord} : isRecord c d r = true ↔ r.key = (c, d) := by
  simp [isRecord, AlarmRecord.key]

theorem mem_alarmInsert {r x : AlarmRecord} {l : List AlarmRecord} : x ∈ alarmInsert r l ↔ x = r ∨ x ∈ l := by
  induction l with
  | nil => simp [alarmInsert]
  | cons y l ih =>
    unfold alarmInsert
    split
    · simp
    · simp only [List.mem_cons, ih]; tauto

theorem alarmInsert_perm (r : AlarmRecord) (l : List AlarmRecord) : (alarmInsert r l).Perm (r :: l) := by
  induction l with
  | nil => exact .refl _
  | cons y l ih =>
    unfold alarmInsert
    split
    · exact .refl _
    · exact (ih.cons y).trans (.swap r y l)

theorem inOrder_alarmInsert {r : AlarmRecord} {l : List AlarmRecord} (h : InOrder l) : InOrder (alarmInsert r l) := by
  induction l with
  | nil => exact List.pairwise_singleton _ _
  | cons y l ih =>
    obtain ⟨hy, hl⟩ := List.pairwise_cons.1 h
    unfold alarmInsert
    split
    · next hlt =>
      refine List.pairwise_cons.2 ⟨fun x hx => ?_, h⟩
      rcases List.mem_cons.1 hx with rfl | hx
      · exact Stamp.le_of_lt hlt
      · exact Stamp.le_trans (Stamp.le_of_lt hlt) (hy x hx)
    · next hge =>
      refine List.pairwise_cons.2 ⟨fun x hx => ?_, ih hl⟩
      rcases mem_alarmInsert.1 hx with rfl | hx
      · exact Stamp.le_of_not_lt hge
      · exact hy x hx

theorem ListOrdered.insert {r : AlarmRecord} {l : List AlarmRecord} (h : ListOrdered l)
    (hn : ∀ x ∈ l, x.key ≠ r.key) : ListOrdered (alarmInsert r l) := by
  refine ⟨inOrder_alarmInsert h.1, ?_⟩
  rw [((alarmInsert_perm r l).map _).nodup_iff, List.map_cons, List.nodup_cons]
  exact ⟨fun hm => by obtain ⟨x, hx, hk⟩ := List.mem_map.1 hm; exact hn x hx hk, h.2⟩

theorem ListOrdered.sublist {l l' : List AlarmRecord} (h : ListOrdered l) (hs : l'.Sublist l) : ListOrdered l' :=
  ⟨h.1.sublist hs, (hs.map _).nodup h.2⟩

theorem eq_of_key {l : List AlarmRecord} (h : (l.map AlarmRecord.key).Nodup) {x y : AlarmRecord} (hx : x ∈ l)
    (hy : y ∈ l) (hk : x.key = y.key) : x = y := List.inj_on_of_nodup_map h hx hy hk

/-- A record put in the place of the one of its key and raised time. -/
theorem ListOrdered.replace {l : List AlarmRecord} (h : ListOrdered l) {r r' : AlarmRecord} (hr : r ∈ l)
    (hk : r'.key = r.key) (ht : r'.raised = r.raised) :
    ListOrdered (l.map fun x => if isRecord r.code r.detail x then r' else x) := by
  have same : ∀ x ∈ l, (if isRecord r.code r.detail x then r' else x).raised = x.raised
      ∧ (if isRecord r.code r.detail x then r' else x).key = x.key := by
    intro x hx
    split
    · next hi =>
      have : x = r := eq_of_key h.2 hx hr (isRecord_iff.1 hi)
      subst this
      exact ⟨ht, hk⟩
    · exact ⟨rfl, rfl⟩
  refine ⟨?_, ?_⟩
  · refine List.pairwise_map.2 (h.1.imp_of_mem fun hx hy hle => ?_)
    rw [(same _ hx).1, (same _ hy).1]
    exact hle
  · have keys : l.map (AlarmRecord.key ∘ fun x => if isRecord r.code r.detail x then r' else x)
        = l.map AlarmRecord.key := List.map_congr_left fun x hx => (same x hx).2
    rw [List.map_map, keys]
    exact h.2

theorem find?_none_key {l : List AlarmRecord} {c : AlarmCode} {d : Option Nat} (h : l.find? (isRecord c d) = none) :
    ∀ x ∈ l, x.key ≠ (c, d) := fun x hx hk => List.find?_eq_none.1 h x hx (isRecord_iff.2 hk)

theorem listOrdered_raiseRecord (c : AlarmCode) (d : Option Nat) {s : State} (h : ListOrdered s.alarms.list) :
    ListOrdered (raiseRecord c d s).1.alarms.list := by
  unfold raiseRecord; dsimp only
  split
  · exact h
  · split
    · next hf =>
      have hn := find?_none_key hf
      unfold enterRecord; dsimp only
      split
      · rw [report_list]; exact h.insert hn
      · split
        · exact h
        · rw [report_list]
          exact (h.sublist (List.eraseIdx_sublist _ _)).insert fun x hx => hn x (List.mem_of_mem_eraseIdx hx)
    · next r hr =>
      have hm := List.mem_of_find?_eq_some hr
      have hk : r.code = c ∧ r.detail = d := by simpa [isRecord] using List.find?_some hr
      split
      · rw [report_list]
        refine (h.sublist List.filter_sublist).insert fun x hx hxk => ?_
        have hx' := (List.mem_filter.1 hx).2
        have : isRecord c d x = true := isRecord_iff.2 (hxk.trans (Prod.ext hk.1 hk.2))
        rw [this] at hx'
        cases hx'
      · rw [report_list, ← hk.1, ← hk.2]
        exact h.replace hm rfl rfl

theorem listOrdered_clearAlarm (c : AlarmCode) (d : Option Nat) {s : State} (h : ListOrdered s.alarms.list) :
    ListOrdered (clearAlarm c d s).alarms.list := by
  have rearmIf : ∀ (p : Prop) [Decidable p] (t : State), ListOrdered t.alarms.list →
      ListOrdered (if p then setRearm t else t).alarms.list := by
    intro p _ t ht
    split
    · rw [setRearm_alarms]; exact ht
    · exact ht
  unfold clearAlarm; dsimp only
  split
  · exact h
  · split
    · exact h
    · next r hr =>
      have hm := List.mem_of_find?_eq_some hr
      have hk : r.code = c ∧ r.detail = d := by simpa [isRecord] using List.find?_some hr
      split
      · exact rearmIf _ s h
      · refine rearmIf _ _ ?_
        rw [report_list]
        exact h.sublist List.filter_sublist
      · refine rearmIf _ _ ?_
        rw [report_list, ← hk.1, ← hk.2]
        exact h.replace hm rfl rfl

/-- One ack keeps the order, and every record of another key. -/
theorem ackRecord_list (t : Stamp) {s : State} {r : AlarmRecord} (h : ListOrdered s.alarms.list)
    (hr : r ∈ s.alarms.list) : ListOrdered (ackRecord t s r).alarms.list
      ∧ ∀ x ∈ s.alarms.list, x.key ≠ r.key → x ∈ (ackRecord t s r).alarms.list := by
  have other : ∀ x : AlarmRecord, x.key ≠ r.key → ¬ isRecord r.code r.detail x = true := fun x hx hi =>
    hx (isRecord_iff.1 hi)
  unfold ackRecord
  split
  · split
    · exact ⟨h, fun x hx _ => hx⟩
    · rw [report_list]
      exact ⟨h.replace hr rfl rfl, fun x hx hk => List.mem_map.2 ⟨x, hx, if_neg (other x hk)⟩⟩
    · rw [report_list]
      exact ⟨h.sublist List.filter_sublist, fun x hx hk => List.mem_filter.2 ⟨hx, by simpa using other x hk⟩⟩
  · exact ⟨h, fun x hx _ => hx⟩

theorem listOrdered_ackList (t : Stamp) {s : State} (h : ListOrdered s.alarms.list) :
    ListOrdered (ackList t s).alarms.list := by
  have folds : ∀ (l : List AlarmRecord) (u : State), (l.map AlarmRecord.key).Nodup → ListOrdered u.alarms.list →
      (∀ r ∈ l, r ∈ u.alarms.list) → ListOrdered (l.foldl (ackRecord t) u).alarms.list := by
    intro l
    induction l with
    | nil => exact fun _ _ hu _ => hu
    | cons r l ih =>
      intro u hn hu hl
      obtain ⟨hr, hn⟩ := List.nodup_cons.1 hn
      obtain ⟨ho, hk⟩ := ackRecord_list t hu (hl r (by simp))
      exact ih _ hn ho fun x hx => hk x (hl x (by simp [hx])) fun e => hr (e ▸ List.mem_map_of_mem hx)
  unfold ackList
  split
  · exact folds _ s h.2 h fun _ => id
  · exact h

/-! ### The machine table -/

/-- The table by raised time and source. -/
def TableInOrder (l : List TableRecord) : Prop := l.Pairwise fun a b => tableBefore b a = false

/-- The table by raised time and source, no key twice. -/
def TableOrdered (l : List TableRecord) : Prop := TableInOrder l ∧ (l.map TableRecord.key).Nodup

theorem tableBefore_iff (a b : TableRecord) : tableBefore a b = true ↔
    a.raised.cycle.toNat < b.raised.cycle.toNat ∨ (a.raised.cycle.toNat = b.raised.cycle.toNat
      ∧ (a.raised.offset < b.raised.offset ∨ (a.raised.offset = b.raised.offset ∧ a.source < b.source))) := by
  simp only [tableBefore, Bool.or_eq_true, Bool.and_eq_true, beq_iff_eq, decide_eq_true_eq, Stamp.lt_iff, Stamp.eq_iff]
  omega

theorem sameKey_iff {n : Nat} {c : AlarmCode} {d : Option Nat} {r : TableRecord} :
    sameKey n c d r = true ↔ r.key = (n, c, d) := by
  simp [sameKey, TableRecord.key, and_assoc]

theorem mem_tableInsert {r x : TableRecord} {l : List TableRecord} : x ∈ tableInsert r l ↔ x = r ∨ x ∈ l := by
  induction l with
  | nil => simp [tableInsert]
  | cons y l ih =>
    unfold tableInsert
    split
    · simp
    · simp only [List.mem_cons, ih]; tauto

theorem tableInsert_perm (r : TableRecord) (l : List TableRecord) : (tableInsert r l).Perm (r :: l) := by
  induction l with
  | nil => exact .refl _
  | cons y l ih =>
    unfold tableInsert
    split
    · exact .refl _
    · exact (ih.cons y).trans (.swap r y l)

theorem tableInOrder_insert {r : TableRecord} {l : List TableRecord} (h : TableInOrder l) :
    TableInOrder (tableInsert r l) := by
  induction l with
  | nil => exact List.pairwise_singleton _ _
  | cons y l ih =>
    obtain ⟨hy, hl⟩ := List.pairwise_cons.1 h
    unfold tableInsert
    split
    · next hb =>
      refine List.pairwise_cons.2 ⟨fun x hx => ?_, h⟩
      rw [← Bool.not_eq_true, tableBefore_iff]
      rw [tableBefore_iff] at hb
      rcases List.mem_cons.1 hx with rfl | hx
      · omega
      · have := hy x hx
        rw [← Bool.not_eq_true, tableBefore_iff] at this
        omega
    · next hb =>
      refine List.pairwise_cons.2 ⟨fun x hx => ?_, ih hl⟩
      rcases mem_tableInsert.1 hx with rfl | hx
      · simpa using hb
      · exact hy x hx

theorem TableOrdered.insert {r : TableRecord} {l : List TableRecord} (h : TableOrdered l)
    (hn : ∀ x ∈ l, x.key ≠ r.key) : TableOrdered (tableInsert r l) := by
  refine ⟨tableInOrder_insert h.1, ?_⟩
  rw [((tableInsert_perm r l).map _).nodup_iff, List.map_cons, List.nodup_cons]
  exact ⟨fun hm => by obtain ⟨x, hx, hk⟩ := List.mem_map.1 hm; exact hn x hx hk, h.2⟩

theorem TableOrdered.sublist {l l' : List TableRecord} (h : TableOrdered l) (hs : l'.Sublist l) : TableOrdered l' :=
  ⟨h.1.sublist hs, (hs.map _).nodup h.2⟩

/-- A map that keeps key, raised time and source of every member keeps the order. -/
theorem TableOrdered.map {l : List TableRecord} (h : TableOrdered l) (f : TableRecord → TableRecord)
    (hf : ∀ x ∈ l, (f x).raised = x.raised ∧ (f x).key = x.key) : TableOrdered (l.map f) := by
  have hs : ∀ x ∈ l, (f x).source = x.source := fun x hx => congrArg Prod.fst (hf x hx).2
  refine ⟨List.pairwise_map.2 (h.1.imp_of_mem fun {a b} ha hb hle => ?_), ?_⟩
  · unfold tableBefore at hle ⊢
    rw [(hf _ ha).1, (hf _ hb).1, hs _ ha, hs _ hb]
    exact hle
  · have keys : l.map (TableRecord.key ∘ f) = l.map TableRecord.key :=
      List.map_congr_left fun x hx => (hf x hx).2
    rw [List.map_map, keys]
    exact h.2

theorem tableRoom_sublist {l l' : List TableRecord} (h : tableRoom l = some l') : l'.Sublist l := by
  unfold tableRoom at h
  split at h
  · cases h; exact .refl _
  · split at h
    · cases h; exact List.eraseIdx_sublist _ _
    · obtain ⟨k, -, rfl⟩ := Option.map_eq_some_iff.1 h
      exact List.eraseIdx_sublist _ _

theorem tableOrdered_tableForm {r : TableRecord} (b : Bool) {t : MachineTable} (h : TableOrdered t.records)
    (hn : ∀ x ∈ t.records, x.key ≠ r.key) : TableOrdered (tableForm r b t).records := by
  unfold tableForm
  split
  · exact h
  · split
    · next hr =>
      have hs := tableRoom_sublist hr
      exact (h.sublist hs).insert fun x hx => hn x (hs.subset hx)
    · exact h

theorem tableOrdered_tableUpdate {r : TableRecord} {l : List TableRecord} (h : TableOrdered l) :
    TableOrdered (tableUpdate r l) := by
  unfold tableUpdate
  split
  · next ha =>
    obtain ⟨y, hy, hk⟩ := List.any_eq_true.1 ha
    obtain ⟨hky, hry⟩ : sameKey r.source r.code r.detail y = true ∧ y.raised = r.raised := by simpa using hk
    refine h.map _ fun x hx => ?_
    split
    · next hi =>
      have : x = y := List.inj_on_of_nodup_map h.2 hx hy ((sameKey_iff.1 hi).trans (sameKey_iff.1 hky).symm)
      subst this
      exact ⟨hry.symm, (sameKey_iff.1 hi).symm⟩
    · exact ⟨rfl, rfl⟩
  · refine (h.sublist List.filter_sublist).insert fun x hx hk => ?_
    have := (List.mem_filter.1 hx).2
    rw [sameKey_iff.2 hk] at this
    cases this

theorem not_any_sameKey {n : Nat} {c : AlarmCode} {d : Option Nat} {l : List TableRecord}
    (h : ¬ l.any (sameKey n c d) = true) : ∀ x ∈ l, x.key ≠ (n, c, d) :=
  fun x hx hk => h (List.any_eq_true.2 ⟨x, hx, sameKey_iff.2 hk⟩)

theorem tableOrdered_mergeTable (m : Merge) {t : MachineTable} (h : TableOrdered t.records) :
    TableOrdered (mergeTable m t).records := by
  unfold mergeTable
  rw [refreshFirstOut_records]
  split
  · exact h.sublist List.filter_sublist
  · dsimp only
    split
    · exact tableOrdered_tableUpdate h
    · next hn => exact tableOrdered_tableForm _ h (not_any_sameKey hn)

theorem tableOrdered_mergeTrip (n : Nat) (c : AlarmCode) (d : Option Nat) (r : Stamp) {t : MachineTable}
    (h : TableOrdered t.records) : TableOrdered (mergeTrip n c d r t).records := by
  unfold mergeTrip
  split
  · rw [refreshFirstOut_records]; exact h
  · next hn => rw [refreshFirstOut_records]; exact tableOrdered_tableForm _ h (not_any_sameKey hn)

theorem tableOrdered_ageTable {t : MachineTable} (h : TableOrdered t.records) : TableOrdered (ageTable t).records := by
  unfold ageTable
  rw [refreshFirstOut_records]
  exact (h.map (fun r => { r with age := r.age + 1 }) fun _ _ => ⟨rfl, rfl⟩).sublist List.filter_sublist

theorem ackTable_records (s : Stamp) (t : MachineTable) :
    (ackTable s t).records = t.records.filterMap (ackTableRecord s) := by
  unfold ackTable; dsimp only
  split <;> rfl

/-- A record that an ack leaves keeps all but its state. -/
theorem ackTableRecord_same {s : Stamp} {r r' : TableRecord} (h : ackTableRecord s r = some r') :
    r' = { r with state := r'.state } := by
  unfold ackTableRecord at h
  split at h
  · split at h <;> cases h <;> rfl
  · cases h; rfl

theorem tableOrdered_ackTable (s : Stamp) {t : MachineTable} (h : TableOrdered t.records) :
    TableOrdered (ackTable s t).records := by
  rw [ackTable_records]
  have as_map : ∀ l : List TableRecord, l.filterMap (ackTableRecord s) =
      (l.filter fun r => (ackTableRecord s r).isSome).map fun r => (ackTableRecord s r).getD r := by
    intro l
    induction l with
    | nil => rfl
    | cons r l ih =>
      cases hr : ackTableRecord s r <;> simp [hr, ih]
  rw [as_map]
  refine (h.sublist List.filter_sublist).map _ fun x hx => ?_
  obtain ⟨y, hy⟩ := Option.isSome_iff_exists.1 (List.mem_filter.1 hx).2
  have hs := ackTableRecord_same hy
  rw [hy, Option.getD_some, hs]
  exact ⟨rfl, rfl⟩

/-! ### Every act keeps both orders -/

theorem Move.listOrdered {g : Tag} {s t : State} (m : Move g s t) (h : ListOrdered s.alarms.list) :
    ListOrdered t.alarms.list := by
  by_cases hb : Block.alarms ∈ g.blocks
  · cases m with
    | trip =>
      rw [(driveTripped_frame _).1 .alarms (by decide)]; exact h
    | raised c d => exact listOrdered_raiseRecord c d h
    | cleared c d => exact listOrdered_clearAlarm c d h
    | dropped n => exact listOrdered_clearAlarm _ _ (listOrdered_raiseRecord _ _ h)
    | refresh n => exact h
    | _ => exact absurd hb (by simp [Tag.blocks])
  · have : t.alarms = s.alarms := m.frame.1 .alarms hb
    rwa [this]

theorem TableField.records {p : TableField} {t t' : MachineTable} (h : p.only t t') : t'.records = t.records := by
  cases p <;> (simp only [TableField.only] at h; rw [h])

theorem Move.tableOrdered {g : Tag} {s t : State} (m : Move g s t) (h : TableOrdered s.table.records) :
    TableOrdered t.table.records :=
  m.table_keeps (Q := fun t => TableOrdered t.records) (fun m _ => tableOrdered_mergeTable m)
    (fun _ => tableOrdered_ageTable) (fun p t t' ho h => by rw [p.records ho]; exact h) h

theorem listsOrdered_iff (s : State) :
    ListsOrdered s ↔ ListOrdered s.alarms.list ∧ TableOrdered s.table.records :=
  ⟨fun h => ⟨⟨h.listOrder, h.listKeys⟩, ⟨h.tableOrder, h.tableKeys⟩⟩,
    fun ⟨⟨a, b⟩, ⟨c, d⟩⟩ => ⟨a, b, c, d⟩⟩

theorem Move.listsOrdered {g : Tag} {s t : State} (m : Move g s t) (h : ListsOrdered s) : ListsOrdered t := by
  rw [listsOrdered_iff] at *
  exact ⟨m.listOrdered h.1, m.tableOrdered h.2⟩

theorem acceptRestart_lists (s : State) : (acceptRestart s).alarms.list = s.alarms.list
    ∧ (acceptRestart s).table.records = s.table.records := by
  unfold acceptRestart; dsimp only
  split
  · rw [State.onTable_alarms, setRearm_alarms, State.onTable_table, setRearm_table]
    exact ⟨rfl, rfl⟩
  · rw [setRearm_alarms, setRearm_table]
    exact ⟨rfl, rfl⟩

/-- The deeds that change the alarm list or the machine table. -/
inductive ListDeed : State → State → Prop where
  | move {g : Tag} {s t : State} (m : Move g s t) : ListDeed s t
  | stands {s t : State} (ha : t.alarms.list = s.alarms.list) (ht : t.table.records = s.table.records) : ListDeed s t
  | merges (m : Merge) (s) (h : m.source ≠ s.station) (hl : s.line.state ≠ .quiet) :
      ListDeed s (s.onTable (mergeTable m))
  | mergesTrip (n : Nat) (c : AlarmCode) (d : Option Nat) (r : Stamp) (s) (h : n ≠ s.station)
      (hj : s.joined = true) : ListDeed s (s.onTable (mergeTrip n c d r))
  | acksTable (t : Stamp) (s) : ListDeed s (s.onTable (ackTable t))
  | acks (t : Stamp) (s) : ListDeed s (ackList t s)

theorem listDeed_of_frame {bs : List Block} {s t : State} (f : Frame bs s t) (ha : Block.alarms ∉ bs := by decide)
    (ht : Block.table ∉ bs := by decide) : ListDeed s t :=
  .stands (by rw [f.1 .alarms ha]) (by rw [f.1 .table ht])

theorem Deed.lists {f : Bool} {s t : State} (d : Deed f s t) : ListDeed s t := by
  cases d with
  | move m => exact .move m
  | merges m _ h hl => exact .merges m s h hl
  | mergesTrip n c d r _ h hj => exact .mergesTrip n c d r s h hj
  | acksTable t => exact .acksTable t s
  | acks t => exact .acks t s
  | restarts => exact .stands (acceptRestart_lists s).1 (acceptRestart_lists s).2
  | reference b => exact listDeed_of_frame (takeReference_frame b s)
  | coilOn => exact listDeed_of_frame (setCoil_frame true s)
  | keeps k b d => exact listDeed_of_frame (keepAtCab_frame k b d s)
  | returns b => exact listDeed_of_frame (takeReturn_frame b s)
  | returned e => exact listDeed_of_frame (returnDelivered_frame e s)
  | books e => exact listDeed_of_frame (grantDelivered_frame e s)
  | freshens n => exact listDeed_of_frame (freshPeer_frame n s)
  | peer n g => exact listDeed_of_frame (setPeer_frame n g s)
  | offers => exact listDeed_of_frame (offer_frame s)
  | _ => exact .stands rfl rfl

theorem ListDeed.ordered {s t : State} (d : ListDeed s t) (h : ListsOrdered s) : ListsOrdered t := by
  cases d with
  | move m => exact m.listsOrdered h
  | stands ha ht =>
    rw [listsOrdered_iff] at *
    rwa [ha, ht]
  | acks t =>
    rw [listsOrdered_iff] at *
    exact ⟨listOrdered_ackList t h.1, (ackList_alarmTable t s).keeps (Q := fun t => TableOrdered t.records)
      (fun m _ => tableOrdered_mergeTable m) h.2⟩
  | merges m => rw [listsOrdered_iff] at *; exact ⟨h.1, tableOrdered_mergeTable m h.2⟩
  | mergesTrip n c d r => rw [listsOrdered_iff] at *; exact ⟨h.1, tableOrdered_mergeTrip n c d r h.2⟩
  | acksTable t => rw [listsOrdered_iff] at *; exact ⟨h.1, tableOrdered_ackTable t h.2⟩

theorem Act.listsOrdered {w : Bool} {s t : State} (a : Act w s t) (h : ListsOrdered s) : ListsOrdered t := by
  have move : ∀ {g : Tag} {s t : State}, Move g s t → ListsOrdered s → ListsOrdered t := fun m => m.listsOrdered
  cases a with
  | deed d => exact d.lists.ordered h
  | ages => exact (ageQueue_moves s).keeps (fun _ _ _ _ => move) h
  | terms => exact (borrowedTerms_moves s).keeps (fun _ _ _ _ => move) h
  | ends d => exact d.deeds.keeps (fun _ _ d => d.lists.ordered) h
  | joins i _ u hs m =>
    have he : ListsOrdered (joinEntry i s) := by
      unfold joinEntry; dsimp only
      split <;> exact ⟨h.listOrder, h.listKeys, h.tableOrder, h.tableKeys⟩
    exact (listDeed_of_frame (watchOwned_frame u)).ordered (m.keeps (fun _ _ _ _ => move) he)
  | turns | image | listens | halts | rejoins | reads | timers =>
    exact ⟨h.listOrder, h.listKeys, h.tableOrder, h.tableKeys⟩

end Sys2Proof.Machine
end

section
/-! PROOFS. No SHARE LOAN DROPPED stands active (O54). -/

namespace Sys2Proof.Machine

/-! ### The alarm list -/

/-- No SHARE LOAN DROPPED of the list stands active. -/
def DropsClear (l : List AlarmRecord) : Prop := ∀ r ∈ l, r.code = .shareLoanDropped → r.state = .clearedUnack

theorem isRecord_code {c : AlarmCode} {d : Option Nat} {r : AlarmRecord} (h : isRecord c d r = true) : r.code = c := by
  simp [isRecord] at h
  exact h.1

theorem key_of_find? {l : List AlarmRecord} {c : AlarmCode} {d : Option Nat} {r : AlarmRecord}
    (h : l.find? (isRecord c d) = some r) : r.code = c ∧ r.detail = d := by
  simpa [isRecord] using List.find?_some h

/-- A member of a map that replaces the records of a key. -/
theorem mem_replace {l : List AlarmRecord} {c : AlarmCode} {d : Option Nat} {r x : AlarmRecord}
    (h : x ∈ l.map fun y => if isRecord c d y then r else y) : x = r ∨ (x ∈ l ∧ isRecord c d x = false) := by
  obtain ⟨y, hy, rfl⟩ := List.mem_map.1 h
  split
  · exact .inl rfl
  · next hi => exact .inr ⟨hy, by simpa using hi⟩

/-- After a raise a record stands that stood before, or one of the code raised; of the key raised, none but an
active one where none stood active before. -/
theorem mem_raiseRecord {c : AlarmCode} {d : Option Nat} {s : State} {x : AlarmRecord}
    (h : x ∈ (raiseRecord c d s).1.alarms.list) : (x ∈ s.alarms.list ∧ isRecord c d x = false)
      ∨ (x ∈ s.alarms.list ∧ s.joined = false) ∨ (isRecord c d x = true ∧ x.state = .activeUnack)
      ∨ (isRecord c d x = true ∧ ∃ r ∈ s.alarms.list, isRecord c d r = true ∧ r.state ≠ .clearedUnack) := by
  have other : ∀ {l : List AlarmRecord} {y : AlarmRecord}, l.find? (isRecord c d) = none → y ∈ l →
      isRecord c d y = false := fun hn hy => by simpa using List.find?_eq_none.1 hn _ hy
  have self : ∀ {r : AlarmRecord} (_ : r.code = c ∧ r.detail = d), isRecord c d r = true := fun h => by
    simp [isRecord, h.1, h.2]
  revert h
  unfold raiseRecord; dsimp only
  split
  · next hj => exact fun h => .inr (.inl ⟨h, by simpa using hj⟩)
  · split
    · next hn =>
      unfold enterRecord; dsimp only
      split
      · rw [report_list]
        intro h
        rcases mem_alarmInsert.1 h with rfl | h
        · exact .inr (.inr (.inl ⟨self ⟨rfl, rfl⟩, rfl⟩))
        · exact .inl ⟨h, other hn h⟩
      · split
        · exact fun h => .inl ⟨h, other hn h⟩
        · rw [report_list]
          intro h
          rcases mem_alarmInsert.1 h with rfl | h
          · exact .inr (.inr (.inl ⟨self ⟨rfl, rfl⟩, rfl⟩))
          · exact .inl ⟨List.mem_of_mem_eraseIdx h, other hn (List.mem_of_mem_eraseIdx h)⟩
    · next r hr =>
      have hk := key_of_find? hr
      split
      · rw [report_list]
        intro h
        rcases mem_alarmInsert.1 h with rfl | h
        · exact .inr (.inr (.inl ⟨self hk, rfl⟩))
        · obtain ⟨hm, hi⟩ := List.mem_filter.1 h
          exact .inl ⟨hm, by simpa using hi⟩
      · next ha =>
        rw [report_list]
        intro h
        rcases mem_replace h with rfl | h
        · exact .inr (.inr (.inr ⟨self hk, r, List.mem_of_find?_eq_some hr, self hk, ha⟩))
        · exact .inl h

/-- After a clear a record stands that stood before, or a cleared one. -/
theorem mem_clearAlarm {c : AlarmCode} {d : Option Nat} {s : State} {x : AlarmRecord}
    (h : x ∈ (clearAlarm c d s).alarms.list) : x ∈ s.alarms.list ∨ x.state = .clearedUnack := by
  have rearmIf : ∀ (p : Prop) [Decidable p] (t : State),
      (if p then setRearm t else t).alarms.list = t.alarms.list := by
    intro p _ t
    split
    · rw [setRearm_alarms]
    · rfl
  revert h
  unfold clearAlarm; dsimp only
  split
  · exact .inl
  · split
    · exact .inl
    · split
      · rw [rearmIf]; exact .inl
      · rw [rearmIf, report_list]
        exact fun h => .inl (List.mem_of_mem_filter h)
      · rw [rearmIf, report_list]
        intro h
        rcases mem_replace h with rfl | ⟨hm, -⟩
        · exact .inr rfl
        · exact .inl hm

/-- A clear where each record of the key is active and unacknowledged clears each. -/
theorem clearAlarm_clears {c : AlarmCode} {d : Option Nat} {s : State} {x : AlarmRecord} (hj : s.joined = true)
    (ha : ∀ r ∈ s.alarms.list, isRecord c d r = true → r.state = .activeUnack)
    (h : x ∈ (clearAlarm c d s).alarms.list) :
    (x ∈ s.alarms.list ∧ isRecord c d x = false) ∨ x.state = .clearedUnack := by
  have rearmIf : ∀ (p : Prop) [Decidable p] (t : State),
      (if p then setRearm t else t).alarms.list = t.alarms.list := by
    intro p _ t
    split
    · rw [setRearm_alarms]
    · rfl
  revert h
  unfold clearAlarm; dsimp only
  rw [hj]
  split
  · next hn => cases hn
  · split
    · next hn => exact fun h => .inl ⟨h, by simpa using List.find?_eq_none.1 hn _ h⟩
    · next r hr =>
      have hs := ha r (List.mem_of_find?_eq_some hr) (List.find?_some hr)
      rw [hs]; dsimp only
      rw [rearmIf, report_list]
      intro h
      rcases mem_replace h with rfl | h
      · exact .inr rfl
      · exact .inl h

theorem dropsClear_raiseQuiet {c : AlarmCode} (d : Option Nat) {s : State} (hc : c ≠ .shareLoanDropped)
    (h : DropsClear s.alarms.list) : DropsClear (raiseQuiet c d s).alarms.list := by
  intro x hx hxc
  rcases mem_raiseRecord hx with ⟨hm, -⟩ | ⟨hm, -⟩ | ⟨hi, -⟩ | ⟨hi, -⟩
  · exact h x hm hxc
  · exact h x hm hxc
  · exact absurd (isRecord_code hi ▸ hxc) hc
  · exact absurd (isRecord_code hi ▸ hxc) hc

theorem dropsClear_clearAlarm (c : AlarmCode) (d : Option Nat) {s : State} (h : DropsClear s.alarms.list) :
    DropsClear (clearAlarm c d s).alarms.list := fun x hx hxc => (mem_clearAlarm hx).elim (fun hm => h x hm hxc) id

/-- The raise of a dropped loan and its clear leave every such record cleared. -/
theorem dropsClear_loanDropped (n : Nat) {s : State} (h : DropsClear s.alarms.list) :
    DropsClear (loanDropped n s).alarms.list := by
  have hj : (raiseQuiet .shareLoanDropped (some n) s).joined = s.joined :=
    joined_of_startup ((raiseQuiet_frame _ _ s).1 .startup (by decide))
  by_cases hs : s.joined = true
  · have raised : ∀ x ∈ (raiseQuiet .shareLoanDropped (some n) s).alarms.list,
        (x ∈ s.alarms.list ∧ isRecord .shareLoanDropped (some n) x = false)
          ∨ (isRecord .shareLoanDropped (some n) x = true ∧ x.state = .activeUnack) := by
      intro x hx
      rcases mem_raiseRecord hx with hm | ⟨-, hn⟩ | hi | ⟨-, r, hr, hi, hc⟩
      · exact .inl hm
      · rw [hs] at hn; cases hn
      · exact .inr hi
      · exact absurd (h r hr (isRecord_code hi)) hc
    intro x hx hxc
    rcases clearAlarm_clears (hj.trans hs) (fun r hr hi => by
      rcases raised r hr with ⟨-, hn⟩ | ⟨-, ha⟩
      · rw [hi] at hn; cases hn
      · exact ha) hx with ⟨hm, hn⟩ | hc
    · rcases raised x hm with ⟨hm, -⟩ | ⟨hi, -⟩
      · exact h x hm hxc
      · rw [hi] at hn; cases hn
    · exact hc
  · have idle : loanDropped n s = s := by
      unfold loanDropped raiseAndClear clearAlarm
      rw [hj]
      simp [hs, raiseQuiet, raiseRecord]
    rwa [idle]

theorem dropsClear_ackList (t : Stamp) {s : State} (h : DropsClear s.alarms.list) :
    DropsClear (ackList t s).alarms.list := by
  have one : ∀ (r : AlarmRecord) (u : State), (r.code = .shareLoanDropped → r.state = .clearedUnack) →
      DropsClear u.alarms.list → DropsClear (ackRecord t u r).alarms.list := by
    intro r u hr hu
    unfold ackRecord
    split
    · split
      · exact hu
      · next hs =>
        rw [report_list]
        intro x hx hxc
        rcases mem_replace hx with rfl | ⟨hm, -⟩
        · rw [hr hxc] at hs; cases hs
        · exact hu x hm hxc
      · rw [report_list]
        exact fun x hx => hu x (List.mem_of_mem_filter hx)
    · exact hu
  have folds : ∀ (l : List AlarmRecord) (u : State), DropsClear l → DropsClear u.alarms.list →
      DropsClear (l.foldl (ackRecord t) u).alarms.list := by
    intro l
    induction l with
    | nil => exact fun _ _ hu => hu
    | cons r l ih => exact fun u hl hu => ih _ (fun x hx => hl x (by simp [hx])) (one r u (hl r (by simp)) hu)
  unfold ackList
  split
  · exact folds _ s h h
  · exact h

/-! ### The machine table -/

/-- The table's records of a dropped loan, of one station, are warnings. -/
def DropsWarn (n : Nat) (t : MachineTable) : Prop :=
  ∀ r ∈ t.records, r.source = n → r.code = .shareLoanDropped → r.severity = .warn

theorem mem_tableForm {r x : TableRecord} {b : Bool} {t : MachineTable} (h : x ∈ (tableForm r b t).records) :
    x = r ∨ x ∈ t.records := by
  revert h
  unfold tableForm
  split
  · exact .inr
  · split
    · next hr => exact fun h => (mem_tableInsert.1 h).imp_right fun h => (tableRoom_sublist hr).subset h
    · exact .inr

theorem mem_tableUpdate {r x : TableRecord} {l : List TableRecord} (h : x ∈ tableUpdate r l) : x = r ∨ x ∈ l := by
  revert h
  unfold tableUpdate
  split
  · intro h
    obtain ⟨y, hy, rfl⟩ := List.mem_map.1 h
    split
    · exact .inl rfl
    · exact .inr hy
  · exact fun h => (mem_tableInsert.1 h).imp_right List.mem_of_mem_filter

/-- A merge forms no record but one of its code's severity. -/
theorem mem_mergeTable {m : Merge} {t : MachineTable} {x : TableRecord} (h : x ∈ (mergeTable m t).records) :
    (x.code = m.code ∧ x.severity = m.code.severity) ∨ x ∈ t.records := by
  revert h
  unfold mergeTable
  rw [refreshFirstOut_records]
  split
  · exact fun h => .inr (List.mem_of_mem_filter h)
  · dsimp only
    split
    · exact fun h => (mem_tableUpdate h).imp_left fun e => by rw [e]; exact ⟨rfl, rfl⟩
    · exact fun h => (mem_tableForm h).imp_left fun e => by rw [e]; exact ⟨rfl, rfl⟩

theorem mem_mergeTrip {n : Nat} {c : AlarmCode} {d : Option Nat} {r : Stamp} {t : MachineTable} {x : TableRecord}
    (h : x ∈ (mergeTrip n c d r t).records) : x.source = n ∨ x ∈ t.records := by
  revert h
  unfold mergeTrip
  split
  · rw [refreshFirstOut_records]; exact .inr
  · rw [refreshFirstOut_records]
    exact fun h => (mem_tableForm h).imp_left fun e => by rw [e]

theorem dropsWarn_mergeTable (n : Nat) (m : Merge) {t : MachineTable} (h : DropsWarn n t) :
    DropsWarn n (mergeTable m t) := by
  intro x hx hs hc
  rcases mem_mergeTable hx with ⟨hm, hv⟩ | hm
  · rw [hv, ← hm, hc]; rfl
  · exact h x hm hs hc

theorem dropsWarn_ageTable {n : Nat} {t : MachineTable} (h : DropsWarn n t) : DropsWarn n (ageTable t) := by
  intro x hx
  unfold ageTable at hx
  rw [refreshFirstOut_records] at hx
  obtain ⟨y, hy, rfl⟩ := List.mem_map.1 (List.mem_of_mem_filter hx)
  exact h y hy

theorem dropsWarn_ackTable (n : Nat) (a : Stamp) {t : MachineTable} (h : DropsWarn n t) : DropsWarn n (ackTable a t) := by
  intro x hx
  rw [ackTable_records] at hx
  obtain ⟨y, hy, hxy⟩ := List.mem_filterMap.1 hx
  rw [ackTableRecord_same hxy]
  exact h y hy

theorem not_joined_of_reset {s : State} (h : s.startup.state = .reset) : s.joined = false := by
  simp [State.joined, h]

theorem raiseQuiet_idle {s : State} (h : s.joined = false) (c : AlarmCode) (d : Option Nat) : raiseQuiet c d s = s := by
  simp [raiseQuiet, raiseRecord, h]

theorem clearAlarm_idle {s : State} (h : s.joined = false) (c : AlarmCode) (d : Option Nat) : clearAlarm c d s = s := by
  simp [clearAlarm, h]

/-- Before entry to JOINED no move fills the table. -/
theorem Move.table_empty {g : Tag} {s t : State} (m : Move g s t) (hj : s.joined = false) (h : s.table.records = []) :
    t.table.records = [] := by
  by_cases hb : Block.table ∈ g.blocks
  · cases m with
    | raised c d => rwa [raiseQuiet_idle hj]
    | cleared c d => rwa [clearAlarm_idle hj]
    | dropped n => rwa [loanDropped, raiseAndClear, raiseQuiet_idle hj, clearAlarm_idle hj]
    | report r _ _ hr => rw [hj] at hr; cases hr
    | table p g _ ho => exact (p.records ho).trans h
    | ageTable =>
      rw [State.onTable_table, Machine.ageTable, refreshFirstOut_records, h]
      rfl
    | _ => exact absurd hb (by simp [Tag.blocks])
  · have : t.table = s.table := m.frame.1 .table hb
    rwa [this]

/-! ### Every act -/

theorem loanDrops_iff (s : State) : LoanDropsCleared s ↔ DropsClear s.alarms.list ∧ DropsWarn s.station s.table
    ∧ (s.startup.state = .reset → s.table.records = []) :=
  ⟨fun h => ⟨h.cleared, h.warns, h.empty⟩, fun ⟨a, b, c⟩ => ⟨a, b, c⟩⟩

theorem station_of_startup {s t : State} (h : t.startup = s.startup) : t.station = s.station := by
  rw [State.station, h, State.station]

theorem Move.loanDrops {g : Tag} {s t : State} (m : Move g s t) (h : LoanDropsCleared s) : LoanDropsCleared t := by
  rw [loanDrops_iff] at h ⊢
  obtain ⟨hl, hw, he⟩ := h
  rw [m.startup, station_of_startup m.startup]
  refine ⟨?_, ?_, fun hr => m.table_empty (not_joined_of_reset hr) (he hr)⟩
  · by_cases hb : Block.alarms ∈ g.blocks
    · cases m with
      | trip => rw [(driveTripped_frame _).1 .alarms (by decide)]; exact hl
      | raised c d _ hc => exact dropsClear_raiseQuiet d hc hl
      | cleared c d => exact dropsClear_clearAlarm c d hl
      | dropped n => exact dropsClear_loanDropped n hl
      | refresh n => exact hl
      | _ => exact absurd hb (by simp [Tag.blocks])
    · have : t.alarms = s.alarms := m.frame.1 .alarms hb
      rwa [this]
  · exact m.table_keeps (Q := DropsWarn s.station) (fun m _ => dropsWarn_mergeTable _ m)
      (fun _ => dropsWarn_ageTable) (fun p t t' ho h => by rw [DropsWarn, p.records ho]; exact h) hw

theorem loanDrops_of_stands {s t : State} (h : LoanDropsCleared s) (ha : t.alarms.list = s.alarms.list)
    (ht : t.table.records = s.table.records) (hn : t.station = s.station ∨ s.startup.state = .reset)
    (hr : t.startup.state = .reset → s.startup.state = .reset) : LoanDropsCleared t := by
  refine ⟨by rw [ha]; exact h.cleared, ?_, fun k => ht.trans (h.empty (hr k))⟩
  rw [ht]
  rcases hn with hn | hn
  · rw [hn]; exact h.warns
  · rw [h.empty hn]; exact fun r hr => (nomatch hr)

theorem Deed.loanDrops {f : Bool} {s t : State} (d : Deed f s t) (hs : StartAgrees s) (h : LoanDropsCleared s) :
    LoanDropsCleared t := by
  have hst := d.startup
  have unreset : s.line.state ≠ .quiet → s.startup.state ≠ .reset := fun hq hr =>
    hq (quiet_of_state hs (.inr (.inr hr))).1
  cases d.lists with
  | move m => exact m.loanDrops h
  | stands ha ht =>
    exact loanDrops_of_stands h ha ht (.inl (station_of_startup hst)) fun hr => by rwa [hst] at hr
  | merges m _ hm hl =>
    exact ⟨h.cleared, dropsWarn_mergeTable _ m h.warns, fun hr => absurd hr (unreset hl)⟩
  | mergesTrip n c d r _ hn hj =>
    refine ⟨h.cleared, fun x hx hs hc => ?_, fun hr => ?_⟩
    · rcases mem_mergeTrip hx with hm | hm
      · exact absurd (hm.symm.trans hs) hn
      · exact h.warns x hm hs hc
    · change s.startup.state = .reset at hr
      rw [not_joined_of_reset hr] at hj; cases hj
  | acksTable a =>
    refine ⟨h.cleared, dropsWarn_ackTable _ a h.warns, fun hr => ?_⟩
    rw [State.onTable_table, ackTable_records, h.empty hr]
    rfl
  | acks a =>
    rw [loanDrops_iff, hst, station_of_startup hst]
    refine ⟨dropsClear_ackList a h.cleared, (ackList_alarmTable a s).keeps (Q := DropsWarn s.station)
      (fun m _ => dropsWarn_mergeTable _ m) h.warns, fun hr => ?_⟩
    rw [ackList, if_neg (by simp [not_joined_of_reset hr])]
    exact h.empty hr

theorem Act.loanDrops {w : Bool} {s t : State} (a : Act w s t) (hs : StartAgrees s) (h : LoanDropsCleared s) :
    LoanDropsCleared t := by
  cases a with
  | deed d => exact d.loanDrops hs h
  | ages => exact (ageQueue_moves s).keeps (fun _ _ _ _ m => m.loanDrops) h
  | terms => exact (borrowedTerms_moves s).keeps (fun _ _ _ _ m => m.loanDrops) h
  | ends d =>
    obtain ⟨e, he⟩ := d.flies
    exact (d.deeds.keeps (P := fun u => (StartAgrees u ∧ u.startup.state = .joined) ∧ LoanDropsCleared u)
      (fun _ _ d hu => ⟨⟨d.startAgrees (fun _ => hu.1.2) hu.1.1, by rw [d.startup]; exact hu.1.2⟩,
        d.loanDrops hu.1.1 hu.2⟩) ⟨⟨hs, joined_of_flight hs he⟩, h⟩).2
  | reads p _ hr => exact loanDrops_of_stands h rfl rfl (.inr hr) fun hn => (nomatch hn)
  | image => exact loanDrops_of_stands h rfl rfl (.inl rfl) fun hn => (nomatch hn)
  | listens => exact loanDrops_of_stands h rfl rfl (.inl rfl) fun hn => (nomatch hn)
  | halts => exact loanDrops_of_stands h rfl rfl (.inl rfl) fun hn => (nomatch hn)
  | turns | rejoins | timers => exact loanDrops_of_stands h rfl rfl (.inl rfl) id
  | joins i _ u _ m =>
    have he : LoanDropsCleared (joinEntry i s) := by
      refine loanDrops_of_stands h ?_ ?_ (.inl ?_) fun hn => ?_
      · unfold joinEntry; dsimp only; split <;> rfl
      · unfold joinEntry; dsimp only; split <;> rfl
      · rw [State.station, joinEntry_startup, State.station]
      · rw [joinEntry_startup] at hn; cases hn
    have hu := m.keeps (fun _ _ _ _ m => m.loanDrops) he
    have hw := watchOwned_frame u
    refine loanDrops_of_stands hu (by rw [hw.1 .alarms (by decide)]) (by rw [hw.1 .table (by decide)])
      (.inl (station_of_startup (hw.1 .startup (by decide)))) fun hr => ?_
    rwa [hw.1 .startup (by decide)] at hr

end Sys2Proof.Machine

open Sys2Proof Sys2Proof.Machine

/-- Settles O54: each act of a step keeps both orders, and a SHARE LOAN DROPPED raised is cleared in the same act. -/
theorem stepKeepsListsOrdered : Obligations.StepKeepsListsOrdered :=
  ⟨kept_of_goes (fun _ _ => ⟨.nil, .nil, .nil, .nil⟩) fun _ _ g _ h => g.acts.keeps (fun _ _ a => a.listsOrdered) h,
    kept_of_goes (fun _ _ => ⟨fun _ h => (nomatch h), fun _ h => (nomatch h), fun _ => rfl⟩)
      fun _ _ g hs h => g.keeps (fun _ _ a => a.loanDrops) hs h⟩

end

section
/-! PROOFS. The outputs stay safe and in range (O52). -/

namespace Sys2Proof.Machine

/-! ### The station mode -/

theorem report_mode (r : AlarmRecord) (a b : Bool) (l : List AlarmRecord) (s : State) :
    (reportAlarm r a b (setAlarmList l s)).alarms.mode = s.alarms.mode := by
  rw [reportAlarm_alarms]; rfl

theorem raiseRecord_mode (c : AlarmCode) (d : Option Nat) (s : State) :
    (raiseRecord c d s).1.alarms.mode = s.alarms.mode := by
  unfold raiseRecord; dsimp only
  split
  · rfl
  · split
    · unfold enterRecord; dsimp only
      split
      · exact report_mode _ _ _ _ _
      · split
        · rfl
        · exact (report_mode _ _ _ _ _).trans (report_mode _ _ _ _ _)
    · split <;> exact report_mode _ _ _ _ _

theorem raiseQuiet_mode (c : AlarmCode) (d : Option Nat) (s : State) :
    (raiseQuiet c d s).alarms.mode = s.alarms.mode := raiseRecord_mode c d s

theorem clearAlarm_mode (c : AlarmCode) (d : Option Nat) (s : State) :
    (clearAlarm c d s).alarms.mode = s.alarms.mode := by
  have rearmIf : ∀ (p : Prop) [Decidable p] (t : State),
      (if p then setRearm t else t).alarms.mode = t.alarms.mode := by
    intro p _ t
    split
    · rw [setRearm_alarms]
    · rfl
  unfold clearAlarm; dsimp only
  split
  · rfl
  · split
    · rfl
    · split
      · exact rearmIf _ s
      · exact (rearmIf _ _).trans (report_mode _ _ _ _ _)
      · exact (rearmIf _ _).trans (report_mode _ _ _ _ _)

theorem ackRecord_mode (t : Stamp) (s : State) (r : AlarmRecord) : (ackRecord t s r).alarms.mode = s.alarms.mode := by
  unfold ackRecord
  split
  · split
    · rfl
    · exact report_mode _ _ _ _ _
    · exact report_mode _ _ _ _ _
  · rfl

theorem ackList_mode (t : Stamp) (s : State) : (ackList t s).alarms.mode = s.alarms.mode := by
  have folds : ∀ (l : List AlarmRecord) (u : State), (l.foldl (ackRecord t) u).alarms.mode = u.alarms.mode := by
    intro l
    induction l with
    | nil => exact fun u => rfl
    | cons r l ih => exact fun u => (ih _).trans (ackRecord_mode t u r)
  unfold ackList
  split
  · exact folds _ s
  · rfl

/-- The mode after each move: TRIPPED at an entry to it, else as it was. -/
theorem Move.mode {g : Tag} {s t : State} (m : Move g s t) (h : g ≠ .trip) : t.alarms.mode = s.alarms.mode := by
  by_cases hb : Block.alarms ∈ g.blocks
  · cases m with
    | trip => exact absurd rfl h
    | raised c d => exact raiseQuiet_mode c d s
    | cleared c d => exact clearAlarm_mode c d s
    | dropped n => exact (clearAlarm_mode _ _ _).trans (raiseQuiet_mode _ _ s)
    | refresh n => rfl
    | _ => exact absurd hb (by simp [Tag.blocks])
  · rw [show t.alarms = s.alarms from m.frame.1 .alarms hb]

theorem Moves.mode {gs : List Tag} {s t : State} (h : Moves gs s t) (hg : Tag.trip ∉ gs) :
    t.alarms.mode = s.alarms.mode :=
  h.same (f := fun s => s.alarms.mode) fun _ hm _ _ m => m.mode fun e => hg (e ▸ hm)

theorem trip_mode (s : State) : (driveTripped (s.onAlarms fun a => { a with mode := .tripped })).alarms.mode = .tripped := by
  rw [(driveTripped_frame _).1 .alarms (by decide)]; rfl

/-- No move leaves TRIPPED. -/
theorem Move.tripped {g : Tag} {s t : State} (m : Move g s t) (h : s.alarms.mode = .tripped) :
    t.alarms.mode = .tripped := by
  by_cases hg : g = .trip
  · subst hg
    cases m with
    | trip => exact trip_mode s
  · exact (m.mode hg).trans h

/-! ### The final output within full scale -/

/-- Within full scale. -/
def InScale (x : Int) : Prop := -1000 ≤ x ∧ x ≤ 1000

theorem inScale_clampInt {lo hi : Int} (hlo : InScale lo) (hhi : InScale hi) (x : Int) : InScale (clampInt lo hi x) := by
  unfold InScale clampInt at *
  split
  · exact hlo
  · split
    · exact hhi
    · omega

theorem inScale_applyFactor {x : Int} {k : Nat} (h : InScale x) (hk : k ≤ 1000) : InScale (applyFactor x k) := by
  have hm : (x * k).natAbs ≤ 1000 * 1000 := by
    rw [Int.natAbs_mul]
    exact Nat.mul_le_mul (by unfold InScale at h; omega) hk
  have hd : (applyFactor x k).natAbs ≤ 1000 := by
    rw [applyFactor, scaleTrunc, Int.natAbs_tdiv]
    exact Nat.div_le_of_le_mul hm
  unfold InScale
  omega

/-- Hard bounds within full scale. -/
def Bounds.hardInScale (b : Bounds) : Prop := InScale b.hardLo ∧ InScale b.hardHi

theorem hardInScale_default : Bounds.hardInScale {} := by
  unfold Bounds.hardInScale InScale; decide

/-- A limit's hard bounds reach from 0 or below to 0 or above. -/
def Bounds.spansRest (b : Bounds) : Prop := b.hardLo ≤ 0 ∧ 0 ≤ b.hardHi

theorem hardInScale_meet {a b : Bounds} (h : a.hardInScale) (k : b.spansRest) : (a.meet b).hardInScale := by
  unfold Bounds.hardInScale InScale Bounds.spansRest at *
  simp only [Bounds.meet]
  omega

theorem spansRest_meet {a b : Bounds} (h : a.spansRest) (k : b.spansRest) : (a.meet b).spansRest := by
  unfold Bounds.spansRest at *
  simp only [Bounds.meet]
  omega

theorem spansRest_boundIf (c : Bool) {b : Bounds} (h : b.spansRest) : (boundIf c b).spansRest := by
  unfold boundIf
  split
  · exact h
  · exact ⟨by decide, by decide⟩

theorem hardInScale_boundIf (c : Bool) {b : Bounds} (h : b.hardInScale) : (boundIf c b).hardInScale := by
  unfold boundIf
  split
  · exact h
  · exact hardInScale_default

/-- A limit of the target leaves the hard bounds at full scale, or at 0 on one side. -/
theorem spansRest_hard (lo hi : Int) : Bounds.spansRest { targetLo := lo, targetHi := hi }
    ∧ Bounds.spansRest { targetLo := lo, targetHi := hi, hardHi := 0 } := by
  unfold Bounds.spansRest
  simp

theorem hardInScale_axisBounds (s : State) : (axisBounds s).hardInScale := by
  have creeps : ∀ n : Nat, (creepBoth n).spansRest := fun n => by
    unfold Bounds.spansRest creepBoth
    constructor
    · show -(n : Int) ≤ 0; omega
    · show (0 : Int) ≤ n; omega
  unfold axisBounds
  split
  · unfold ropeBounds
    refine hardInScale_meet (hardInScale_meet (hardInScale_meet (hardInScale_meet
      (hardInScale_boundIf _ hardInScale_default) ?_) ?_) ?_) (spansRest_meet ?_ ?_)
    · exact spansRest_boundIf _ (spansRest_hard _ _).2
    all_goals exact spansRest_boundIf _ (spansRest_hard _ _).1
  · unfold ropeBounds
    refine hardInScale_meet (hardInScale_meet (hardInScale_meet (hardInScale_meet
      (hardInScale_boundIf _ hardInScale_default) ?_) ?_) ?_) (spansRest_meet ?_ ?_)
    · exact spansRest_boundIf _ (spansRest_hard _ _).2
    all_goals exact spansRest_boundIf _ (spansRest_hard _ _).1
  · unfold swingBounds swingRefusalBounds
    refine hardInScale_meet (hardInScale_boundIf _ hardInScale_default) (spansRest_meet ?_ ?_)
    · exact spansRest_boundIf _ (creeps _)
    · exact spansRest_boundIf _ (creeps _)
  · unfold walkBounds
    split
    · exact hardInScale_default
    · unfold Bounds.hardInScale InScale; decide
  · exact hardInScale_default
  · exact hardInScale_default

theorem inScale_afterRamp (s : State) {b : Bounds} (h : b.hardInScale) (u : Int) : InScale (afterRamp s b u) := by
  have hu : InScale (stageHard b u) := inScale_clampInt h.1 h.2 u
  unfold afterRamp; dsimp only
  split
  · unfold zoneStop
    split
    · unfold InScale; decide
    · exact hu
  · exact hu

theorem ceilingFactor_le (pool held demand : Nat) : ceilingFactor pool held demand ≤ 1000 := by
  unfold ceilingFactor
  split
  · exact Nat.zero_le _
  · split
    · exact le_rfl
    · exact min_le_left _ _

theorem stallFactor_le (knee limit : Nat) (i : Int) : stallFactor knee limit i ≤ 1000 := by
  unfold stallFactor
  split
  · exact le_rfl
  · split
    · exact Nat.div_le_of_le_mul (by rw [Nat.mul_comm]; exact Nat.mul_le_mul_right _ (by omega))
    · exact Nat.zero_le _

theorem inScale_finalOutput (s : State) {b : Bounds} (h : b.hardInScale) (x : Int) : InScale (finalOutput s b x) := by
  have hb : InScale (beforeStall s b x) := inScale_applyFactor (inScale_afterRamp s h _) (ceilingFactor_le _ _ _)
  unfold finalOutput
  split
  · unfold stageStall
    split
    · exact inScale_applyFactor hb (stallFactor_le _ _ _)
    · exact hb
  · unfold InScale; decide

/-! ### The owned hook watched -/

/-- The outputs safe where they must be and in range; drive enable stands only where the hook was last seen true. -/
structure OutputsWatched (s : State) : Prop where
  safe : SafeOutputs s
  range : OutputInRange s
  enabled : s.drive.enable = true → s.joined = true ∧ s.role.isAxis = true ∧ s.drive.ownedSeen = true

/-- The hook was last seen as it is. -/
def HookSeen (s : State) : Prop := s.joined = true → s.drive.ownedSeen = s.ownedHook

theorem outputs_iff (s : State) :
    (SafeOutputs s ∧ EnableOwned s ∧ OutputInRange s) ↔ OutputsWatched s ∧ HookSeen s := by
  constructor
  · rintro ⟨hs, he, hr⟩
    refine ⟨⟨hs, hr, fun h => ?_⟩, he.seen⟩
    obtain ⟨hj, ha, ho⟩ := he.owned h
    exact ⟨hj, ha, (he.seen hj).trans ho⟩
  · rintro ⟨hw, hs⟩
    refine ⟨hw.safe, ⟨hs, fun h => ?_⟩, hw.range⟩
    obtain ⟨hj, ha, ho⟩ := hw.enabled h
    exact ⟨hj, ha, (hs hj).symm.trans ho⟩

/-- A drive at rest is safe and in range. -/
theorem watched_of_safe {s : State} (h : driveSafe s.drive) : OutputsWatched s := by
  obtain ⟨hf, hw, he, hb⟩ := h
  refine ⟨fun _ => ⟨hf, hw, he, hb⟩, ⟨by rw [hf]; decide, by rw [hf]; decide, by rw [hw, hf]; rfl⟩, fun k => ?_⟩
  rw [he] at k; cases k

theorem ownedHook_congr {s t : State} (hu : t.startup = s.startup) (hi : t.inputs = s.inputs)
    (hr : t.rope.ownership = s.rope.ownership) (hw : t.walk.state = s.walk.state) : t.ownedHook = s.ownedHook := by
  simp only [State.ownedHook, State.dragSide, State.walkSide, State.dsClosed, State.wsClosed, State.inputActive,
    State.params, role_of_startup hu, hu, hi, hr, hw]

theorem watchOwned_ownedSeen (s : State) : (watchOwned s).drive.ownedSeen = (s.joined && s.ownedHook) := rfl

theorem watchOwned_ownedHook (s : State) : (watchOwned s).ownedHook = s.ownedHook :=
  have f := watchOwned_frame s
  ownedHook_congr (f.1 .startup (by decide)) (f.1 .inputs (by decide)) (congrArg Rope.ownership (f.1 .rope (by decide)))
    (congrArg Walk.state (f.1 .walk (by decide)))

theorem watchOwned_seen (s : State) : HookSeen (watchOwned s) := by
  intro hj
  rw [joined_of_startup ((watchOwned_frame s).1 .startup (by decide))] at hj
  rw [watchOwned_ownedHook, watchOwned_ownedSeen, hj, Bool.true_and]

theorem watchOwned_watched {s : State} (h : OutputsWatched s) : OutputsWatched (watchOwned s) := by
  have f := watchOwned_frame s
  have hs : (watchOwned s).startup = s.startup := f.1 .startup (by decide)
  have hm : (watchOwned s).alarms = s.alarms := f.1 .alarms (by decide)
  by_cases hl : s.joined = true ∧ s.role.isAxis = true ∧ s.drive.ownedSeen = true ∧ s.ownedHook = false
  · obtain ⟨hj, ha, ho, hk⟩ := hl
    obtain ⟨h1, h2, h3, h4⟩ := watchOwned_lost hj ha ho hk
    refine ⟨fun hc => ⟨h1, h2, h3, ?_⟩, ⟨by rw [h1]; decide, by rw [h1]; decide, by rw [h2, h1]; rfl⟩,
      fun k => by rw [h3] at k; cases k⟩
    rw [h4]
    rw [hm, role_of_startup hs, joined_of_startup hs] at hc
    exact (h.safe hc).2.2.2
  · have hd : (watchOwned s).drive = { s.drive with ownedSeen := s.joined && s.ownedHook } := by
      have hc : (s.joined && s.role.isAxis && s.drive.ownedSeen && !s.ownedHook) = false := by
        by_contra hc
        simp only [Bool.not_eq_false, Bool.and_eq_true, Bool.not_eq_true'] at hc
        exact hl ⟨hc.1.1.1, hc.1.1.2, hc.1.2, hc.2⟩
      rw [watchOwned, hc]
      rfl
    refine ⟨?_, ?_, fun k => ?_⟩
    · intro hc
      rw [hm, role_of_startup hs, joined_of_startup hs] at hc
      rw [hd]
      exact h.safe hc
    · constructor <;> rw [hd]
      · exact h.range.low
      · exact h.range.high
      · exact h.range.word
    · rw [hd] at k
      obtain ⟨hj, ha, ho⟩ := h.enabled k
      rw [joined_of_startup hs, role_of_startup hs, hd]
      refine ⟨hj, ha, ?_⟩
      show (s.joined && s.ownedHook) = true
      by_contra hk
      simp only [Bool.and_eq_true, not_and, Bool.not_eq_true] at hk
      exact hl ⟨hj, ha, ho, hk hj⟩

/-- A change of none of what the outputs follow. -/
theorem watched_of_same {s t : State} (h : OutputsWatched s) (hu : t.startup = s.startup) (hd : t.drive = s.drive)
    (hm : t.alarms.mode = .tripped → s.alarms.mode = .tripped) : OutputsWatched t := by
  refine ⟨fun hc => ?_, ⟨?_, ?_, ?_⟩, fun k => ?_⟩
  · rw [role_of_startup hu, joined_of_startup hu] at hc
    rw [hd]
    exact h.safe (hc.imp_left hm)
  · rw [hd]; exact h.range.low
  · rw [hd]; exact h.range.high
  · rw [hd]; exact h.range.word
  · rw [hd] at k ⊢
    rw [joined_of_startup hu, role_of_startup hu]
    exact h.enabled k

theorem seen_of_same {s t : State} (h : HookSeen s) (hu : t.startup = s.startup) (hi : t.inputs = s.inputs)
    (hd : t.drive.ownedSeen = s.drive.ownedSeen) (hr : t.rope.ownership = s.rope.ownership)
    (hw : t.walk.state = s.walk.state) : HookSeen t := by
  intro hj
  rw [joined_of_startup hu] at hj
  rw [hd, ownedHook_congr hu hi hr hw]
  exact h hj

/-! ### Every move -/

theorem RopeField.ownership {p : RopeField} {r r' : Rope} (h : p.only r r') : r'.ownership = r.ownership := by
  cases p <;> (simp only [RopeField.only] at h; rw [h])

theorem WalkField.state {p : WalkField} {k k' : Walk} (h : p.only k k') : k'.state = k.state ∧ k'.coil = k.coil := by
  cases p with
  | stepBegin => rw [h.1]; exact ⟨rfl, rfl⟩
  | _ => simp only [WalkField.only] at h; rw [h]; exact ⟨rfl, rfl⟩

/-- No field group of the drive chain holds an output. -/
theorem DriveField.outputs {p : DriveField} {d d' : Drive} (h : p.only d d') : d'.f = d.f ∧ d'.fieldWord = d.fieldWord
    ∧ d'.enable = d.enable ∧ d'.brake = d.brake ∧ d'.ownedSeen = d.ownedSeen := by
  cases p <;> (simp only [DriveField.only] at h; rw [h]; exact ⟨rfl, rfl, rfl, rfl, rfl⟩)

theorem driveTripped_seen (s : State) : (driveTripped s).drive.ownedSeen = s.drive.ownedSeen := by
  unfold driveTripped
  split <;> rfl

theorem Move.hookSeen {g : Tag} {s t : State} (m : Move g s t) (h : HookSeen s) : HookSeen t := by
  by_cases hb : Block.inputs ∈ g.blocks ∨ Block.drive ∈ g.blocks ∨ Block.rope ∈ g.blocks ∨ Block.walk ∈ g.blocks
  · cases m with
    | inputs i => exact watchOwned_seen _
    | drive p g _ ho => exact seen_of_same h rfl rfl (p.outputs ho).2.2.2.2 rfl rfl
    | trip =>
      have f := driveTripped_frame (s.onAlarms fun a => { a with mode := .tripped })
      exact seen_of_same h (f.1 .startup (by decide)) (f.1 .inputs (by decide)) (driveTripped_seen _)
        (by rw [f.1 .rope (by decide)]; rfl) (by rw [f.1 .walk (by decide)]; rfl)
    | rope p g _ ho => exact seen_of_same h rfl rfl rfl (p.ownership ho) rfl
    | own w => exact watchOwned_seen _
    | reclaim => exact watchOwned_seen _
    | walk p g _ ho => exact seen_of_same h rfl rfl rfl rfl (p.state ho).1
    | walkTo w => exact watchOwned_seen _
    | output | brake | linkFrame | coil => exact seen_of_same h rfl rfl rfl rfl rfl
    | _ => exact absurd hb (by simp [Tag.blocks])
  · simp only [not_or] at hb
    exact seen_of_same h m.startup (m.frame.1 .inputs hb.1) (by rw [m.frame.1 .drive hb.2.1])
      (by rw [m.frame.1 .rope hb.2.2.1]) (by rw [m.frame.1 .walk hb.2.2.2])

theorem onDrive_role (g : Drive → Drive) (s : State) : (s.onDrive g).role = s.role := rfl

theorem onDrive_joined (g : Drive → Drive) (s : State) : (s.onDrive g).joined = s.joined := rfl

theorem watched_of_drive {s : State} {g : Drive → Drive} (h : OutputsWatched s)
    (hd : (g s.drive).f = s.drive.f ∧ (g s.drive).fieldWord = s.drive.fieldWord ∧ (g s.drive).enable = s.drive.enable
      ∧ (g s.drive).brake = s.drive.brake ∧ (g s.drive).ownedSeen = s.drive.ownedSeen) :
    OutputsWatched (s.onDrive g) := by
  obtain ⟨h1, h2, h3, h4, h5⟩ := hd
  refine ⟨fun hc => ?_, ⟨?_, ?_, ?_⟩, fun k => ?_⟩
  · obtain ⟨a, b, c, d⟩ := h.safe hc
    exact ⟨h1.trans a, h2.trans b, h3.trans c, h4.trans d⟩
  · show -1000 ≤ (g s.drive).f
    rw [h1]; exact h.range.low
  · show (g s.drive).f ≤ 1000
    rw [h1]; exact h.range.high
  · show (g s.drive).fieldWord = fieldWordOf (g s.drive).f
    rw [h1, h2]; exact h.range.word
  · change (g s.drive).enable = true at k
    rw [h3] at k
    obtain ⟨a, b, c⟩ := h.enabled k
    exact ⟨a, b, h5.trans c⟩

theorem driveTripped_watched {s : State} (h : OutputsWatched s) :
    OutputsWatched (driveTripped (s.onAlarms fun a => { a with mode := .tripped })) := by
  unfold driveTripped
  split
  · exact watched_of_safe ⟨rfl, rfl, rfl, rfl⟩
  · next ha =>
    have hs : driveSafe s.drive := h.safe (.inr (.inl (Bool.eq_false_iff.2 ha)))
    exact watched_of_safe hs

theorem Move.watched {g : Tag} {s t : State} (m : Move g s t) (hs : g = .linkFrame → HookSeen s)
    (h : OutputsWatched s) : OutputsWatched t := by
  by_cases hb : Block.drive ∈ g.blocks
  · cases m with
    | inputs i => exact watchOwned_watched (watched_of_same h rfl rfl id)
    | drive p g _ ho => exact watched_of_drive h (p.outputs ho)
    | output b x _ hbd hj ha =>
      have hf : InScale (finalOutput s b x) := inScale_finalOutput s (hbd ▸ hardInScale_axisBounds s) x
      refine ⟨fun hc => ?_, ⟨hf.1, hf.2, rfl⟩, h.enabled⟩
      have ht : s.alarms.mode = .tripped := by
        rcases hc with hc | hc | hc
        · exact hc
        · rw [onDrive_role, ha] at hc; cases hc
        · rw [onDrive_joined, hj] at hc; cases hc
      obtain ⟨-, -, he, hbr⟩ := h.safe (.inl ht)
      have h0 : finalOutput s b x = 0 := if_neg (by rw [ht]; decide)
      refine ⟨h0, ?_, he, hbr⟩
      show fieldWordOf (finalOutput s b x) = 0
      rw [h0]; rfl
    | brake b n _ hbr hj ha =>
      refine ⟨fun hc => ?_, ⟨h.range.low, h.range.high, h.range.word⟩, h.enabled⟩
      have ht : s.alarms.mode = .tripped := by
        rcases hc with hc | hc | hc
        · exact hc
        · rw [onDrive_role, ha] at hc; cases hc
        · rw [onDrive_joined, hj] at hc; cases hc
      obtain ⟨h1, h2, h3, -⟩ := h.safe (.inl ht)
      exact ⟨h1, h2, h3, hbr (by rw [ht]; decide)⟩
    | linkFrame _ hj ha =>
      refine ⟨fun hc => ?_, ⟨h.range.low, h.range.high, h.range.word⟩, fun k => ⟨hj, ha, ?_⟩⟩
      · have ht : s.alarms.mode = .tripped := by
          rcases hc with hc | hc | hc
          · exact hc
          · change s.role.isAxis = false at hc; rw [ha] at hc; cases hc
          · change s.joined = false at hc; rw [hj] at hc; cases hc
        obtain ⟨h1, h2, -, h4⟩ := h.safe (.inl ht)
        refine ⟨h1, h2, ?_, h4⟩
        show (s.alarms.mode == .run && s.ownedHook && _) = false
        rw [ht]; rfl
      · change (s.alarms.mode == .run && s.ownedHook && _) = true at k
        simp only [Bool.and_eq_true] at k
        exact (hs rfl hj).trans k.1.2
    | trip => exact driveTripped_watched h
    | own w => exact watchOwned_watched (watched_of_same h rfl rfl id)
    | reclaim =>
      have f := setRearm_frame (s.onRope fun r => { r with ownership := .reclaiming })
      exact watchOwned_watched (watched_of_same h (f.1 .startup (by decide)) (f.1 .drive (by decide))
        (by rw [f.1 .alarms (by decide)]; exact id))
    | walkTo w =>
      unfold setWalkState; dsimp only
      split <;> exact watchOwned_watched (watched_of_same h rfl rfl id)
    | _ => exact absurd hb (by simp [Tag.blocks])
  · have hg : g ≠ .trip := fun e => hb (by rw [e]; decide)
    exact watched_of_same h m.startup (m.frame.1 .drive hb) (by rw [m.mode hg]; exact id)

/-! ### Every act -/

/-- Outputs safe where they must be and in range, the hook last seen as it is. -/
def OutputsKept (s : State) : Prop := OutputsWatched s ∧ HookSeen s

theorem Move.outputsKept {g : Tag} {s t : State} (m : Move g s t) (h : OutputsKept s) : OutputsKept t :=
  ⟨m.watched (fun _ => h.2) h.1, m.hookSeen h.2⟩

theorem outputsKept_of_frame {bs : List Block} {s t : State} (h : OutputsKept s) (f : Frame bs s t)
    (hm : t.alarms.mode = .tripped → s.alarms.mode = .tripped)
    (hu : Block.startup ∉ bs := by decide) (hd : Block.drive ∉ bs := by decide) (hi : Block.inputs ∉ bs := by decide)
    (hr : Block.rope ∉ bs := by decide) (hw : Block.walk ∉ bs := by decide) : OutputsKept t :=
  have e : ∀ b : Block, b ∉ bs → b.same s t := f.1
  ⟨watched_of_same h.1 (e .startup hu) (e .drive hd) hm,
    seen_of_same h.2 (e .startup hu) (e .inputs hi) (congrArg Drive.ownedSeen (e .drive hd))
      (congrArg Rope.ownership (e .rope hr)) (congrArg Walk.state (e .walk hw))⟩

theorem mode_of_frame {bs : List Block} {s t : State} (f : Frame bs s t) (ha : Block.alarms ∉ bs := by decide) :
    t.alarms.mode = .tripped → s.alarms.mode = .tripped := by
  rw [show t.alarms = s.alarms from f.1 .alarms ha]
  exact id

theorem acceptRestart_mode (s : State) : (acceptRestart s).alarms.mode = .run := by
  unfold acceptRestart; dsimp only
  split
  · rw [State.onTable_alarms, setRearm_alarms]; rfl
  · rw [setRearm_alarms]; rfl

theorem Deed.outputsKept {f : Bool} {s t : State} (d : Deed f s t) (h : OutputsKept s) : OutputsKept t := by
  have framed : ∀ {bs : List Block} {t : State} (f : Frame bs s t) (_ : Block.alarms ∉ bs := by decide)
      (_ : Block.startup ∉ bs := by decide) (_ : Block.drive ∉ bs := by decide)
      (_ : Block.inputs ∉ bs := by decide) (_ : Block.rope ∉ bs := by decide)
      (_ : Block.walk ∉ bs := by decide), OutputsKept t :=
    fun f ha hu hd hi hr hw => outputsKept_of_frame h f (mode_of_frame f ha) hu hd hi hr hw
  cases d with
  | move m => exact m.outputsKept h
  | awaits => exact ⟨watched_of_drive h.1 ⟨rfl, rfl, rfl, rfl, rfl⟩, seen_of_same h.2 rfl rfl rfl rfl rfl⟩
  | acks t => exact outputsKept_of_frame h (ackList_frame t s) (by rw [ackList_mode]; exact id)
  | restarts =>
    refine outputsKept_of_frame h (acceptRestart_frame s) fun hm => ?_
    rw [acceptRestart_mode] at hm; cases hm
  | coilOn => exact ⟨watched_of_same h.1 rfl rfl id, seen_of_same h.2 rfl rfl rfl rfl rfl⟩
  | reference b => exact framed (takeReference_frame b s)
  | keeps k b d => exact framed (keepAtCab_frame k b d s)
  | returns b => exact framed (takeReturn_frame b s)
  | returned e => exact framed (returnDelivered_frame e s)
  | books e => exact framed (grantDelivered_frame e s)
  | freshens n => exact framed (freshPeer_frame n s)
  | peer n g => exact framed (setPeer_frame n g s)
  | offers => exact framed (offer_frame s)
  | _ => exact ⟨watched_of_same h.1 rfl rfl id, seen_of_same h.2 rfl rfl rfl rfl rfl⟩

/-- Outside JOINED the drive is at rest, and an act that leaves it at rest needs no hook. -/
theorem outputsKept_of_rest {t : State} (hd : driveSafe t.drive) (hj : t.joined = false) : OutputsKept t :=
  ⟨watched_of_safe hd, fun k => by rw [hj] at k; cases k⟩

theorem not_joined_of_state {s : State} {u : StartState} (h : s.startup.state = u) (hu : u ≠ .joined) :
    s.joined = false := by
  simp [State.joined, h, hu]

theorem Act.outputsKept {w : Bool} {s t : State} (a : Act w s t) (h : OutputsKept s) : OutputsKept t := by
  have rest : ∀ {u : StartState}, s.startup.state = u → u ≠ .joined → driveSafe s.drive := fun hs hu =>
    h.1.safe (.inr (.inr (not_joined_of_state hs hu)))
  cases a with
  | deed d => exact d.outputsKept h
  | ages => exact (ageQueue_moves s).keeps (fun _ _ _ _ m => m.outputsKept) h
  | terms => exact (borrowedTerms_moves s).keeps (fun _ _ _ _ m => m.outputsKept) h
  | ends d => exact d.deeds.keeps (fun _ _ d => d.outputsKept) h
  | turns | rejoins => exact ⟨watched_of_same h.1 rfl rfl id, seen_of_same h.2 rfl rfl rfl rfl rfl⟩
  | timers n m =>
    exact ⟨⟨h.1.safe, ⟨h.1.range.low, h.1.range.high, h.1.range.word⟩, h.1.enabled⟩, h.2⟩
  | reads p _ hs => exact outputsKept_of_rest (rest hs (by decide)) rfl
  | image b _ hs => exact outputsKept_of_rest (rest hs (by decide)) rfl
  | listens _ hs => exact outputsKept_of_rest (rest hs (by decide)) rfl
  | halts c => exact outputsKept_of_rest ⟨rfl, rfl, rfl, rfl⟩ rfl
  | joins i _ u hs m =>
    have hd : (joinEntry i s).drive = s.drive := by unfold joinEntry; dsimp only; split <;> rfl
    have hu : OutputsWatched u := m.keeps (P := OutputsWatched)
      (fun g hg _ _ m => m.watched fun e => absurd hg (by rw [e]; decide))
      (watched_of_safe (by rw [hd]; exact rest hs (by decide)))
    exact ⟨watchOwned_watched hu, watchOwned_seen u⟩

end Sys2Proof.Machine

open Sys2Proof Sys2Proof.Machine

/-- Settles O52: each act of a step keeps the outputs safe and in range, and each that changes the owned hook watches
it. -/
theorem stepKeepsOutputsSafe : Obligations.StepKeepsOutputsSafe := kept_of_goes
  (fun _ _ => (outputs_iff _).2 (outputsKept_of_rest ⟨rfl, rfl, rfl, rfl⟩ rfl))
  fun s t g _ h => (outputs_iff t).2 (g.acts.keeps (fun _ _ a => a.outputsKept) ((outputs_iff s).1 h))

end

section
/-! PROOFS. The ring holds only tags 1 to W ahead, one for each slot (O55). -/

namespace Sys2Proof.Machine

/-! ### The parts of the condition -/

/-- The filled slots in rising slot number, none before the timer starts, none at a station of no axis role. -/
structure RingFormed (s : State) : Prop where
  order : Ring.wf s.ring.slots = true
  stopped : s.time.running = false → s.startup.state ≠ .halted → s.ring.slots = []
  axis : s.role.isAxis = false → s.ring.slots = []

/-- Each tag 1 to W ahead of the cycle number. -/
def RingAhead (s : State) : Prop :=
  ∀ e ∈ s.ring.slots, 1 ≤ tagDistance e.tag s.time.cycle ∧ tagDistance e.tag s.time.cycle ≤ s.globals.window

theorem ringKept_iff (s : State) : RingKept s ↔ RingFormed s ∧ RingAhead s :=
  ⟨fun h => ⟨⟨h.order, h.stopped, h.axis⟩, h.window⟩, fun ⟨h, w⟩ => ⟨h.order, w, h.stopped, h.axis⟩⟩

theorem ringFormed_of_sublist {s t : State} (h : RingFormed s) (hl : t.ring.slots.Sublist s.ring.slots)
    (hu : t.startup = s.startup) (hr : t.time.running = s.time.running) : RingFormed t := by
  refine ⟨?_, fun hn hh => ?_, fun ha => ?_⟩
  · rw [Ring.wf_iff]
    exact ((Ring.wf_iff _).1 h.order).sublist hl
  · exact List.sublist_nil.1 (h.stopped (hr ▸ hn) (hu ▸ hh) ▸ hl)
  · exact List.sublist_nil.1 (h.axis (role_of_startup hu ▸ ha) ▸ hl)

theorem ringAhead_of_sublist {s t : State} (h : RingAhead s) (hl : t.ring.slots.Sublist s.ring.slots)
    (hu : t.startup = s.startup) (hc : t.time.cycle = s.time.cycle) : RingAhead t := by
  intro e he
  rw [hc, globals_of_startup hu]
  exact h e (hl.subset he)

theorem ringKept_empty {s : State} (h : s.ring.slots = []) : RingKept s := by
  refine ⟨?_, ?_, fun _ _ => h, fun _ => h⟩
  · rw [h]; rfl
  · rw [h]; exact fun e he => (nomatch he)

/-! ### Every move -/

theorem setRearm_slots (s : State) : (setRearm s).ring.slots = s.ring.slots := by
  unfold setRearm
  split <;> rfl

theorem clearAlarm_slots (c : AlarmCode) (d : Option Nat) (s : State) :
    (clearAlarm c d s).ring.slots = s.ring.slots := by
  have report : ∀ (r : AlarmRecord) (b : Bool) (l : List AlarmRecord),
      (reportAlarm r b false (setAlarmList l s)).ring.slots = s.ring.slots := fun r b l => by
    rw [(report_after_frame r b false l s).1 .ring (by decide)]
  have rearmIf : ∀ (p : Prop) [Decidable p] (t : State),
      (if p then setRearm t else t).ring.slots = t.ring.slots := by
    intro p _ t
    split
    · exact setRearm_slots t
    · rfl
  unfold clearAlarm; dsimp only
  split
  · rfl
  · split
    · rfl
    · split
      · exact rearmIf _ s
      · exact (rearmIf _ _).trans (report _ _ _)
      · exact (rearmIf _ _).trans (report _ _ _)

theorem ringAtStart_slots (s : State) : (ringAtStart s s.ring).slots =
    emptyOutside s.time.cycle s.globals.window (emptySlot (slotOf (low16 s.time.cycle)) s.ring.slots) := by
  have consumed : ∀ (e : RingEntry) (r : Ring), (consumeEntry e r).slots = r.slots := by
    intro e r
    unfold consumeEntry; dsimp only
    split
    · split <;> rfl
    · rfl
  have missed : ∀ (n : Nat) (r : Ring), (missEntry n r).slots = r.slots := by
    intro n r
    unfold missEntry; dsimp only
    split <;> rfl
  unfold ringAtStart; dsimp only
  split
  · rw [consumed]
  · rw [missed]

/-- No move fills a slot. -/
theorem Move.slots {g : Tag} {s t : State} (m : Move g s t) : t.ring.slots.Sublist s.ring.slots := by
  by_cases hb : Block.ring ∈ g.blocks
  · cases m with
    | rearm => rw [setRearm_slots]
    | consume =>
      rw [State.onRing_ring, ringAtStart_slots]
      exact List.filter_sublist.trans List.filter_sublist
    | reclaim =>
      unfold enterReclaiming
      rw [(watchOwned_frame _).1 .ring (by decide), setRearm_slots]
      exact .refl _
    | cleared c d => rw [clearAlarm_slots]
    | dropped n =>
      have hr : (raiseQuiet .shareLoanDropped (some n) s).ring = s.ring := (raiseQuiet_frame _ _ s).1 .ring (by decide)
      unfold loanDropped raiseAndClear
      rw [clearAlarm_slots, hr]
    | _ => exact absurd hb (by simp [Tag.blocks])
  · have : t.ring = s.ring := m.frame.1 .ring hb
    rw [this]

theorem Move.clock {g : Tag} {s t : State} (m : Move g s t) :
    t.time.cycle = s.time.cycle ∧ t.time.running = s.time.running := by
  by_cases hb : Block.time ∈ g.blocks
  · cases m with
    | long n => exact ⟨rfl, rfl⟩
    | statusTime => exact ⟨rfl, rfl⟩
    | _ => exact absurd hb (by simp [Tag.blocks])
  · rw [show t.time = s.time from m.frame.1 .time hb]
    exact ⟨rfl, rfl⟩

theorem Move.ringFormed {g : Tag} {s t : State} (m : Move g s t) (h : RingFormed s) : RingFormed t :=
  ringFormed_of_sublist h m.slots m.startup m.clock.2

theorem Move.ringAhead {g : Tag} {s t : State} (m : Move g s t) (h : RingAhead s) : RingAhead t :=
  ringAhead_of_sublist h m.slots m.startup m.clock.1

theorem Moves.ringKept {gs : List Tag} {s t : State} (m : Moves gs s t) (h : RingKept s) : RingKept t := by
  rw [ringKept_iff] at *
  exact ⟨m.keeps (fun _ _ _ _ m => m.ringFormed) h.1, m.keeps (fun _ _ _ _ m => m.ringAhead) h.2⟩

/-- The cycle start leaves only tags 1 to W ahead of the cycle that begins (R67). -/
theorem ringAtStart_ahead (s : State) : RingAhead (s.onRing (ringAtStart s)) := by
  intro e he
  rw [State.onRing_ring, ringAtStart_slots] at he
  exact of_decide_eq_true (List.mem_filter.1 he).2

theorem ringCycle_ahead {s : State} (h : s.role.isAxis = false → s.ring.slots = []) : RingAhead (ringCycle s) := by
  rw [ringCycle_eq]
  split
  · have hs := ringAtStart_ahead s
    dsimp only
    split
    · exact (Move.cleared .referenceStarved none _).ringAhead hs
    · split
      · exact (Move.raised .referenceStarved none _ (by decide)).ringAhead hs
      · exact hs
  · next ha =>
    have hs := h (Bool.eq_false_iff.2 ha)
    intro e he
    rw [hs] at he; cases he

/-! ### Every act -/

/-- A REFERENCE stored is 1 to W ahead, at a station of an axis role whose timer runs (R63, R64). -/
theorem takeReference_kept (b : Bulletin) {s : State} (h : RingFormed s) :
    RingFormed (takeReference b s) ∧ (RingAhead s → RingAhead (takeReference b s)) := by
  unfold takeReference ruleReference; dsimp only
  split
  · next hc =>
    obtain ⟨ha, hr, -⟩ := hc
    split
    · exact ⟨⟨h.order, h.stopped, h.axis⟩, id⟩
    · next hd =>
      split
      · next hw =>
        refine ⟨⟨?_, fun hn => ?_, fun hn => ?_⟩, fun k e he => ?_⟩
        · exact writeSlot_wf h.order _
        · rw [State.onRing_time, hr] at hn; cases hn
        · change s.role.isAxis = false at hn
          rw [ha] at hn; cases hn
        · rcases mem_writeSlot.1 he with rfl | ⟨he, -⟩
          · simp only [not_or] at hd
            exact ⟨Nat.one_le_iff_ne_zero.2 hd.1, hw⟩
          · exact k e he
      · exact ⟨⟨h.order, h.stopped, h.axis⟩, id⟩
  · exact ⟨h, id⟩

theorem acceptRestart_slots (s : State) : (acceptRestart s).ring.slots = s.ring.slots := by
  unfold acceptRestart; dsimp only
  split
  · rw [State.onTable_ring, setRearm_slots]; rfl
  · rw [setRearm_slots]; rfl

theorem Deed.ring {f : Bool} {s t : State} (d : Deed f s t) (h : RingFormed s) :
    RingFormed t ∧ (RingAhead s → RingAhead t) := by
  have stands : ∀ {t : State}, t.ring.slots = s.ring.slots → t.startup = s.startup → t.time.cycle = s.time.cycle →
      t.time.running = s.time.running → RingFormed t ∧ (RingAhead s → RingAhead t) := fun hl hu hc hr =>
    ⟨ringFormed_of_sublist h (hl ▸ .refl _) hu hr, fun k => ringAhead_of_sublist k (hl ▸ .refl _) hu hc⟩
  have framed : ∀ {bs : List Block} {t : State} (f : Frame bs s t) (_ : Block.ring ∉ bs := by decide)
      (_ : Block.startup ∉ bs := by decide) (_ : Block.time ∉ bs := by decide),
      RingFormed t ∧ (RingAhead s → RingAhead t) := fun {bs t} f hr hu ht => by
    have e : ∀ b : Block, b ∉ bs → b.same s t := f.1
    exact stands (congrArg Ring.slots (e .ring hr)) (e .startup hu) (congrArg LineTime.cycle (e .time ht))
      (congrArg LineTime.running (e .time ht))
  cases d with
  | move m => exact ⟨m.ringFormed h, m.ringAhead⟩
  | reference b => exact takeReference_kept b h
  | clock g _ hc hr => exact stands rfl rfl hc hr
  | restarts =>
    have f := acceptRestart_frame s
    exact stands (acceptRestart_slots s) (f.1 .startup (by decide)) (congrArg LineTime.cycle (f.1 .time (by decide)))
      (congrArg LineTime.running (f.1 .time (by decide)))
  | acks t => exact framed (ackList_frame t s)
  | coilOn => exact framed (setCoil_frame true s)
  | keeps k b d => exact framed (keepAtCab_frame k b d s)
  | returns b => exact framed (takeReturn_frame b s)
  | returned e => exact framed (returnDelivered_frame e s)
  | books e => exact framed (grantDelivered_frame e s)
  | freshens n => exact framed (freshPeer_frame n s)
  | peer n g => exact framed (setPeer_frame n g s)
  | offers => exact framed (offer_frame s)
  | _ => exact stands rfl rfl rfl rfl

theorem Deeds.ring {f : Bool} {s t : State} (d : Deeds f s t) (h : RingFormed s) :
    RingFormed t ∧ (RingAhead s → RingAhead t) :=
  d.keeps (P := fun u => RingFormed u ∧ (RingAhead s → RingAhead u))
    (fun _ _ d hu => ⟨(d.ring hu.1).1, fun k => (d.ring hu.1).2 (hu.2 k)⟩) ⟨h, id⟩

theorem Moves.ring {gs : List Tag} {s t : State} (m : Moves gs s t) (h : RingFormed s) :
    RingFormed t ∧ (RingAhead s → RingAhead t) :=
  ⟨m.keeps (fun _ _ _ _ m => m.ringFormed) h, m.keeps (fun _ _ _ _ m => m.ringAhead)⟩

theorem joinEntry_ring (i : Inputs) (s : State) : (joinEntry i s).ring = s.ring
    ∧ (s.time.running = true → (joinEntry i s).time = s.time) ∧ (joinEntry i s).time.running = true := by
  unfold joinEntry; dsimp only
  split
  · exact ⟨rfl, fun _ => rfl, by assumption⟩
  · next hn => exact ⟨rfl, fun hr => absurd hr hn, rfl⟩

/-- The ring through an act; only a setting of the cycle number leaves the window to the ring's cycle (R67). -/
theorem Act.ring {w : Bool} {s t : State} (a : Act w s t) (hs : StartAgrees s) (h : RingFormed s) :
    RingFormed t ∧ (w = false → RingAhead s → RingAhead t) := by
  have idle : s.startup.state = .reset ∨ s.startup.state = .reading → s.ring.slots = [] := fun hst => by
    refine h.stopped (quiet_of_state hs (hst.elim (fun h => .inr (.inr h)) .inl)).2.2.2.1 fun hh => ?_
    rcases hst with hst | hst <;> rw [hst] at hh <;> cases hh
  have empty : ∀ {t : State}, t.ring.slots = [] → RingFormed t ∧ (w = false → RingAhead s → RingAhead t) :=
    fun ht => ⟨((ringKept_iff _).1 (ringKept_empty ht)).1, fun _ _ => ((ringKept_iff _).1 (ringKept_empty ht)).2⟩
  cases a with
  | deed d => exact ⟨(d.ring h).1, fun _ => (d.ring h).2⟩
  | ages => exact ⟨((ageQueue_moves s).ring h).1, fun _ => ((ageQueue_moves s).ring h).2⟩
  | terms => exact ⟨((borrowedTerms_moves s).ring h).1, fun _ => ((borrowedTerms_moves s).ring h).2⟩
  | ends d => exact ⟨(d.deeds.ring h).1, fun _ => (d.deeds.ring h).2⟩
  | turns g _ _ hr =>
    refine ⟨⟨h.order, fun hn => ?_, h.axis⟩, fun hw => (nomatch hw)⟩
    rw [State.onTime_time, hr] at hn; cases hn
  | reads p _ hst => exact empty (idle (.inl hst))
  | image block _ hst => exact empty (idle (.inr hst))
  | listens _ hst =>
    refine ⟨⟨h.order, fun hn _ => h.stopped hn (by rw [hst]; decide), h.axis⟩, fun _ k => k⟩
  | halts c => exact ⟨⟨h.order, fun _ hn => absurd rfl hn, h.axis⟩, fun _ k => k⟩
  | rejoins => exact ⟨⟨h.order, h.stopped, h.axis⟩, fun _ k => k⟩
  | timers n m => exact ⟨⟨h.order, h.stopped, h.axis⟩, fun _ k => k⟩
  | joins i _ u hst m =>
    obtain ⟨hring, htime, hrun⟩ := joinEntry_ring i s
    have hrole : (joinEntry i s).role = s.role := by
      simp only [State.role, State.entryOf, State.station, joinEntry_startup]
    have hglob : (joinEntry i s).globals = s.globals := by simp only [State.globals, joinEntry_startup]
    have he : RingFormed (joinEntry i s) := by
      refine ⟨?_, fun hn => ?_, fun ha => ?_⟩
      · rw [hring]; exact h.order
      · rw [hrun] at hn; cases hn
      · rw [hring]; exact h.axis (hrole ▸ ha)
    have hw := watchOwned_frame u
    have stand : ∀ b : Block, b ∉ [Block.drive] → b.same u (watchOwned u) := hw.1
    have hslots : (watchOwned u).ring.slots.Sublist u.ring.slots := by
      rw [show (watchOwned u).ring = u.ring from stand .ring (by decide)]
    refine ⟨ringFormed_of_sublist (m.ring he).1 hslots (stand .startup (by decide))
      (congrArg LineTime.running (stand .time (by decide))), fun _ k => ?_⟩
    refine ringAhead_of_sublist ((m.ring he).2 fun e hm => ?_) hslots (stand .startup (by decide))
      (congrArg LineTime.cycle (stand .time (by decide)))
    rw [hring] at hm
    by_cases hr : s.time.running = true
    · rw [htime hr, hglob]; exact k e hm
    · rw [h.stopped (Bool.eq_false_iff.2 hr) (by rw [hst]; decide)] at hm; cases hm

theorem Acts.ringFormed {w : Bool} {s t : State} (a : Acts w s t) (hs : StartAgrees s) (h : RingFormed s) :
    RingFormed t :=
  (a.keeps (P := fun u => StartAgrees u ∧ RingFormed u)
    (fun _ _ a hu => ⟨a.startAgrees hu.1, (a.ring hu.1 hu.2).1⟩) ⟨hs, h⟩).2

theorem Acts.ringKept {s t : State} (a : Acts false s t) (hs : StartAgrees s) (h : RingKept s) : RingKept t :=
  (a.keeps (P := fun u => StartAgrees u ∧ RingKept u)
    (fun u v a hu => ⟨a.startAgrees hu.1, by
      have hf := (ringKept_iff u).1 hu.2
      have hr := a.ring hu.1 hf.1
      exact (ringKept_iff v).2 ⟨hr.1, hr.2 rfl hf.2⟩⟩) ⟨hs, h⟩).2

end Sys2Proof.Machine

open Sys2Proof Sys2Proof.Machine

/-- Settles O55: an act that sets the cycle number is followed by the ring's cycle, which empties every slot outside
the window; every other act keeps it. -/
theorem stepKeepsRing : Obligations.StepKeepsRing := kept_of_goes (fun _ _ => ringKept_empty rfl) fun s t g hs h => by
  rcases g with a | ⟨u, a, b⟩
  · exact a.ringKept hs h
  · have hu := a.ringFormed hs ((ringKept_iff s).1 h).1
    refine b.ringKept ((ringCycle_acts (w := false) u).startAgrees (a.startAgrees hs)) ((ringKept_iff _).2 ⟨?_, ?_⟩)
    · exact ((ringCycle_moves u).ring hu).1
    · exact ringCycle_ahead hu.axis

end

section
/-! PROOFS. The grants queued: what placements and the queue's own moves do to their counts. -/

namespace Sys2Proof.Machine

/-! ### The counts of the grants queued -/

/-- The counts of the SHARE-GRANTs among some entries. -/
def grantCounts (q : List Entry) : List Nat := (q.filter fun e => e.kind == .shareGrant).map fun e => countOf e.words

theorem grantCounts_perm {q q' : List Entry} (h : q.Perm q') : (grantCounts q).Perm (grantCounts q') :=
  (h.filter _).map _

theorem grantCounts_append (q q' : List Entry) : grantCounts (q ++ q') = grantCounts q ++ grantCounts q' := by
  simp [grantCounts]

theorem grantCounts_cons (e : Entry) (q : List Entry) : grantCounts (e :: q) = grantCounts [e] ++ grantCounts q :=
  grantCounts_append [e] q

theorem grantCounts_map {f : Entry → Entry} (h : ∀ e, (f e).kind = e.kind ∧ (f e).words = e.words) (q : List Entry) :
    grantCounts (q.map f) = grantCounts q := by
  induction q with
  | nil => rfl
  | cons e q ih =>
    rw [List.map_cons, grantCounts_cons, ih, grantCounts_cons e]
    congr 1
    simp [grantCounts, List.filter_cons, h e]
    split <;> simp [h e]

theorem grantCounts_single {e : Entry} (h : e.kind ≠ .shareGrant) : grantCounts [e] = [] := by
  simp [grantCounts, h]

theorem grantCounts_grant {e : Entry} (h : e.kind = .shareGrant) : grantCounts [e] = [countOf e.words] := by
  simp [grantCounts, h]

/-- What is taken out of a queue and what is left of it. -/
theorem grantCounts_split (p : Entry → Bool) (q : List Entry) :
    (grantCounts (q.filter p) ++ grantCounts (q.filter fun e => !p e)).Perm (grantCounts q) := by
  rw [← grantCounts_append]
  exact grantCounts_perm (List.filter_append_perm p q)

/-- An entry taken out that is no grant takes no count. -/
theorem grantCounts_filter {p : Entry → Bool} {q : List Entry} (h : ∀ e ∈ q, e.kind = .shareGrant → p e = true) :
    grantCounts (q.filter p) = grantCounts q := by
  unfold grantCounts
  rw [List.filter_filter]
  congr 1
  refine List.filter_congr fun e he => ?_
  by_cases hk : e.kind = .shareGrant
  · simp [hk, h e he hk]
  · simp [hk]

theorem grantCounts_eraseIdx {q : List Entry} {k : Nat} {x : Entry} (h : q[k]? = some x) :
    (grantCounts [x] ++ grantCounts (q.eraseIdx k)).Perm (grantCounts q) := by
  rw [← grantCounts_cons]
  exact (grantCounts_perm (perm_cons_eraseIdx h)).symm

theorem grantCounts_standIn (e : Entry) (q : List Entry) :
    (grantCounts (standIn e q)).Perm (grantCounts [e] ++ grantCounts q) := by
  rw [← grantCounts_cons]
  exact grantCounts_perm (standIn_perm e q)

/-- The counts that an admission takes out of the queue. -/
def Admission.outCounts : Admission → List Nat
  | .evicted x => grantCounts [x]
  | _ => []

/-- The counts that an admission of an entry brings into the queue. -/
def Admission.inCounts (e : Entry) : Admission → List Nat
  | .refused => []
  | _ => grantCounts [e]

theorem replaceElders_grantCounts (k : Kind) (hk : k ≠ .shareGrant ∨ isReplacing k = false) (s : State) :
    grantCounts (replaceElders k s).line.queue = grantCounts s.line.queue := by
  rw [replaceElders_queue]
  split
  · next hi =>
    have hne : k ≠ .shareGrant := hk.elim id fun h => by rw [hi] at h; cases h
    rw [grantCounts_map fun e => by split <;> exact ⟨rfl, rfl⟩]
    refine grantCounts_filter fun e _ hg => ?_
    rw [hg]
    simp [Ne.symm hne]
  · rfl

theorem grantCounts_ranked (e : Entry) : grantCounts [e.ranked] = grantCounts [e] :=
  grantCounts_map (f := Entry.ranked) (fun _ => ⟨rfl, rfl⟩) [e]

theorem admitGeneral_grantCounts {e : Entry} {s t : State} {a : Admission} (h : admitGeneral e s = (t, a)) :
    (a.outCounts ++ grantCounts t.line.queue).Perm (a.inCounts e ++ grantCounts s.line.queue) := by
  rcases admitGeneral_cases e s with ⟨-, ha⟩ | ⟨-, k, x, hx, ha⟩ | ⟨-, ha⟩
  · rw [ha] at h; cases h
    exact grantCounts_standIn e _
  · rw [ha] at h; cases h
    have he := grantCounts_eraseIdx hx.here
    have hs := grantCounts_standIn e (s.line.queue.eraseIdx k)
    show (grantCounts [x] ++ grantCounts (standIn e (s.line.queue.eraseIdx k))).Perm
      (grantCounts [e] ++ grantCounts s.line.queue)
    calc grantCounts [x] ++ grantCounts (standIn e (s.line.queue.eraseIdx k))
      _ |>.Perm <| grantCounts [x] ++ (grantCounts [e] ++ grantCounts (s.line.queue.eraseIdx k)) := hs.append_left _
      _ |>.Perm <| grantCounts [e] ++ (grantCounts [x] ++ grantCounts (s.line.queue.eraseIdx k)) := by
        rw [← List.append_assoc, ← List.append_assoc]
        exact List.perm_append_comm.append_right _
      _ |>.Perm <| grantCounts [e] ++ grantCounts s.line.queue := he.append_left _
  · rw [ha] at h; cases h
    exact .refl _

/-- What a placement does to the counts of the grants queued (R16). -/
theorem enqueue_grantCounts {e : Entry} {s t : State} {a : Admission} (h : enqueue e s = (t, a)) :
    (a.outCounts ++ grantCounts t.line.queue).Perm (a.inCounts e ++ grantCounts s.line.queue) := by
  rcases enqueue_cases e s with ⟨-, he⟩ | ⟨-, -, -, he⟩ | ⟨-, he⟩
  · rw [he] at h; cases h
    exact .refl _
  · rw [he] at h; cases h
    have hr : grantCounts [{ e.ranked with reserved := true }] = grantCounts [e] :=
      grantCounts_map (f := fun e => { e.ranked with reserved := true }) (fun _ => ⟨rfl, rfl⟩) [e]
    exact (grantCounts_standIn _ _).trans (hr ▸ .refl _)
  · rw [he] at h
    have hp := admitGeneral_grantCounts h
    have hin : a.inCounts e.ranked = a.inCounts e := by
      cases a <;> simp [Admission.inCounts, grantCounts_ranked]
    have hel : grantCounts (replaceElders e.kind s).line.queue = grantCounts s.line.queue :=
      replaceElders_grantCounts _ (by cases e.kind <;> decide) s
    rwa [hin, hel] at hp

/-- A bulletin that is no TRIP evicts no grant. -/
theorem outCounts_nil {e : Entry} {s t : State} {a : Admission} (h : enqueue e s = (t, a)) (hc : 1 ≤ e.kind.cls) :
    a.outCounts = [] := by
  cases a with
  | evicted x =>
    refine grantCounts_single fun hk => ?_
    have := cls_lt_of_evicted h
    rw [hk] at this
    exact absurd (hc.trans_lt this) (by decide)
  | _ => rfl

theorem place_grantCounts {e : Entry} (h : 1 ≤ e.kind.cls) (hk : e.kind ≠ .shareGrant) (s : State) :
    (grantCounts (place e s).line.queue).Perm (grantCounts s.line.queue) := by
  have hp := enqueue_grantCounts (e := e) (s := s) (a := (enqueue e s).2) rfl
  have hi : (enqueue e s).2.inCounts e = [] := by
    cases (enqueue e s).2 <;> simp [Admission.inCounts, grantCounts_single hk]
  rw [outCounts_nil (e := e) (s := s) (a := (enqueue e s).2) rfl h, hi] at hp
  exact hp

/-! ### The entries marked replaced (R16) -/

/-- Only a STATUS, a REFERENCE or a PACE is marked replaced. -/
def ReplacedKinds (l : LineUnit) : Prop :=
  ∀ e ∈ l.queue, e.due = some .replaced → e.kind = .status ∨ e.kind = .reference ∨ e.kind = .pace

theorem ReplacedKinds.map {l : LineUnit} (h : ReplacedKinds l) {f : Entry → Entry}
    (hf : ∀ e, (f e).kind = e.kind ∧ ((f e).due = some .replaced → e.due = some .replaced)) {l' : LineUnit}
    (hl : l'.queue = l.queue.map f) : ReplacedKinds l' := by
  intro e he hd
  rw [hl] at he
  obtain ⟨y, hy, rfl⟩ := List.mem_map.1 he
  rw [(hf y).1]
  exact h y hy ((hf y).2 hd)

theorem ReplacedKinds.subset {l l' : LineUnit} (h : ReplacedKinds l) (hl : ∀ e ∈ l'.queue, e ∈ l.queue) :
    ReplacedKinds l' := fun e he => h e (hl e he)

theorem replacedKinds_standIn {l l' : LineUnit} {e : Entry} (h : ReplacedKinds l) (hn : e.due = none)
    (hl : ∀ x ∈ l'.queue, x = e ∨ x ∈ l.queue) : ReplacedKinds l' := by
  intro x hx hd
  rcases hl x hx with rfl | hx
  · rw [hn] at hd; cases hd
  · exact h x hx hd

theorem replacedKinds_elders (k : Kind) {s : State} (h : ReplacedKinds s.line) :
    ReplacedKinds (replaceElders k s).line := by
  intro e he hd
  rw [replaceElders_queue] at he
  split at he
  · next hi =>
    obtain ⟨y, hy, rfl⟩ := List.mem_map.1 he
    revert hd
    split
    · next hk =>
      intro _
      have : y.kind = k := by simpa using hk
      rw [show ({ y with due := some .replaced } : Entry).kind = k from this]
      cases k <;> simp_all [isReplacing]
    · exact h y (List.mem_of_mem_filter hy)
  · exact h e he hd

theorem replacedKinds_enqueue {e : Entry} {s : State} (hn : e.New) (h : ReplacedKinds s.line) :
    ReplacedKinds (enqueue e s).1.line := by
  rcases enqueue_cases e s with ⟨-, he⟩ | ⟨-, -, -, he⟩ | ⟨-, he⟩
  · rw [he]; exact h
  · rw [he]
    exact replacedKinds_standIn (e := { e.ranked with reserved := true }) h hn.due fun x hx => mem_standIn.1 hx
  · rw [he]
    have hr := replacedKinds_elders e.kind h
    rcases admitGeneral_cases e.ranked (replaceElders e.kind s) with ⟨-, ha⟩ | ⟨-, k, x, -, ha⟩ | ⟨-, ha⟩
    · rw [ha]
      exact replacedKinds_standIn (e := e.ranked) hr hn.due fun x hx => mem_standIn.1 hx
    · rw [ha]
      exact replacedKinds_standIn (e := e.ranked) hr hn.due fun x hx =>
        (mem_standIn.1 hx).imp_right List.mem_of_mem_eraseIdx
    · rw [ha]; exact hr

theorem replacedKinds_kept : LineKept ReplacedKinds where
  place _ _ hn _ h := replacedKinds_enqueue hn h
  grant _ _ hn _ h := replacedKinds_enqueue hn h
  count _ _ h := h
  mute p l h := h.map (fun e => by split <;> exact ⟨rfl, id⟩) rfl
  settle p l h := h.map (fun e => by split <;> exact ⟨rfl, id⟩) rfl
  age c l h := by
    intro e he hd
    obtain ⟨y, hy, rfl⟩ := List.mem_map.1 he
    obtain ⟨z, hz, rfl⟩ := List.mem_map.1 (List.mem_of_mem_filter hy)
    have hz' : z.aged.kind = z.kind ∧ z.aged.due = z.due := by
      unfold Entry.aged
      split <;> exact ⟨rfl, rfl⟩
    revert hd
    split
    · unfold Entry.markExpired
      split
      · exact fun hd => (nomatch hd)
      · rw [hz'.1, hz'.2]; exact h z hz
    · rw [hz'.1, hz'.2]; exact h z hz
  field p l l' ho h := by cases p <;> (simp only [LineField.only] at ho; rw [ho]; exact h)
  queries _ _ _ _ h := h
  rejoin l l' _ h ho := by rw [ho]; exact h

end Sys2Proof.Machine
end

section
/-! PROOFS. The token accounts through every act (O56). -/

namespace Sys2Proof.Machine

/-! ### The share unit's records -/

/-- The counts of the lent records, and of the borrowed ones. -/
def lentSum (l : List LentRecord) : Nat := (l.map (·.count)).sum

/-- The tokens of the borrowed records. -/
def borrowedSum (l : List BorrowedRecord) : Nat := (l.map (·.count)).sum

/-- The records one for each peer, each of some tokens, their counts the accounts; none at a fresh station. -/
structure Loans (h : Share) : Prop where
  lent : h.lent = lentSum h.lentRecords
  borrowed : h.borrowed = borrowedSum h.borrowedRecords
  lentPeers : (h.lentRecords.map (·.peer)).Nodup
  borrowedPeers : (h.borrowedRecords.map (·.peer)).Nodup
  lentSome : ∀ r ∈ h.lentRecords, 0 < r.count
  borrowedSome : ∀ r ∈ h.borrowedRecords, 0 < r.count ∧ r.shed ≤ r.count
  fresh : h.fresh = true → h.own = 0 ∧ h.lentRecords = [] ∧ h.borrowedRecords = []

/-- Some entries' part of a sum, and the rest's. -/
theorem sum_filter_add {α : Type} (p : α → Bool) (f : α → Nat) (l : List α) :
    ((l.filter p).map f).sum + ((l.filter fun x => !p x).map f).sum = (l.map f).sum := by
  induction l with
  | nil => rfl
  | cons a l ih =>
    cases hp : p a <;> simp [hp] <;> omega

/-- A list with one member that meets a test: the others, and that one. -/
theorem sum_filter_one {α κ : Type} [DecidableEq κ] (key : α → κ) (f : α → Nat) {l : List α} {r : α}
    (hn : (l.map key).Nodup) (hr : r ∈ l) :
    ((l.filter fun x => key x != key r).map f).sum + f r = (l.map f).sum := by
  induction l with
  | nil => cases hr
  | cons a l ih =>
    obtain ⟨ha, hn⟩ := List.nodup_cons.1 hn
    rcases List.mem_cons.1 hr with rfl | hr
    · have : l.filter (fun x => key x != key r) = l := List.filter_eq_self.2 fun x hx => by
        have : key x ≠ key r := fun e => ha (e ▸ List.mem_map_of_mem hx)
        simpa using this
      simp [this, Nat.add_comm]
    · have hne : key a ≠ key r := fun e => ha (e ▸ List.mem_map_of_mem hr)
      have := ih hn hr
      simp only [List.filter_cons, bne_iff_ne, ne_eq, hne, not_false_eq_true, if_true, List.map_cons, List.sum_cons]
      omega

/-- One member's value changed, the others' kept. -/
theorem sum_map_one {α κ : Type} [DecidableEq κ] (key : α → κ) (f g : α → Nat) {l : List α} {r : α}
    (hn : (l.map key).Nodup) (hr : r ∈ l) (hg : ∀ x ∈ l, key x ≠ key r → g x = f x) :
    (l.map g).sum + f r = (l.map f).sum + g r := by
  induction l with
  | nil => cases hr
  | cons a l ih =>
    obtain ⟨ha, hn⟩ := List.nodup_cons.1 hn
    rcases List.mem_cons.1 hr with rfl | hr
    · have : l.map g = l.map f := List.map_congr_left fun x hx =>
        hg x (by simp [hx]) fun e => ha (e ▸ List.mem_map_of_mem hx)
      simp only [List.map_cons, List.sum_cons, this]
      omega
    · have hne : key a ≠ key r := fun e => ha (e ▸ List.mem_map_of_mem hr)
      have := ih hn hr fun x hx => hg x (by simp [hx])
      have := hg a (by simp) hne
      simp only [List.map_cons, List.sum_cons]
      omega

/-- Members without a value add nothing. -/
theorem sum_filter_pos {α : Type} (f : α → Nat) (l : List α) :
    ((l.filter fun x => decide (0 < f x)).map f).sum = (l.map f).sum := by
  have h := sum_filter_add (fun x => decide (0 < f x)) f l
  have hz : ((l.filter fun x => !decide (0 < f x)).map f).sum = 0 := by
    refine List.sum_eq_zero fun n hn => ?_
    obtain ⟨x, hx, rfl⟩ := List.mem_map.1 hn
    simpa using (List.mem_filter.1 hx).2
  omega

theorem count_le_sum {α : Type} (f : α → Nat) {l : List α} {r : α} (hr : r ∈ l) : f r ≤ (l.map f).sum :=
  List.single_le_sum (fun _ _ => Nat.zero_le _) _ (List.mem_map_of_mem hr)

theorem Loans.eq_of_peer {h : Share} (l : Loans h) {x y : BorrowedRecord} (hx : x ∈ h.borrowedRecords)
    (hy : y ∈ h.borrowedRecords) (hp : x.peer = y.peer) : x = y := List.inj_on_of_nodup_map l.borrowedPeers hx hy hp

/-- The borrowed records changed, peers and counts kept. -/
theorem Loans.mark {h : Share} (l : Loans h) {f : BorrowedRecord → BorrowedRecord} (hf : KeepsLoan f) :
    Loans { h with borrowedRecords := h.borrowedRecords.map f } := by
  refine ⟨l.lent, ?_, l.lentPeers, ?_, l.lentSome, fun r hr => ?_, fun k => ?_⟩
  · show h.borrowed = _
    rw [l.borrowed, borrowedSum, borrowedSum, List.map_map]
    exact congrArg List.sum (List.map_congr_left fun r _ => (hf r).2.1.symm)
  · rw [List.map_map]
    have : h.borrowedRecords.map ((·.peer) ∘ f) = h.borrowedRecords.map (·.peer) :=
      List.map_congr_left fun r _ => (hf r).1
    rw [this]
    exact l.borrowedPeers
  · obtain ⟨x, hx, rfl⟩ := List.mem_map.1 hr
    obtain ⟨hc, hs⟩ := l.borrowedSome x hx
    rw [(hf x).2.1]
    exact ⟨hc, (hf x).2.2 hs⟩
  · obtain ⟨ho, hl, hb⟩ := l.fresh k
    exact ⟨ho, hl, by rw [hb]; rfl⟩

/-- One peer's borrowed record removed. -/
theorem Loans.drop {h : Share} (l : Loans h) {r : BorrowedRecord} (hr : r ∈ h.borrowedRecords)
    {p : BorrowedRecord → Bool} (hp : ∀ x ∈ h.borrowedRecords, p x = true ↔ x.peer ≠ r.peer) :
    Loans { h with borrowed := h.borrowed - r.count, borrowedRecords := h.borrowedRecords.filter p } := by
  have hf : h.borrowedRecords.filter p = h.borrowedRecords.filter fun x => x.peer != r.peer :=
    List.filter_congr fun x hx => by
      rw [Bool.eq_iff_iff, hp x hx]; simp
  refine ⟨l.lent, ?_, l.lentPeers, (List.filter_sublist.map _).nodup l.borrowedPeers, l.lentSome,
    fun x hx => l.borrowedSome x (List.mem_of_mem_filter hx), fun k => ?_⟩
  · have hs := sum_filter_one (·.peer) (·.count) l.borrowedPeers hr
    show h.borrowed - r.count = borrowedSum (h.borrowedRecords.filter p)
    rw [l.borrowed, hf, borrowedSum, borrowedSum]
    omega
  · rw [(l.fresh k).2.2] at hr; cases hr

theorem isReturnOf_iff {peer : Nat} {ret : Nat × Word} {r : BorrowedRecord} :
    isReturnOf peer ret r = true ↔ r.peer = peer ∧ r.inFlight = some ret := by
  simp [isReturnOf]

/-- Among the borrowed records, the one a return names is the one of its peer. -/
theorem Loans.isReturn_iff {h : Share} (l : Loans h) {peer : Nat} {ret : Nat × Word} {r x : BorrowedRecord}
    (hr : h.borrowedRecords.find? (isReturnOf peer ret) = some r) (hx : x ∈ h.borrowedRecords) :
    isReturnOf peer ret x = true ↔ x.peer = r.peer := by
  have hm := List.mem_of_find?_eq_some hr
  obtain ⟨hp, hi⟩ := isReturnOf_iff.1 (List.find?_some hr)
  refine ⟨fun hk => ?_, fun hk => ?_⟩
  · rw [(isReturnOf_iff.1 hk).1, hp]
  · rw [l.eq_of_peer hx hm hk]
    exact List.find?_some hr

theorem keepsLoan_settle (peer : Nat) (ret : Nat × Word) :
    KeepsLoan fun x => if isReturnOf peer ret x then x.settle else x := by
  intro r
  dsimp only
  split
  · exact ⟨rfl, rfl, fun _ => Nat.zero_le _⟩
  · exact ⟨rfl, rfl, id⟩

theorem Loans.failReturn {h : Share} (l : Loans h) (peer : Nat) (ret : Nat × Word) :
    Loans (Machine.failReturn peer ret h) := by
  unfold Machine.failReturn
  split
  · exact l
  · next r hr =>
    split
    · refine l.drop (List.mem_of_find?_eq_some hr) fun x hx => ?_
      rw [Bool.not_eq_true', ← Bool.not_eq_true, l.isReturn_iff hr hx]
    · exact l.mark (keepsLoan_settle peer ret)

/-- The tick keeps peer and count. -/
theorem tick_same (r : LentRecord) : r.tick.peer = r.peer ∧ r.tick.count = r.count := by
  unfold LentRecord.tick
  split
  · exact ⟨rfl, rfl⟩
  · split <;> exact ⟨rfl, rfl⟩

/-- What a long cycle reinstates (R106). -/
def reinstated (l : List LentRecord) : Nat := lentSum ((l.map LentRecord.tick).filter fun r => r.grace == some 0)

theorem reinstated_add (l : List LentRecord) :
    reinstated l + lentSum ((l.map LentRecord.tick).filter fun r => r.grace != some 0) = lentSum l := by
  have hs := sum_filter_add (fun r : LentRecord => r.grace == some 0) (·.count) (l.map LentRecord.tick)
  have ht : (l.map LentRecord.tick).map (·.count) = l.map (·.count) := by
    rw [List.map_map]
    exact List.map_congr_left fun r _ => (tick_same r).2
  rw [ht] at hs
  exact hs

theorem Loans.tickLent {h : Share} (l : Loans h) : Loans (Machine.tickLent h) := by
  have hsum := reinstated_add h.lentRecords
  refine ⟨?_, l.borrowed, ?_, l.borrowedPeers, fun r hr => ?_, l.borrowedSome, fun k => ?_⟩
  · show h.lent - reinstated h.lentRecords = _
    rw [l.lent]
    exact Nat.sub_eq_of_eq_add (by rw [Nat.add_comm]; exact hsum.symm)
  · refine (List.filter_sublist.map _).nodup (?_ : ((h.lentRecords.map LentRecord.tick).map (·.peer)).Nodup)
    have : h.lentRecords.map ((·.peer) ∘ LentRecord.tick) = h.lentRecords.map (·.peer) :=
      List.map_congr_left fun r _ => (tick_same r).1
    rw [List.map_map, this]
    exact l.lentPeers
  · obtain ⟨x, hx, rfl⟩ := List.mem_map.1 (List.mem_of_mem_filter hr)
    rw [(tick_same x).2]
    exact l.lentSome x hx
  · obtain ⟨ho, hl, hb⟩ := l.fresh k
    refine ⟨?_, ?_, hb⟩
    · show h.own + reinstated h.lentRecords = 0
      rw [ho, hl]; rfl
    · show (h.lentRecords.map LentRecord.tick).filter _ = []
      rw [hl]; rfl

theorem tickLent_whole {h : Share} (l : Loans h) :
    (Machine.tickLent h).own + (Machine.tickLent h).lent = h.own + h.lent ∧ h.own ≤ (Machine.tickLent h).own := by
  have hsum := reinstated_add h.lentRecords
  have hl := l.lent
  refine ⟨?_, Nat.le_add_right _ _⟩
  show h.own + reinstated h.lentRecords + (h.lent - reinstated h.lentRecords) = _
  omega

/-- What no token account reads stands. -/
theorem ShareField.accounts {p : ShareField} {h h' : Share} (ho : p.only h h') : h'.own = h.own ∧ h'.lent = h.lent
    ∧ h'.borrowed = h.borrowed ∧ h'.lentRecords = h.lentRecords ∧ h'.borrowedRecords = h.borrowedRecords
    ∧ h'.promised = h.promised ∧ h'.fresh = h.fresh := by
  cases p <;> (simp only [ShareField.only] at ho; rw [ho]; exact ⟨rfl, rfl, rfl, rfl, rfl, rfl, rfl⟩)

theorem Loans.same {h h' : Share} (l : Loans h) (ho : h'.own = h.own) (hl : h'.lent = h.lent)
    (hb : h'.borrowed = h.borrowed) (hlr : h'.lentRecords = h.lentRecords)
    (hbr : h'.borrowedRecords = h.borrowedRecords) (hf : h'.fresh = h.fresh) : Loans h' := by
  constructor
  · rw [hl, hlr]; exact l.lent
  · rw [hb, hbr]; exact l.borrowed
  · rw [hlr]; exact l.lentPeers
  · rw [hbr]; exact l.borrowedPeers
  · rw [hlr]; exact l.lentSome
  · rw [hbr]; exact l.borrowedSome
  · rw [hf, ho, hlr, hbr]; exact l.fresh

/-! ### The accounts -/

/-- The accounts agree with the records, with the grants queued and with the home share; `x` tokens promised are of
grants that have left the queue and whose owner is not told yet. -/
structure Accounts (x : Nat) (s : State) : Prop where
  loans : Loans s.share
  replaced : ReplacedKinds s.line
  promised : s.share.promised = (grantCounts s.line.queue).sum + x
  grants : ∀ k ∈ grantCounts s.line.queue, countInRange k = true
  covered : s.share.promised ≤ s.share.own
  homes : ∀ e ∈ s.startup.settings.table, e.homeShare ≤ Config.tokens
  home : s.share.fresh = false → s.share.own + s.share.lent = (s.entryOf s.station).homeShare
    ∧ (s.startup.state = .joined ∨ s.startup.state = .halted)
  mode : s.share.fresh = true → s.alarms.mode = .tripped

theorem tokensAgree_iff (s : State) : TokensAgree s ↔ Accounts 0 s := by
  have hq : (grantsQueued s).map (fun e => countOf e.words) = grantCounts s.line.queue := rfl
  constructor
  · intro h
    refine ⟨⟨h.lent, h.borrowed, h.lentPeers, h.borrowedPeers, h.lentSome, h.borrowedSome, fun k => ?_⟩, h.replaced,
      by rw [h.promised, hq, Nat.add_zero], fun k hk => ?_, h.covered, h.homes, h.home, fun k => (h.fresh k).2.2.2⟩
    · exact ⟨(h.fresh k).1, (h.fresh k).2.1, (h.fresh k).2.2.1⟩
    · obtain ⟨e, he, rfl⟩ := List.mem_map.1 hk
      exact h.grants e he
  · intro h
    refine ⟨h.loans.lent, h.loans.borrowed, h.loans.lentPeers, h.loans.borrowedPeers, h.loans.lentSome,
      h.loans.borrowedSome, h.replaced, by rw [hq]; exact h.promised,
      fun e he => h.grants _ (List.mem_map_of_mem he), h.covered, h.homes, h.home, fun k => ?_⟩
    obtain ⟨ho, hl, hb⟩ := h.loans.fresh k
    exact ⟨ho, hl, hb, h.mode k⟩

theorem entryOf_of_startup {s t : State} (h : t.startup = s.startup) :
    t.entryOf t.station = s.entryOf s.station := by
  simp only [State.entryOf, State.station, h]

section
variable {x : Nat} {s t : State}

/-- The line unit changed, the share unit not. -/
theorem Accounts.line {y : Nat} (h : Accounts x s) (hu : t.startup = s.startup) (hs : t.share = s.share)
    (hm : s.alarms.mode = .tripped → t.alarms.mode = .tripped) (hr : ReplacedKinds t.line) {out : List Nat}
    (hq : (out ++ grantCounts t.line.queue).Perm (grantCounts s.line.queue)) (hy : y = out.sum + x) :
    Accounts y t := by
  refine ⟨hs ▸ h.loans, hr, ?_, fun k hk => h.grants k (hq.subset (List.mem_append_right _ hk)), by rw [hs]; exact h.covered,
    by rw [hu]; exact h.homes, fun k => ?_, fun k => hm (h.mode (hs ▸ k))⟩
  · have := hq.sum_eq
    rw [List.sum_append] at this
    rw [hs, h.promised, hy, ← this]
    omega
  · rw [entryOf_of_startup hu, hs, hu]
    exact h.home (hs ▸ k)

/-- Neither queue nor records changed. -/
theorem Accounts.same (h : Accounts x s) (hu : t.startup = s.startup) (hs : t.share = s.share)
    (hm : s.alarms.mode = .tripped → t.alarms.mode = .tripped) (hl : t.line.queue = s.line.queue) : Accounts x t :=
  h.line hu hs hm (h.replaced.subset fun e he => hl ▸ he) (out := []) (by rw [hl]; exact .refl _) (by simp)

/-- The share unit changed, the line unit not: what is promised may fall as what is owed. -/
theorem Accounts.share {y : Nat} {g : Share → Share} (h : Accounts x s) (hl : Loans (g s.share))
    (hf : (g s.share).fresh = s.share.fresh) (hw : (g s.share).own + (g s.share).lent = s.share.own + s.share.lent)
    (hp : (g s.share).promised + x = s.share.promised + y)
    (hc : (g s.share).promised ≤ (g s.share).own) : Accounts y (s.onShare g) := by
  refine ⟨hl, h.replaced, ?_, h.grants, hc, h.homes, fun k => ?_, fun k => h.mode (hf ▸ k)⟩
  · have := h.promised
    show (g s.share).promised = (grantCounts s.line.queue).sum + y
    omega
  · show (g s.share).own + (g s.share).lent = _ ∧ _
    rw [hw]
    exact h.home (hf ▸ k)

/-- A grant that leaves undelivered is told to its lender. -/
theorem Accounts.tell {e : Entry} (h : Accounts ((grantCounts [e]).sum + x) s) : Accounts x (tellLender e s) := by
  by_cases hk : e.kind = .shareGrant
  · have hc : (grantCounts [e]).sum = countOf e.words := by rw [grantCounts_grant hk]; simp
    rw [hc] at h
    have hp := h.promised
    rw [tellLender, if_pos hk]
    exact h.share (h.loans.same rfl rfl rfl rfl rfl rfl) rfl rfl
      (by show s.share.promised - countOf e.words + (countOf e.words + x) = s.share.promised + x; omega)
      ((Nat.sub_le _ _).trans h.covered)
  · rw [tellLender_of_ne hk]
    rwa [grantCounts_single hk, List.sum_nil, Nat.zero_add] at h

theorem Accounts.enqueue {e : Entry} {a : Admission} (h : Accounts x s) (hq : enqueue e s = (t, a)) (hn : e.New)
    (hg : e.kind ≠ .shareGrant) : Accounts (a.outCounts.sum + x) t := by
  have hf := enqueue_eq_frame hq
  have hr := replacedKinds_enqueue hn h.replaced
  rw [hq] at hr
  refine h.line (hf.1 .startup (by decide)) (hf.1 .share (by decide)) (by rw [hf.1 .alarms (by decide)]; exact id) hr
    ?_ rfl
  have hp := enqueue_grantCounts hq
  have hi : a.inCounts e = [] := by cases a <;> simp [Admission.inCounts, grantCounts_single hg]
  rwa [hi] at hp

theorem Accounts.placeTold {e : Entry} (h : Accounts x s) (hn : e.New) (hg : e.kind ≠ .shareGrant) :
    Accounts x (placeTold e s) := by
  unfold Machine.placeTold
  rcases hq : Machine.enqueue e s with ⟨t, a⟩
  have ha := h.enqueue hq hn hg
  cases a with
  | evicted y => exact ha.tell
  | admitted => simpa [Admission.outCounts] using ha
  | refused => simpa [Admission.outCounts] using ha

/-- A count of 1 to 64 is carried whole. -/
theorem countOf_grantWords {k : Nat} (g : Word) (hk : k ≤ Config.tokens) : countOf (grantWords k g) = k := by
  have h64 : k ≤ 64 := hk
  simp only [countOf, grantWords, payloadWord, packWord, wordField, List.getD_cons_zero, List.foldl_cons,
    List.foldl_nil, BitVec.toNat_ofNat]
  omega

/-- Spare tokens are own ones not promised, at a station that is not fresh (R99). -/
theorem spare_le (s : State) : s.spare ≠ 0 → s.share.fresh = false ∧ s.spare + s.share.promised ≤ s.share.own := by
  unfold State.spare
  split
  · exact fun h => absurd rfl h
  · next hn =>
    intro h
    simp only [Bool.or_eq_true, decide_eq_true_eq, not_or, Bool.not_eq_true] at hn
    exact ⟨hn.1, by omega⟩

/-- A home share is at most 64. -/
theorem home_le {s : State} (h : ∀ e ∈ s.startup.settings.table, e.homeShare ≤ Config.tokens) (n : Nat) :
    (s.entryOf n).homeShare ≤ Config.tokens := by
  unfold State.entryOf
  rw [List.getD_eq_getElem?_getD]
  cases hn : s.startup.settings.table[n]? with
  | none => decide
  | some e => exact h e (List.mem_of_getElem? hn)

theorem Accounts.grant {peer k : Nat} (h : Accounts x s) (hk : k ≠ 0) (hs : k ≤ s.spare) :
    Accounts x (placeGrant peer k s).1 := by
  obtain ⟨hf, hsp⟩ := spare_le s (by omega)
  have hle : k ≤ Config.tokens := by
    have := (h.home hf).1
    have := home_le h.homes s.station
    omega
  have h1 : Accounts x (s.onShare fun h => { h with grantNumber := h.grantNumber + 1 }) :=
    h.share (h.loans.same rfl rfl rfl rfl rfl rfl) rfl rfl rfl h.covered
  unfold placeGrant; dsimp only
  have hn : Entry.New { kind := .shareGrant, target := toStation peer, words := grantWords k s.share.grantNumber } :=
    new_entry _ _ _ _ _ _
  rcases hq : Machine.enqueue { kind := .shareGrant, target := toStation peer, words := grantWords k s.share.grantNumber }
    (s.onShare fun h => { h with grantNumber := h.grantNumber + 1 }) with ⟨t, a⟩
  have hfr := enqueue_eq_frame hq
  have hshare : t.share = { s.share with grantNumber := s.share.grantNumber + 1 } := hfr.1 .share (by decide)
  have hu : t.startup = s.startup := hfr.1 .startup (by decide)
  have hm : t.alarms = s.alarms := hfr.1 .alarms (by decide)
  have hr := replacedKinds_enqueue hn h1.replaced
  rw [hq] at hr
  have hp := enqueue_grantCounts hq
  rw [outCounts_nil hq (show 1 ≤ Kind.shareGrant.cls by decide)] at hp
  have counted : a.inCounts { kind := .shareGrant, target := toStation peer, words := grantWords k s.share.grantNumber }
      = [k] → Accounts x (t.onShare fun h => { h with promised := h.promised + k }) := by
    intro hi
    rw [hi] at hp
    have hsum := hp.sum_eq
    refine ⟨?_, hr, ?_, fun c hc => ?_, ?_, by rw [State.onShare_startup, hu]; exact h.homes, fun k' => ?_, fun k' => ?_⟩
    · rw [State.onShare_share, hshare]
      exact h.loans.same rfl rfl rfl rfl rfl rfl
    · show t.share.promised + k = _
      rw [hshare]
      change s.share.promised + k = (grantCounts t.line.queue).sum + x
      have := h.promised
      simp at hsum
      omega
    · rcases List.mem_append.1 (hp.subset (List.mem_append_right _ hc)) with hc | hc
      · rw [List.mem_singleton.1 hc]
        simp [countInRange, hle, Nat.one_le_iff_ne_zero, hk]
      · exact h.grants c hc
    · show t.share.promised + k ≤ t.share.own
      rw [hshare]
      change s.share.promised + k ≤ s.share.own
      omega
    · have := h.home hf
      rw [entryOf_of_startup (s := s) (by rw [State.onShare_startup, hu]), State.onShare_startup, hu, State.onShare_share,
        hshare]
      exact this
    · rw [State.onShare_share, hshare] at k'
      exact absurd k' (by simp [hf])
  have hk1 : grantCounts [{ kind := .shareGrant, target := toStation peer, words := grantWords k s.share.grantNumber }]
      = [k] := (grantCounts_grant rfl).trans (congrArg (fun n => [n]) (countOf_grantWords _ hle))
  cases a with
  | refused => exact h1.line hu (hfr.1 .share (by decide)) (by rw [hm]; exact id) hr hp (by simp)
  | admitted => exact counted hk1
  | evicted y => exact counted hk1

end

/-! ### Every move -/

/-- A move of the line unit alone, a placement's and the ageing apart, leaves the grants queued. -/
theorem Move.grantCounts {g : Tag} {s t : State} (m : Move g s t) (hp : ∀ k, g ≠ .place k) (hg : g ≠ .grant)
    (ha : g ≠ .age) : (Machine.grantCounts t.line.queue).Perm (Machine.grantCounts s.line.queue) := by
  have alarms : ∀ {t}, AlarmLine s t → (Machine.grantCounts t.line.queue).Perm (Machine.grantCounts s.line.queue) :=
    fun a => a.keeps (Q := fun l => (Machine.grantCounts l.queue).Perm (Machine.grantCounts s.line.queue))
      (fun e u _ hk hq => (place_grantCounts (by rw [hk]; decide) (by rw [hk]; decide) u).trans hq) (.refl _)
  have mapped : ∀ {q : List Entry} (f : Entry → Entry), (∀ e, (f e).kind = e.kind ∧ (f e).words = e.words) →
      q = s.line.queue.map f → (Machine.grantCounts q).Perm (Machine.grantCounts s.line.queue) :=
    fun f hf hq => by rw [hq, grantCounts_map hf]
  by_cases hb : Block.line ∈ g.blocks
  · cases m with
    | count g => exact .refl _
    | place e => exact absurd rfl (hp _)
    | grant => exact absurd rfl hg
    | age => exact absurd rfl ha
    | mute p => exact mapped _ (fun e => by split <;> exact ⟨rfl, rfl⟩) rfl
    | settle p => exact mapped _ (fun e => by split <;> exact ⟨rfl, rfl⟩) rfl
    | line p g _ ho =>
      have : (g s.line).queue = s.line.queue := by cases p <;> (simp only [LineField.only] at ho; rw [ho])
      rw [State.onLine_line, this]
    | queries => exact .refl _
    | rejoin => exact .refl _
    | walkTo w =>
      unfold setWalkState; dsimp only
      split
      · rw [(watchOwned_frame _).1 .line (by decide)]
        exact mapped _ (fun e => by split <;> exact ⟨rfl, rfl⟩) rfl
      · rw [(watchOwned_frame _).1 .line (by decide)]
        exact .refl _
    | raised c d => exact alarms (raiseQuiet_alarmLine c d s)
    | cleared c d => exact alarms (clearAlarm_alarmLine c d s)
    | dropped n => exact alarms (loanDropped_alarmLine n s)
    | report r => exact alarms (reportAlarm_alarmLine r false true s)
    | _ => exact absurd hb (by simp [Tag.blocks])
  · rw [show t.line = s.line from m.frame.1 .line hb]

theorem failReturn_kept (peer : Nat) (ret : Nat × Word) (h : Share) : (failReturn peer ret h).own = h.own
    ∧ (failReturn peer ret h).lent = h.lent ∧ (failReturn peer ret h).promised = h.promised
    ∧ (failReturn peer ret h).fresh = h.fresh := by
  unfold failReturn
  split
  · exact ⟨rfl, rfl, rfl, rfl⟩
  · split <;> exact ⟨rfl, rfl, rfl, rfl⟩

theorem Move.accounts {x : Nat} {g : Tag} {s t : State} (m : Move g s t) (hg : g.plain = true) (h : Accounts x s) :
    Accounts x t := by
  by_cases hb : Block.share ∈ g.blocks
  · cases m with
    | place e _ hn hk => exact h.placeTold hn hk
    | grant peer k _ hk hs => exact h.grant hk hs
    | tell => exact absurd hg (by decide)
    | termOut => exact absurd hg (by decide)
    | share p g _ ho =>
      obtain ⟨h1, h2, h3, h4, h5, h6, h7⟩ := p.accounts ho
      exact h.share (h.loans.same h1 h2 h3 h4 h5 h7) h7 (by rw [h1, h2]) (by rw [h6]) (by rw [h6, h1]; exact h.covered)
    | failReturn peer ret =>
      obtain ⟨h1, h2, h3, h4⟩ := failReturn_kept peer ret s.share
      exact h.share (h.loans.failReturn peer ret) h4 (by rw [h1, h2]) (by rw [h3]) (by rw [h3, h1]; exact h.covered)
    | markLoans f _ hf => exact h.share (h.loans.mark hf) rfl rfl rfl h.covered
    | lentTerms =>
      obtain ⟨hw, hle⟩ := tickLent_whole h.loans
      exact h.share h.loans.tickLent rfl hw rfl (h.covered.trans hle)
    | endQuarantine _ hf hj =>
      obtain ⟨ho, hl, hb⟩ := h.loans.fresh hf
      have hlent : s.share.lent = 0 := by rw [h.loans.lent, hl]; rfl
      have hp : s.share.promised = 0 := by have := h.covered; omega
      refine ⟨⟨h.loans.lent, h.loans.borrowed, h.loans.lentPeers, h.loans.borrowedPeers, h.loans.lentSome,
        h.loans.borrowedSome, fun k => (nomatch k)⟩, h.replaced, h.promised, h.grants, ?_, h.homes, fun _ => ?_,
        fun k => (nomatch k)⟩
      · show s.share.promised ≤ _
        rw [hp]; exact Nat.zero_le _
      · refine ⟨?_, .inl (by simpa [State.joined] using hj)⟩
        show (s.entryOf s.station).homeShare + s.share.lent = (s.entryOf s.station).homeShare
        rw [hlent, Nat.add_zero]
    | _ => exact absurd hb (by simp [Tag.blocks])
  · have hne : ∀ u, u.blocks = [.line, .share] → g ≠ u := fun u hu e => hb (by rw [e, hu]; decide)
    have hage : g ≠ .age := fun e => by rw [e] at hg; exact absurd hg (by decide)
    exact h.line m.startup (m.frame.1 .share hb) m.tripped (replacedKinds_kept.move m h.replaced) (out := [])
      (m.grantCounts (fun k => hne _ rfl) (hne _ rfl) hage) (by simp)

theorem Moves.accounts {x : Nat} {gs : List Tag} {s t : State} (m : Moves gs s t) (hg : ∀ g ∈ gs, g.plain = true)
    (h : Accounts x s) : Accounts x t := m.keeps (fun g hm _ _ m => m.accounts (hg g hm)) h

end Sys2Proof.Machine
end

section
/-! PROOFS. The token accounts through grants, returns and the ends of attempts (O56). -/

namespace Sys2Proof.Machine

/-! ### The records booked -/

/-- A lent record's tokens at the slot of its delivered grant (R103). -/
theorem Loans.bookLent {h : Share} (l : Loans h) {k : Nat} (peer : Nat) (g : Word) (term : Nat) (hk : 0 < k)
    (hf : h.fresh = false) : Loans (Machine.bookLent peer k g term h) := by
  unfold Machine.bookLent; dsimp only
  split
  · next ha =>
    obtain ⟨r, hr, hp⟩ := List.any_eq_true.1 ha
    have hp : r.peer = peer := by simpa using hp
    have hpeer : ∀ x : LentRecord, (if x.peer == peer then
        { x with count := x.count + k, term, grace := none, grantNumber := g } else x).peer = x.peer := fun x => by
      split <;> rfl
    refine ⟨?_, l.borrowed, ?_, l.borrowedPeers, fun x hx => ?_, l.borrowedSome, fun n => ?_⟩
    · have hs := sum_map_one (·.peer) (·.count) (fun x : LentRecord => (if x.peer == peer then
        { x with count := x.count + k, term, grace := none, grantNumber := g } else x).count) l.lentPeers hr
        fun x _ hx => by rw [if_neg (by simpa [hp] using hx)]
      rw [if_pos (by simpa using hp)] at hs
      dsimp only at hs
      show h.lent + k = _
      rw [l.lent, lentSum, lentSum, List.map_map]
      simp only [Function.comp_def]
      omega
    · rw [List.map_map]
      have : h.lentRecords.map ((·.peer) ∘ fun x : LentRecord => if x.peer == peer then
        { x with count := x.count + k, term, grace := none, grantNumber := g } else x) = h.lentRecords.map (·.peer) :=
        List.map_congr_left fun x _ => hpeer x
      rw [this]
      exact l.lentPeers
    · obtain ⟨y, hy, rfl⟩ := List.mem_map.1 hx
      have := l.lentSome y hy
      split
      · show 0 < y.count + k; omega
      · exact this
    · rw [hf] at n; cases n
  · next hn =>
    refine ⟨?_, l.borrowed, ?_, l.borrowedPeers, fun x hx => ?_, l.borrowedSome, fun n => ?_⟩
    · show h.lent + k = _
      rw [l.lent, lentSum, lentSum]
      simp
    · rw [List.map_append, List.nodup_append]
      refine ⟨l.lentPeers, List.nodup_singleton _, fun a ha b hb e => hn (List.any_eq_true.2 ?_)⟩
      obtain ⟨y, hy, rfl⟩ := List.mem_map.1 ha
      rw [List.map_singleton, List.mem_singleton] at hb
      exact ⟨y, hy, by simpa using e.trans hb⟩
    · rcases List.mem_append.1 hx with hx | hx
      · exact l.lentSome x hx
      · rw [List.mem_singleton.1 hx]; exact hk
    · rw [hf] at n; cases n

/-- A borrowed record's tokens (R103). -/
theorem Loans.bookBorrowed {h : Share} (l : Loans h) {k : Nat} (peer : Nat) (g : Word) (term : Nat) (hk : 0 < k)
    (hf : h.fresh = false) : Loans (Machine.bookBorrowed peer k g term h) := by
  unfold Machine.bookBorrowed; dsimp only
  split
  · next ha =>
    obtain ⟨r, hr, hp⟩ := List.any_eq_true.1 ha
    have hp : r.peer = peer := by simpa using hp
    refine ⟨l.lent, ?_, l.lentPeers, ?_, l.lentSome, fun x hx => ?_, fun n => ?_⟩
    · have hs := sum_map_one (·.peer) (·.count) (fun x : BorrowedRecord => (if x.peer == peer then
        { x with count := x.count + k, term, grantNumber := g } else x).count) l.borrowedPeers hr
        fun x _ hx => by rw [if_neg (by simpa [hp] using hx)]
      rw [if_pos (by simpa using hp)] at hs
      dsimp only at hs
      show h.borrowed + k = _
      rw [l.borrowed, borrowedSum, borrowedSum, List.map_map]
      simp only [Function.comp_def]
      omega
    · rw [List.map_map]
      have : h.borrowedRecords.map ((·.peer) ∘ fun x : BorrowedRecord => if x.peer == peer then
        { x with count := x.count + k, term, grantNumber := g } else x) = h.borrowedRecords.map (·.peer) :=
        List.map_congr_left fun x _ => by rw [Function.comp_apply]; split <;> rfl
      rw [this]
      exact l.borrowedPeers
    · obtain ⟨y, hy, rfl⟩ := List.mem_map.1 hx
      obtain ⟨hc, hs⟩ := l.borrowedSome y hy
      split
      · exact ⟨by show 0 < y.count + k; omega, by show y.shed ≤ y.count + k; omega⟩
      · exact ⟨hc, hs⟩
    · rw [hf] at n; cases n
  · next hn =>
    refine ⟨l.lent, ?_, l.lentPeers, ?_, l.lentSome, fun x hx => ?_, fun n => ?_⟩
    · show h.borrowed + k = _
      rw [l.borrowed, borrowedSum, borrowedSum]
      simp
    · rw [List.map_append, List.nodup_append]
      refine ⟨l.borrowedPeers, List.nodup_singleton _, fun a ha b hb e => hn (List.any_eq_true.2 ?_)⟩
      obtain ⟨y, hy, rfl⟩ := List.mem_map.1 ha
      rw [List.map_singleton, List.mem_singleton] at hb
      exact ⟨y, hy, by simpa using e.trans hb⟩
    · rcases List.mem_append.1 hx with hx | hx
      · exact l.borrowedSome x hx
      · rw [List.mem_singleton.1 hx]; exact ⟨hk, Nat.zero_le _⟩
    · rw [hf] at n; cases n

/-- Some tokens of one lent record come back (R108). -/
theorem Loans.giveBack {h : Share} (l : Loans h) {r : LentRecord} (hr : r ∈ h.lentRecords) {m : Nat}
    (hm : m ≤ r.count) (hf : h.fresh = false) :
    Loans { h with own := h.own + m, lent := h.lent - m, lentRecords := (h.lentRecords.map fun x =>
      if x.peer == r.peer then { x with count := x.count - m } else x).filter fun x => decide (0 < x.count) } := by
  have hs := sum_map_one (·.peer) (·.count) (fun x : LentRecord => (if x.peer == r.peer then
    { x with count := x.count - m } else x).count) l.lentPeers hr fun x _ hx => by rw [if_neg (by simpa using hx)]
  rw [if_pos (by simp)] at hs
  dsimp only at hs
  refine ⟨?_, l.borrowed, ?_, l.borrowedPeers, fun x hx => ?_, l.borrowedSome, fun n => ?_⟩
  · show h.lent - m = lentSum _
    rw [lentSum, sum_filter_pos, l.lent, lentSum, List.map_map]
    simp only [Function.comp_def]
    have := count_le_sum (·.count) hr
    omega
  · refine (List.filter_sublist.map _).nodup ?_
    rw [List.map_map]
    have : h.lentRecords.map ((·.peer) ∘ fun x : LentRecord => if x.peer == r.peer then
      { x with count := x.count - m } else x) = h.lentRecords.map (·.peer) :=
      List.map_congr_left fun x _ => by rw [Function.comp_apply]; split <;> rfl
    rw [this]
    exact l.lentPeers
  · simpa using (List.mem_filter.1 hx).2
  · rw [hf] at n; cases n

/-- The borrowed records once a return of `m` tokens is settled (R108). -/
def settled (peer : Nat) (ret : Nat × Word) (m : Nat) (l : List BorrowedRecord) : List BorrowedRecord :=
  (l.map fun x => if isReturnOf peer ret x then { x.settle with count := x.count - m } else x).filter fun x =>
    decide (0 < x.count)

/-- The borrowed record a return names gives up some tokens and is HOLDING again, or leaves (R108). -/
theorem Loans.settle {h : Share} (l : Loans h) {peer : Nat} {ret : Nat × Word} {r : BorrowedRecord}
    (hr : h.borrowedRecords.find? (isReturnOf peer ret) = some r) {m : Nat} (hm : m ≤ r.count) :
    Loans { h with borrowed := h.borrowed - m, borrowedRecords := settled peer ret m h.borrowedRecords } := by
  have hmem := List.mem_of_find?_eq_some hr
  have hs := sum_map_one (·.peer) (·.count) (fun x : BorrowedRecord => (if isReturnOf peer ret x then
    { x.settle with count := x.count - m } else x).count) l.borrowedPeers hmem fun x hx hne => by
      rw [if_neg fun hk => hne ((l.isReturn_iff hr hx).1 hk)]
  rw [if_pos (List.find?_some hr)] at hs
  dsimp only at hs
  refine ⟨l.lent, ?_, l.lentPeers, ?_, l.lentSome, fun x hx => ?_, fun n => ?_⟩
  · show h.borrowed - m = borrowedSum (settled peer ret m h.borrowedRecords)
    rw [settled, borrowedSum, sum_filter_pos, l.borrowed, borrowedSum, List.map_map]
    simp only [Function.comp_def]
    have := count_le_sum (·.count) hmem
    omega
  · refine (List.filter_sublist.map _).nodup ?_
    rw [List.map_map]
    have : h.borrowedRecords.map ((·.peer) ∘ fun x : BorrowedRecord => if isReturnOf peer ret x then
      { x.settle with count := x.count - m } else x) = h.borrowedRecords.map (·.peer) :=
      List.map_congr_left fun x _ => by rw [Function.comp_apply]; split <;> rfl
    rw [this]
    exact l.borrowedPeers
  · obtain ⟨hx, hc⟩ := List.mem_filter.1 hx
    refine ⟨by simpa using hc, ?_⟩
    obtain ⟨y, hy, rfl⟩ := List.mem_map.1 hx
    split
    · exact Nat.zero_le _
    · exact (l.borrowedSome y hy).2
  · rw [(l.fresh n).2.2] at hmem; cases hmem

/-- A fresh flag ends the loans between the two (R112). -/
theorem Loans.part {h : Share} (l : Loans h) (n : Nat) :
    Loans { h with own := h.own + ((h.lentRecords.filter fun r => r.peer == n).map (·.count)).sum,
                   lent := h.lent - ((h.lentRecords.filter fun r => r.peer == n).map (·.count)).sum,
                   lentRecords := h.lentRecords.filter fun r => r.peer != n,
                   borrowed := h.borrowed - ((h.borrowedRecords.filter fun r => r.peer == n).map (·.count)).sum,
                   borrowedRecords := h.borrowedRecords.filter fun r => r.peer != n } := by
  have h1 := sum_filter_add (fun r : LentRecord => r.peer == n) (·.count) h.lentRecords
  have h2 := sum_filter_add (fun r : BorrowedRecord => r.peer == n) (·.count) h.borrowedRecords
  refine ⟨?_, ?_, (List.filter_sublist.map _).nodup l.lentPeers, (List.filter_sublist.map _).nodup l.borrowedPeers,
    fun x hx => l.lentSome x (List.mem_of_mem_filter hx), fun x hx => l.borrowedSome x (List.mem_of_mem_filter hx),
    fun k => ?_⟩
  · show h.lent - _ = lentSum (h.lentRecords.filter fun r => !(r.peer == n))
    rw [l.lent, lentSum, lentSum]
    omega
  · show h.borrowed - _ = borrowedSum (h.borrowedRecords.filter fun r => !(r.peer == n))
    rw [l.borrowed, borrowedSum, borrowedSum]
    omega
  · obtain ⟨ho, hl, hb⟩ := l.fresh k
    simp [ho, hl, hb]

/-! ### Every deed that leaves no account open -/

section
variable {x : Nat} {s t : State}

theorem countInRange_pos {k : Nat} (h : countInRange k = true) : 0 < k := by
  simp [countInRange] at h
  omega

theorem Accounts.borrows {peer k : Nat} {g : Word} {term : Nat} (h : Accounts x s) (hf : s.share.fresh = false)
    (hk : countInRange k = true) : Accounts x (s.onShare (bookBorrowed peer k g term)) :=
  h.share (h.loans.bookBorrowed peer g term (countInRange_pos hk) hf) rfl rfl rfl h.covered

theorem Accounts.returns (b : Bulletin) (h : Accounts x s) : Accounts x (takeReturn b s) := by
  unfold takeReturn; dsimp only
  split
  · exact h
  · next hc =>
    have hf : s.share.fresh = false := by
      simp only [Bool.or_eq_true, not_or, Bool.not_eq_true] at hc
      exact hc.1
    split
    · exact h
    · next r hr =>
      have hm := List.mem_of_find?_eq_some hr
      have hp : r.peer = b.sender.toNat := by
        have := List.find?_some hr
        simp only [Bool.and_eq_true, beq_iff_eq] at this
        exact this.1
      have hle : min (countOf b.words) r.count ≤ r.count := Nat.min_le_right _ _
      have hcount := count_le_sum (·.count) hm
      have hl := h.loans.lent
      rw [lentSum] at hl
      rw [← hp]
      refine h.share (h.loans.giveBack hm hle hf) rfl ?_ rfl (h.covered.trans (Nat.le_add_right _ _))
      show s.share.own + min (countOf b.words) r.count + (s.share.lent - min (countOf b.words) r.count) = _
      omega

theorem Accounts.returned (e : Entry) (h : Accounts x s) : Accounts x (returnDelivered e s) := by
  unfold returnDelivered; dsimp only
  split
  · exact h
  · next r hr =>
    refine h.share (h.loans.settle hr ?_) rfl rfl rfl h.covered
    split
    · exact Nat.min_le_right _ _
    · exact Nat.zero_le _

theorem Accounts.freshens (n : Nat) (h : Accounts x s) : Accounts x (freshPeer n s) := by
  have hle : ((s.share.lentRecords.filter fun r => r.peer == n).map (·.count)).sum ≤ s.share.lent := by
    have := sum_filter_add (fun r : LentRecord => r.peer == n) (·.count) s.share.lentRecords
    have hl := h.loans.lent
    rw [lentSum] at hl
    omega
  have hs : Accounts x (s.onShare fun h =>
      { h with own := h.own + ((s.share.lentRecords.filter fun r => r.peer == n).map (·.count)).sum,
               lent := h.lent - ((s.share.lentRecords.filter fun r => r.peer == n).map (·.count)).sum,
               lentRecords := h.lentRecords.filter fun r => r.peer != n,
               borrowed := h.borrowed - ((s.share.borrowedRecords.filter fun r => r.peer == n).map (·.count)).sum,
               borrowedRecords := h.borrowedRecords.filter fun r => r.peer != n }) := by
    refine h.share (h.loans.part n) rfl ?_ rfl (h.covered.trans (Nat.le_add_right _ _))
    show s.share.own + _ + (s.share.lent - _) = _
    omega
  exact (Move.mute _ _).accounts (by decide) hs

theorem Accounts.restarts (hf : restartFailure s = none) (h : Accounts x s) : Accounts x (acceptRestart s) := by
  have f := acceptRestart_frame s
  have hfresh : s.share.fresh = false := by
    unfold restartFailure at hf
    by_contra hn
    rw [Bool.not_eq_false] at hn
    rw [hn] at hf
    split at hf <;> simp at hf
  have hs : (acceptRestart s).share = s.share := f.1 .share (by decide)
  have hl : (acceptRestart s).line = s.line := f.1 .line (by decide)
  have hu : (acceptRestart s).startup = s.startup := f.1 .startup (by decide)
  refine ⟨hs ▸ h.loans, hl ▸ h.replaced, by rw [hs, hl]; exact h.promised, by rw [hl]; exact h.grants,
    by rw [hs]; exact h.covered, by rw [hu]; exact h.homes, fun k => ?_, fun k => ?_⟩
  · rw [entryOf_of_startup hu, hs, hu]
    exact h.home hfresh
  · rw [hs, hfresh] at k; cases k

theorem mem_of_mem_modify {α : Type} {l : List α} {k : Nat} {f : α → α} {y : α} (h : y ∈ l.modify k f) :
    ∃ z ∈ l, y = z ∨ y = f z := by
  obtain ⟨i, hi⟩ := List.mem_iff_getElem?.1 h
  rw [List.getElem?_modify] at hi
  split at hi
  · obtain ⟨z, hz, rfl⟩ := Option.map_eq_some_iff.1 hi
    exact ⟨z, List.mem_of_getElem? hz, .inr rfl⟩
  · rw [Option.map_eq_map, Option.map_id_fun', id] at hi
    exact ⟨y, List.mem_of_getElem? hi, .inl rfl⟩

theorem grantCounts_modify {f : Entry → Entry} (h : ∀ e, (f e).kind = e.kind ∧ (f e).words = e.words) (q : List Entry)
    (k : Nat) : grantCounts (q.modify k f) = grantCounts q := by
  induction q generalizing k with
  | nil => cases k <;> rfl
  | cons e q ih =>
    cases k with
    | zero =>
      rw [List.modify_zero_cons, grantCounts_cons, grantCounts_cons e]
      exact congrArg (· ++ grantCounts q) (grantCounts_map h [e])
    | succ k => rw [List.modify_succ_cons, grantCounts_cons, ih, ← grantCounts_cons]

/-- The queue's entries changed in place, or some that are no grants taken out. -/
theorem Accounts.queue {q : List Entry} {g : LineUnit → LineUnit} (h : Accounts x s) (hq : (g s.line).queue = q)
    (hr : ReplacedKinds (g s.line)) (hg : grantCounts q = grantCounts s.line.queue) : Accounts x (s.onLine g) :=
  h.line rfl rfl id hr (out := []) (by rw [State.onLine_line, hq, hg]; exact .refl _) (by simp)

theorem Deed.accounts (d : Deed false s t) (h : Accounts x s) : Accounts x t := by
  have framed : ∀ {bs : List Block} {t : State} (f : Frame bs s t) (_ : Block.line ∉ bs := by decide)
      (_ : Block.startup ∉ bs := by decide) (_ : Block.share ∉ bs := by decide)
      (_ : Block.alarms ∉ bs := by decide), Accounts x t := fun {bs t} f hl hu hs ha => by
    have e : ∀ b : Block, b ∉ bs → b.same s t := f.1
    exact h.same (e .startup hu) (e .share hs) (by rw [show t.alarms = s.alarms from e .alarms ha]; exact id)
      (congrArg LineUnit.queue (e .line hl))
  cases d with
  | move m hp => exact m.accounts (hp.resolve_left (by decide)) h
  | begins =>
    have hb := h.queue (g := fun l => { l with queue := l.queue.map fun e => { e with rank := 0 } }) rfl
      (h.replaced.map (f := fun e => { e with rank := 0 }) (fun _ => ⟨rfl, id⟩) rfl)
      (grantCounts_map (f := fun e => { e with rank := 0 }) (fun _ => ⟨rfl, rfl⟩) s.line.queue)
    exact hb.same rfl rfl id rfl
  | reference b =>
    have f := takeReference_frame b s
    exact h.same (f.1 .startup (by decide)) (f.1 .share (by decide)) (by rw [f.1 .alarms (by decide)]; exact id)
      (by rw [takeReference_line])
  | acks a =>
    have f := ackList_frame a s
    have hl := ackList_alarmLine a s
    refine h.line (f.1 .startup (by decide)) (f.1 .share (by decide)) (by rw [ackList_mode]; exact id)
      (replacedKinds_kept.alarm hl h.replaced) (out := []) ?_ (by simp)
    exact hl.keeps (Q := fun l => (grantCounts l.queue).Perm (grantCounts s.line.queue))
      (fun e u _ hk hq => (place_grantCounts (by rw [hk]; decide) (by rw [hk]; decide) u).trans hq) (.refl _)
  | restarts _ _ hf => exact h.restarts hf
  | borrows peer k g term _ hf hk => exact h.borrows hf hk
  | returns b => exact h.returns b
  | returned e => exact h.returned e
  | freshens n => exact h.freshens n
  | withdraws =>
    refine h.queue rfl (h.replaced.subset fun e he => List.mem_of_mem_filter he)
      (grantCounts_filter fun e _ hk => by simp [hk])
  | offers =>
    rcases offer_cases s with ho | ⟨-, k, e, hk, -, -, ho⟩
    · rwa [ho]
    · rw [ho]
      refine h.line rfl rfl id (fun y hy hd => ?_) (out := []) ?_ (by simp)
      · obtain ⟨z, hz, rfl | rfl⟩ := mem_of_mem_modify hy
        · exact h.replaced y hz hd
        · exact h.replaced z hz hd
      · show (grantCounts (s.line.queue.modify k _)).Perm _
        rw [grantCounts_modify (f := fun e => { e with inFlight := true }) fun _ => ⟨rfl, rfl⟩]
  | lands g _ hg =>
    have hf : ∀ e : Entry, (if e.inFlight then { g e with inFlight := false } else e).kind = e.kind
        ∧ (if e.inFlight then { g e with inFlight := false } else e).words = e.words
        ∧ (if e.inFlight then { g e with inFlight := false } else e).due = e.due := fun e => by
      obtain ⟨n, hn⟩ := hg e
      split
      · rw [hn]; exact ⟨rfl, rfl, rfl⟩
      · exact ⟨rfl, rfl, rfl⟩
    exact h.queue rfl (h.replaced.map (fun e => ⟨(hf e).1, by rw [(hf e).2.2]; exact id⟩) rfl)
      (grantCounts_map (fun e => ⟨(hf e).1, (hf e).2.1⟩) _)
  | coilOn => exact framed (setCoil_frame true s)
  | keeps k b d => exact framed (keepAtCab_frame k b d s)
  | peer n g => exact framed (setPeer_frame n g s)
  | _ => exact h.same rfl rfl id rfl

end

end Sys2Proof.Machine
end

section
/-! PROOFS. The token accounts through the ends of attempts, the terms and the start states (O56). -/

namespace Sys2Proof.Machine

section
variable {x : Nat} {s t : State}

theorem Deeds.accounts (d : Deeds false s t) (h : Accounts x s) : Accounts x t := d.keeps (fun _ _ d => d.accounts) h

/-! ### Entries that leave undelivered -/

/-- The owner of an entry that leaves undelivered settles what is owed for it. -/
theorem Accounts.outcomeFailed {e : Entry} (h : Accounts ((grantCounts [e]).sum + x) s) :
    Accounts x (outcomeFailed e s) := by
  by_cases hk : e.kind = .shareGrant
  · rw [outcomeFailed_grant hk]
    exact h.tell
  · rw [grantCounts_single hk, List.sum_nil, Nat.zero_add] at h
    exact (outcomeFailed_moves hk s).accounts (by decide) h

theorem Accounts.count (g : LineCounters → LineCounters) (h : Accounts x s) : Accounts x (s.count g) :=
  h.same rfl rfl id rfl

theorem Accounts.entryExpired {e : Entry} (h : Accounts ((grantCounts [e]).sum + x) s) :
    Accounts x (entryExpired s e) := (h.count _).outcomeFailed

/-- The owners of some entries that have left are told one after the other. -/
theorem Accounts.tellAll {f : State → Entry → State} (hf : ∀ (e : Entry) (s : State) (x : Nat),
    Accounts ((grantCounts [e]).sum + x) s → Accounts x (f s e)) (l : List Entry)
    (h : Accounts ((grantCounts l).sum + x) s) : Accounts x (l.foldl f s) := by
  induction l generalizing s with
  | nil => simpa [grantCounts] using h
  | cons e l ih =>
    rw [grantCounts_cons, List.sum_append, Nat.add_assoc] at h
    exact ih (hf e s _ h)

theorem aged_same (e : Entry) : e.aged.kind = e.kind ∧ e.aged.words = e.words := by
  unfold Entry.aged
  split <;> exact ⟨rfl, rfl⟩

theorem queueLeft_grantCounts (c : DWord) (q : List Entry) :
    (grantCounts (queueGone c q) ++ grantCounts (queueLeft c q)).Perm (grantCounts q) := by
  have marked : ∀ l : List Entry, grantCounts (l.map fun e => if e.inFlight then e.markExpired c else e)
      = grantCounts l := fun l => by
    refine grantCounts_map (fun e => ?_) l
    split
    · unfold Entry.markExpired
      split <;> exact ⟨rfl, rfl⟩
    · exact ⟨rfl, rfl⟩
  unfold queueLeft queueGone
  rw [marked]
  have hs := grantCounts_split (expiresNow c) (q.map Entry.aged)
  rwa [grantCounts_map aged_same] at hs

theorem Accounts.ageQueue (h : Accounts x s) : Accounts x (ageQueue s) := by
  rw [ageQueue_eq]
  refine Accounts.tellAll (fun e s x => Accounts.entryExpired) _ ?_
  exact h.line rfl rfl id (replacedKinds_kept.age s.time.cycle s.line h.replaced)
    (queueLeft_grantCounts s.time.cycle s.line.queue) rfl

/-! ### The ends of an attempt -/

/-- One entry alone is IN FLIGHT. -/
theorem flight_alone {q : List Entry} {e : Entry} (h : flight q = some e)
    (hl : (q.filter fun e => e.inFlight).length ≤ 1) : q.filter (fun e => e.inFlight) = [e] := by
  have hm : e ∈ q.filter fun e => e.inFlight := List.mem_filter.2 ⟨List.mem_of_find?_eq_some h, List.find?_some h⟩
  match hq : q.filter fun e => e.inFlight with
  | [] => rw [hq] at hm; cases hm
  | [y] =>
    rw [hq, List.mem_singleton] at hm
    rw [hm, hq]
  | y :: z :: l =>
    rw [hq, List.length_cons, List.length_cons] at hl
    omega

theorem Accounts.dropFlight {e : Entry} (h : Accounts x s) (he : flight s.line.queue = some e)
    (hl : (s.line.queue.filter fun e => e.inFlight).length ≤ 1) :
    Accounts ((grantCounts [e]).sum + x) (dropFlight s) := by
  have hs := grantCounts_split (fun e => e.inFlight) s.line.queue
  rw [flight_alone he hl] at hs
  exact h.line rfl rfl id (h.replaced.subset fun e he => List.mem_of_mem_filter he) hs rfl

theorem Accounts.applyDue {e : Entry} {d : Due} (h : Accounts ((grantCounts [e]).sum + x) s)
    (hk : d = .replaced → e.kind ≠ .shareGrant) : Accounts x (applyDue e d s) := by
  cases d with
  | replaced =>
    rw [grantCounts_single (hk rfl), List.sum_nil, Nat.zero_add] at h
    show Accounts x (countReplaced e.kind s)
    unfold countReplaced
    split
    · exact h.count _
    · exact h.count _
    · exact h
  | expired => exact h.entryExpired

/-- An entry of the queue marked replaced is no grant. -/
theorem Accounts.not_grant {e : Entry} (h : Accounts x s) (he : e ∈ s.line.queue) (hd : e.due = some .replaced) :
    e.kind ≠ .shareGrant := by
  rcases h.replaced e he hd with hk | hk | hk <;> rw [hk] <;> decide

theorem Accounts.flightEnds {e : Entry} {g : Entry → Entry} (h : Accounts x s) (he : flight s.line.queue = some e)
    (hl : (s.line.queue.filter fun e => e.inFlight).length ≤ 1) (hg : KeepsEntry g) :
    Accounts x (flightEnds e g s) := by
  unfold Machine.flightEnds
  split
  · exact (Deed.lands g s hg).accounts h
  · next d hd =>
    exact (h.dropFlight he hl).applyDue fun hr => h.not_grant (List.mem_of_find?_eq_some he) (hr ▸ hd)

theorem Accounts.attemptFails {e : Entry} (h : Accounts x s) (he : flight s.line.queue = some e)
    (hl : (s.line.queue.filter fun e => e.inFlight).length ≤ 1) : Accounts x (attemptFails e s) := by
  unfold Machine.attemptFails
  split
  · unfold noTaker; dsimp only
    have hd := (h.dropFlight he hl).count fun c => { c with noTaker := bump c.noTaker }
    refine Accounts.outcomeFailed ?_
    split
    · exact (broadcastLost_deeds _).accounts hd
    · exact hd
  · exact h.flightEnds he hl keepsEntry_failed

theorem outcomeDelivered_plain {e : Entry} (h : e.kind ≠ .shareGrant) (s : State) :
    Deeds false s (outcomeDelivered e s) := by
  unfold outcomeDelivered
  split
  · exact inStepPace_deeds s
  · unfold statusDelivered
    split
    · exact .refl _ s
    · exact (Deed.peer _ _ s).one
  · next hk => exact absurd hk h
  · exact (Deed.returned e s).one
  · exact yieldDelivered_deeds e s
  · exact ackDelivered_deeds _ s
  · exact applyRestart_deeds s
  · exact .refl _ s

/-- A grant delivered moves its tokens and settles what was promised (R103). -/
theorem Accounts.grantDelivered {e : Entry} (h : Accounts ((grantCounts [e]).sum + x) s) (hk : e.kind = .shareGrant)
    (hr : countInRange (countOf e.words) = true) : Accounts x (grantDelivered e s) := by
  have hc : (grantCounts [e]).sum = countOf e.words := by rw [grantCounts_grant hk]; simp
  rw [hc] at h
  have hpos := countInRange_pos hr
  have hp := h.promised
  have hcov := h.covered
  have hf : s.share.fresh = false := by
    by_contra hn
    have := (h.loans.fresh (by simpa using hn)).1
    omega
  unfold Machine.grantDelivered; dsimp only
  rw [if_pos hr]
  refine h.share (h.loans.bookLent _ _ _ hpos hf) rfl ?_ ?_ ?_
  · show s.share.own - countOf e.words + (s.share.lent + countOf e.words) = _
    omega
  · show s.share.promised - countOf e.words + (countOf e.words + x) = _
    omega
  · show s.share.promised - countOf e.words ≤ s.share.own - countOf e.words
    omega

theorem Accounts.attemptDelivered {e : Entry} (h : Accounts x s) (he : flight s.line.queue = some e)
    (hl : (s.line.queue.filter fun e => e.inFlight).length ≤ 1) : Accounts x (attemptDelivered e s) := by
  have hm := List.mem_of_find?_eq_some he
  unfold Machine.attemptDelivered; dsimp only
  have hd := (h.dropFlight he hl).count fun c => { c with sent := bump c.sent }
  have hb : Accounts ((grantCounts [e]).sum + x) (clearAlarm .lineFault none
      (if e.kind.isBroadcast then broadcastDelivered ((Machine.dropFlight s).count fun c => { c with sent := bump c.sent })
        else (Machine.dropFlight s).count fun c => { c with sent := bump c.sent })) := by
    refine (clear_deeds _ _ _).accounts ?_
    split
    · exact (broadcastDelivered_deeds _).accounts hd
    · exact hd
  by_cases hk : e.kind = .shareGrant
  · have ho : ∀ u, outcomeDelivered e u = Machine.grantDelivered e u := fun u => by
      unfold outcomeDelivered
      rw [hk]
    rw [ho]
    refine hb.grantDelivered hk (h.grants _ ?_)
    exact List.mem_map_of_mem (List.mem_filter.2 ⟨hm, by simp [hk]⟩)
  · rw [grantCounts_single hk, List.sum_nil, Nat.zero_add] at hb
    exact (outcomeDelivered_plain hk _).accounts hb

theorem Accounts.enterLineFault (h : Accounts x s) : Accounts x (enterLineFault s) := by
  unfold Machine.enterLineFault; dsimp only
  refine (quiet_deeds (by decide) _ _).accounts (Accounts.tellAll (fun e s x hx => ?_) _ ?_)
  · exact (hx.count _).outcomeFailed
  · refine h.line rfl rfl id (fun e he => (nomatch he)) (out := grantCounts s.line.queue) ?_ rfl
    show (grantCounts s.line.queue ++ []).Perm _
    rw [List.append_nil]

theorem SendEnds.accounts (d : SendEnds s t) (h : Accounts x s)
    (hl : (s.line.queue.filter fun e => e.inFlight).length ≤ 1) : Accounts x t := by
  cases d with
  | back e g _ he hg => exact h.flightEnds he hl hg
  | fails e _ he => exact h.attemptFails he hl
  | delivered e _ he => exact h.attemptDelivered he hl
  | bitError e _ he =>
    unfold bitErrorEnds; dsimp only
    have hb : Accounts x ((s.onLine fun l => { l with bitErrorRun := s.line.bitErrorRun + 1 }).count fun c =>
        { c with bitErrors := bump c.bitErrors }) :=
      (h.same (t := s.onLine fun l => { l with bitErrorRun := s.line.bitErrorRun + 1 }) rfl rfl id rfl).count _
    have hf := hb.attemptFails (e := e) he hl
    split
    · exact hf.enterLineFault
    · exact hf

/-! ### The terms of the borrowed records (R105) -/

/-- A borrowed record whose term runs out leaves; its return's placement touches no other record. -/
theorem sendReturn_share {peer : Nat} (k : Nat) (g : Word) {s : State}
    (h : ∀ r ∈ s.share.borrowedRecords, r.peer ≠ peer) : (sendReturn peer k g s).share = s.share := by
  unfold sendReturn
  rcases hq : Machine.enqueue { kind := .shareReturn, target := toStation peer, words := grantWords k g } s with ⟨t, a⟩
  have ht : t.share = s.share := (enqueue_eq_frame hq).1 .share (by decide)
  cases a with
  | refused =>
    dsimp only
    rw [returnFailed_share]
    have hd : ∀ (n : Nat) (u : State), (loanDropped n u).share = u.share := fun n u =>
      (raiseAndClear_frame _ _ u).1 .share (by decide)
    have hf : failReturn peer (k, g) t.share = t.share := by
      unfold failReturn
      have hn : t.share.borrowedRecords.find? (isReturnOf peer (k, g)) = none :=
        List.find?_eq_none.2 fun r hr hi => h r (ht ▸ hr) (isReturnOf_iff.1 hi).1
      rw [hn]
    rw [if_neg Bool.false_ne_true, hd, State.onShare_share, hf, ht]
  | admitted => exact ht
  | evicted y => exact ht

theorem borrowedTermOut_share (s : State) (r : BorrowedRecord) : (borrowedTermOut s r).share =
    { s.share with borrowed := s.share.borrowed - r.count,
                   borrowedRecords := s.share.borrowedRecords.filter fun y => y.peer != r.peer } := by
  unfold borrowedTermOut; dsimp only
  split
  · rfl
  · rw [sendReturn_share]
    · rfl
    · intro y hy
      simpa using (List.mem_filter.1 hy).2

theorem Accounts.termOut {r : BorrowedRecord} (h : Accounts x s) (hr : r ∈ s.share.borrowedRecords) :
    Accounts x (borrowedTermOut s r) := by
  have hd : Accounts x (s.onShare fun h =>
      { h with borrowed := h.borrowed - r.count,
               borrowedRecords := h.borrowedRecords.filter fun y => y.peer != r.peer }) :=
    h.share (h.loans.drop hr fun y _ => by simp) rfl rfl rfl h.covered
  have hn := hd.same (t := (s.onShare fun h =>
      { h with borrowed := h.borrowed - r.count,
               borrowedRecords := h.borrowedRecords.filter fun y => y.peer != r.peer }).note .loanTermEnd) rfl rfl id rfl
  unfold borrowedTermOut; dsimp only
  split
  · exact hn
  · exact (sendReturn_moves _ _ _ _).accounts (by decide) hn

theorem Accounts.terms (h : Accounts x s) : Accounts x (borrowedTerms s) := by
  have folds : ∀ (l : List BorrowedRecord) (u : State), Accounts x u → (l.map (·.peer)).Nodup →
      (∀ r ∈ l, r ∈ u.share.borrowedRecords) → Accounts x (l.foldl borrowedTermOut u) := by
    intro l
    induction l with
    | nil => exact fun _ hu _ _ => hu
    | cons r l ih =>
      intro u hu hn hl
      obtain ⟨hr, hn⟩ := List.nodup_cons.1 hn
      refine ih _ (hu.termOut (hl r (by simp))) hn fun y hy => ?_
      rw [borrowedTermOut_share]
      refine List.mem_filter.2 ⟨hl y (by simp [hy]), ?_⟩
      have : y.peer ≠ r.peer := fun e => hr (List.mem_map.2 ⟨y, hy, e⟩)
      simpa using this
  unfold borrowedTerms; dsimp only
  have hm : Accounts x (s.onShare fun h =>
      { h with borrowedRecords := h.borrowedRecords.map fun r => { r with term := r.term - 1 } }) :=
    (Move.markLoans (fun r => { r with term := r.term - 1 }) s fun _ => ⟨rfl, rfl, id⟩).accounts (by decide) h
  exact folds _ _ hm ((List.filter_sublist.map _).nodup hm.loans.borrowedPeers) fun _ => List.mem_of_mem_filter

/-! ### Every act -/

/-- Before entry to JOINED, and not in HALTED, a station is fresh. -/
theorem Accounts.fresh_of_state {u : StartState} (h : Accounts x s) (hs : s.startup.state = u) (hj : u ≠ .joined)
    (hh : u ≠ .halted) : s.share.fresh = true := by
  by_contra hn
  rcases (h.home (by simpa using hn)).2 with k | k <;> rw [hs] at k
  · exact hj k
  · exact hh k

/-- A fresh station's accounts do not read the machine table. -/
theorem Accounts.restart (h : Accounts x s) (hf : s.share.fresh = true) (hs : t.share = s.share)
    (hq : t.line.queue = s.line.queue) (hm : t.alarms.mode = s.alarms.mode)
    (hh : ∀ e ∈ t.startup.settings.table, e.homeShare ≤ Config.tokens) : Accounts x t := by
  refine ⟨hs ▸ h.loans, h.replaced.subset fun e he => hq ▸ he, by rw [hs, hq]; exact h.promised,
    by rw [hq]; exact h.grants, by rw [hs]; exact h.covered, hh, fun k => ?_, fun k => hm ▸ h.mode (hs ▸ k)⟩
  rw [hs, hf] at k; cases k

theorem Act.accounts {w : Bool} (a : Act w s t) (hs : StartAgrees s) (hb : Bounded s) (h : Accounts 0 s) :
    Accounts 0 t := by
  have fresh : ∀ {u : StartState}, s.startup.state = u → u ≠ .joined → u ≠ .halted → s.share.fresh = true :=
    fun hst => h.fresh_of_state hst
  cases a with
  | deed d => exact d.accounts h
  | ages => exact h.ageQueue
  | terms => exact h.terms
  | ends d => exact d.accounts h hb.inFlight
  | turns | rejoins => exact h.same rfl rfl id rfl
  | timers n m =>
    exact ⟨h.loans, h.replaced, h.promised, h.grants, h.covered, h.homes, h.home, h.mode⟩
  | reads p _ hst => exact h.restart (fresh hst (by decide) (by decide)) rfl rfl rfl h.homes
  | image block _ hst =>
    refine h.restart (fresh hst (by decide) (by decide)) rfl rfl rfl ?_
    exact (settingsHeld_formImage block s).homes (.inl rfl)
  | listens _ hst => exact h.restart (fresh hst (by decide) (by decide)) rfl rfl rfl h.homes
  | halts c =>
    refine ⟨⟨h.loans.lent, rfl, h.loans.lentPeers, .nil, h.loans.lentSome, fun _ k => (nomatch k), fun k => ?_⟩,
      h.replaced, h.promised, h.grants, h.covered, h.homes, fun k => ⟨(h.home k).1, .inr rfl⟩, h.mode⟩
    exact ⟨(h.loans.fresh k).1, (h.loans.fresh k).2.1, rfl⟩
  | joins i _ u hst m =>
    have hq : s.line.queue = [] := (hs.empty fun ha => by
      have := hs.line
      rw [hst, ha] at this; cases this).1
    have hfresh := fresh hst (by decide) (by decide)
    have hp : s.share.promised = 0 := by rw [h.promised, hq]; rfl
    have hshare : (joinEntry i s).share =
        { s.share with quarantine := 0, own := 0, borrowed := 0, lent := 0, lentRecords := [], borrowedRecords := [],
                       fresh := true } := by unfold joinEntry; dsimp only; split <;> rfl
    have hline : (joinEntry i s).line.queue = [] := by
      refine Eq.trans ?_ hq
      unfold joinEntry; dsimp only; split <;> rfl
    have hmode : (joinEntry i s).alarms = s.alarms := by unfold joinEntry; dsimp only; split <;> rfl
    have he : Accounts 0 (joinEntry i s) := by
      refine ⟨?_, ?_, ?_, ?_, ?_, ?_, fun k => ?_, fun _ => hmode ▸ h.mode hfresh⟩
      · rw [hshare]
        exact ⟨rfl, rfl, .nil, .nil, fun _ k => (nomatch k), fun _ k => (nomatch k), fun _ => ⟨rfl, rfl, rfl⟩⟩
      · intro e he
        rw [hline] at he; cases he
      · rw [hshare, hline]; exact hp
      · intro k hk
        rw [hline] at hk; cases hk
      · rw [hshare]; exact hp.le
      · rw [joinEntry_startup]; exact h.homes
      · rw [hshare] at k; cases k
    have hu : Accounts 0 u := m.accounts (by decide) he
    have f := watchOwned_frame u
    exact hu.same (f.1 .startup (by decide)) (f.1 .share (by decide)) (by rw [f.1 .alarms (by decide)]; exact id)
      (by rw [f.1 .line (by decide)])

end

theorem restored_accounts (i : Inputs) (p : List Instr) : Accounts 0 (restored i p) := by
  refine ⟨⟨rfl, rfl, .nil, .nil, fun _ k => (nomatch k), fun _ k => (nomatch k), fun _ => ⟨rfl, rfl, rfl⟩⟩,
    fun _ k => (nomatch k), rfl, fun _ k => (nomatch k), le_rfl, ?_, fun k => (nomatch k), fun _ => rfl⟩
  show ∀ e ∈ State.reset.startup.settings.table, e.homeShare ≤ Config.tokens
  decide

end Sys2Proof.Machine

open Sys2Proof Sys2Proof.Machine

/-- Settles O56: each act of a step keeps the accounts; those of an entry that leaves the queue are settled in the
same act. -/
theorem stepKeepsTokens : Obligations.StepKeepsTokens := kept_of_goes
  (fun i p => (tokensAgree_iff _).2 (restored_accounts i p)) fun s t g ⟨hs, hb⟩ h => by
    rw [tokensAgree_iff] at h ⊢
    exact (g.keeps (P := fun u => Bounded u ∧ Accounts 0 u)
      (fun _ _ a hu ⟨hbu, hau⟩ => ⟨a.bounded hbu, a.accounts hu hbu hau⟩) hs ⟨hb, h⟩).2

end

section
/-! PROOFS. What holds in HALTED, and the stages of the drive chain that limit motion. -/

namespace Sys2Proof.Machine

/-! ### HALTED (R191) -/

/-- The station is in HALTED by a cause. -/
def HaltedBy (c : Nat) (s : State) : Prop := s.startup.state = .halted ∧ s.startup.haltCause = c

theorem haltedBy_of_startup {c : Nat} {s t : State} (h : t.startup = s.startup) (hs : HaltedBy c s) : HaltedBy c t :=
  ⟨h ▸ hs.1, h ▸ hs.2⟩

theorem SendEnds.startup {s t : State} (d : SendEnds s t) : t.startup = s.startup := d.deeds.startup

/-- No act of a station leaves HALTED, nor sets the cause again. -/
theorem Act.haltedBy {c : Nat} {w : Bool} {s t : State} (a : Act w s t) (hs : StartAgrees s) (h : HaltedBy c s) :
    HaltedBy c t := by
  have other : ∀ v : StartState, s.startup.state = v → v ≠ .halted → HaltedBy c t := fun v hv hn =>
    absurd (hv.symm.trans h.1) hn
  cases a with
  | deed d => exact haltedBy_of_startup d.startup h
  | ages => exact haltedBy_of_startup (ageQueue_moves s).startup h
  | terms => exact haltedBy_of_startup (borrowedTerms_moves s).startup h
  | ends d => exact haltedBy_of_startup d.startup h
  | turns g => exact h
  | reads p _ hr => exact other _ hr (by decide)
  | image b _ hr _ => exact other _ hr (by decide)
  | listens _ hr => exact other _ hr (by decide)
  | halts c _ hr =>
    rcases hr with hr | hr | hr
    · exact other _ hr (by decide)
    · exact other _ hr (by decide)
    · exact other _ (rejoining_joined hs hr) (by decide)
  | rejoins _ _ => exact h
  | timers n m => exact h
  | joins i _ u hr m => exact other _ hr (by decide)

/-- In HALTED the line unit is halted and its queues are empty. -/
theorem line_of_halted {s : State} (h : StartAgrees s) (hs : s.startup.state = .halted) :
    s.line.state = .halted ∧ s.line.queue = [] := by
  have hl : s.line.state = .halted := by
    have fits := h.line
    rw [hs] at fits
    cases hst : s.line.state <;> simp_all [lineStateFits]
  exact ⟨hl, (h.empty (by rw [hl]; decide)).1⟩

theorem faultPin_halted {s : State} (h : s.startup.state = .halted) :
    s.faultPin = !State.faultCodeReleased s.startup.haltCause s.startup.faultCount := by
  rw [State.faultPin, h]

/-- The FAULT pin's code in its twenty slots. -/
theorem released_slots : ∀ cause < 10,
    ((List.range 20).filter fun k => State.faultCodeReleased cause (k * 10000)).length = cause := by
  decide

/-! ### The ramp (R83) and the ceiling (R85) -/

section
variable {accel decel : Nat} {u x : Int}

theorem capMagnitude_neg (x : Int) (top : Nat) : capMagnitude (-x) top = -capMagnitude x top := by
  unfold capMagnitude
  split <;> split <;> omega

theorem stageRamp_zero : stageRamp accel decel 0 x = capMagnitude x accel := rfl

/-- The ramp is the same on both sides of 0. -/
theorem stageRamp_neg : stageRamp accel decel (-u) (-x) = -stageRamp accel decel u x := by
  simp only [stageRamp, neg_eq_zero, neg_mul_neg, Int.natAbs_neg, Int.sign_neg, capMagnitude_neg]
  split
  · rfl
  · split
    · split <;> ring
    · ring

/-- The rows of the ramp above 0 (R83). -/
theorem stageRamp_pos (hu : 0 < u) : stageRamp accel decel u x =
    if u < x then min x (u + accel) else max (max x 0) (u - decel) := by
  have side : 0 < u * x ↔ 0 < x := mul_pos_iff_of_pos_left hu
  simp only [stageRamp, hu.ne', if_false, side, Int.sign_eq_one_of_pos hu]
  split
  · split
    · rw [if_pos (by omega)]; omega
    · rw [if_neg (by omega)]; omega
  · rw [if_neg (by omega)]; omega

/-- What the rows of R83 say of the output `r` from the ramp state `u` under the target `x`. -/
structure RampRows (accel decel : Nat) (u x r : Int) : Prop where
  side : 0 ≤ u * r
  fromZero : u = 0 → 0 ≤ x * r
  away : 0 ≤ u * x → u.natAbs < x.natAbs → r.natAbs = min x.natAbs (u.natAbs + accel)
  toward : 0 < u * x → x.natAbs ≤ u.natAbs → r.natAbs = max x.natAbs (u.natAbs - decel)
  through : u * x ≤ 0 → u ≠ 0 → r.natAbs = u.natAbs - decel
  rests : u = 0 → x = 0 → r = 0

/-- What they say of the way to the target where both limits are above 0. -/
structure RampNears (accel decel : Nat) (u x r : Int) : Prop where
  side : 0 ≤ u * r
  before : 0 ≤ (u - x) * (r - x)
  limited : (r - u).natAbs ≤ max accel decel
  nearer : u ≠ x → (r - x).natAbs < (u - x).natAbs
  rests : u = x → r = x

theorem RampRows.neg {r : Int} (h : RampRows accel decel (-u) (-x) (-r)) : RampRows accel decel u x r := by
  obtain ⟨side, fromZero, away, toward, through, rests⟩ := h
  simp only [neg_mul_neg, ne_eq, neg_eq_zero, Int.natAbs_neg] at *
  exact ⟨side, fromZero, away, toward, through, rests⟩

theorem RampNears.neg {r : Int} (h : RampNears accel decel (-u) (-x) (-r)) : RampNears accel decel u x r := by
  obtain ⟨side, before, limited, nearer, rests⟩ := h
  refine ⟨neg_mul_neg u r ▸ side, ?_, by omega, fun hn => ?_, fun hn => by omega⟩
  · calc 0 ≤ (-u - -x) * (-r - -x) := before
      _ = (u - x) * (r - x) := by ring
  · have := nearer (by omega)
    omega

/-- A law of the ramp that is the same on both sides of 0 holds where it holds at 0 and above. -/
theorem ramp_induction {law : Int → Int → Int → Prop} (neg : ∀ u x r, law (-u) (-x) (-r) → law u x r)
    (zero : ∀ x, 0 ≤ x → law 0 x (min x accel))
    (pos : ∀ u x, 0 < u → law u x (if u < x then min x (u + accel) else max (max x 0) (u - decel))) (u x : Int) :
    law u x (stageRamp accel decel u x) := by
  have atZero : ∀ x, 0 ≤ x → law 0 x (stageRamp accel decel 0 x) := fun x hx => by
    have low : capMagnitude x accel = min x accel := by
      unfold capMagnitude
      split <;> omega
    rw [stageRamp_zero, low]
    exact zero x hx
  have above : ∀ u x, 0 < u → law u x (stageRamp accel decel u x) := fun u x hu => stageRamp_pos hu ▸ pos u x hu
  rcases lt_trichotomy u 0 with hu | rfl | hu
  · exact neg _ _ _ (stageRamp_neg ▸ above (-u) (-x) (by omega))
  · rcases le_total 0 x with hx | hx
    · exact atZero x hx
    · exact neg _ _ _ (stageRamp_neg ▸ atZero (-x) (by omega))
  · exact above u x hu

theorem rampRows (u x : Int) : RampRows accel decel u x (stageRamp accel decel u x) := by
  refine ramp_induction (law := RampRows accel decel) (fun _ _ _ => .neg) (fun x hx => ?_) (fun u x hu => ?_) u x
  · exact ⟨by omega, fun _ => mul_nonneg hx (by omega), by omega, by omega, by omega, by omega⟩
  · have same : 0 < u * x ↔ 0 < x := mul_pos_iff_of_pos_left hu
    have meets : 0 ≤ u * x ↔ 0 ≤ x := mul_nonneg_iff_of_pos_left hu
    refine ⟨mul_nonneg hu.le (by split <;> omega), by omega, fun hs hl => ?_, fun hs hl => ?_, fun hs _ => ?_, by omega⟩
    · have := meets.1 hs
      rw [if_pos (by omega)]; omega
    · have := same.1 hs
      rw [if_neg (by omega)]; omega
    · have := mt same.2 (not_lt.2 hs)
      rw [if_neg (by omega)]; omega

theorem rampNears (ha : 0 < accel) (hd : 0 < decel) (u x : Int) :
    RampNears accel decel u x (stageRamp accel decel u x) := by
  refine ramp_induction (law := RampNears accel decel) (fun _ _ _ => .neg) (fun x hx => ?_) (fun u x hu => ?_) u x
  · exact ⟨by omega, mul_nonneg_of_nonpos_of_nonpos (by omega) (by omega), by omega, by omega, by omega⟩
  · refine ⟨mul_nonneg hu.le (by split <;> omega), ?_, by split <;> omega, by split <;> omega, by split <;> omega⟩
    split
    · exact mul_nonneg_of_nonpos_of_nonpos (by omega) (by omega)
    · exact mul_nonneg (by omega) (by omega)

/-- With no token held the ceiling stage lets nothing through (R85). -/
theorem beforeStall_of_none_held {s : State} (h : s.held = 0) (b : Bounds) (post : Int) : beforeStall s b post = 0 := by
  simp [beforeStall, ceilingFactor, h, applyFactor, scaleTrunc]

end

end Sys2Proof.Machine

open Sys2Proof Sys2Proof.Machine

/-- Settles O10: no act leaves HALTED, and every command but full reset is a chain of acts. -/
theorem onlyFullResetLeavesHalted : Obligations.OnlyFullResetLeavesHalted := by
  intro c s t hs hh hc h
  have g := exec_goes hc h
  have halted : HaltedBy s.startup.haltCause t := g.keeps (fun _ _ a => a.haltedBy) hs ⟨hh, rfl⟩
  have agrees : StartAgrees t := g.acts.startAgrees hs
  exact ⟨halted.1, halted.2, line_of_halted agrees halted.1⟩

/-- Settles O11. -/
theorem faultPinCarriesCause : Obligations.FaultPinCarriesCause := by
  refine ⟨fun s hs => ?_, fun cause hc => released_slots cause (by omega)⟩
  have same := onStartup_frame (begin s) fun u =>
    { u with faultCount := (u.faultCount / Config.pulseUnits + 1) * Config.pulseUnits % Config.codeUnits }
  refine ⟨_, (show exec .faultPinPulse s = execFaultPinPulse s from rfl).trans
    (congrArg Host.Outcome.next (if_pos hs)), ?_, ?_, rfl, ?_, same⟩
  · show (s.startup.faultCount / 10000 + 1) * 10000 % 200000 / 10000 = _
    omega
  · show (s.startup.faultCount / 10000 + 1) * 10000 % 200000 % 10000 = 0
    omega
  · exact faultPin_halted hs

/-- Settles O58, by the rows of the ramp above 0 and their mirror image below it. -/
theorem rampAndCeilingLimitMotion : Obligations.RampAndCeilingLimitMotion := by
  refine ⟨fun accel decel u x => ?rows, fun accel decel u x ha hd => ?nears, fun s b post h =>
    beforeStall_of_none_held h b post⟩
  case rows =>
    have h := rampRows (accel := accel) (decel := decel) u x
    exact ⟨h.side, h.fromZero, h.away, h.toward, h.through, h.rests⟩
  case nears =>
    have h := rampNears ha hd u x
    exact ⟨h.side, h.before, h.limited, h.nearer, h.rests⟩
end

section
/-! PROOFS. The cells of a bulletin and the payloads read back as written (TABLE 1-3, chapter 12). -/

namespace Sys2Proof.Machine

/-! ### Numbers as cells (R4, R192) -/

theorem natOf_append (a b : List Bool) : natOf (a ++ b) = natOf a * 2 ^ b.length + natOf b := by
  have from_acc : ∀ (b : List Bool) (n : Nat),
      b.foldl (fun acc b => 2 * acc + b.toNat) n = n * 2 ^ b.length + natOf b := by
    intro b
    induction b with
    | nil => simp [natOf]
    | cons x b ih =>
      intro n
      simp only [natOf, List.foldl_cons, List.length_cons, ih (2 * n + x.toNat), ih (2 * 0 + x.toNat)]
      ring
  rw [natOf, List.foldl_append, from_acc]
  rfl

theorem natOf_bitsOf (w n : Nat) : natOf (bitsOf w n) = n % 2 ^ w := by
  induction w with
  | zero => simp [bitsOf, natOf, Nat.mod_one]
  | succ w ih =>
    have head : natOf [n.testBit w] = n / 2 ^ w % 2 := by
      rw [← Nat.toNat_testBit]
      exact Nat.zero_add _
    rw [bitsOf, ← List.singleton_append, natOf_append, head, length_bitsOf, ih, Nat.pow_succ, Nat.mod_mul]
    ring

theorem ofNat_natOf_bitsOf {w : Nat} (x : BitVec w) : BitVec.ofNat w (natOf (bitsOf w x.toNat)) = x := by
  rw [natOf_bitsOf, Nat.mod_eq_of_lt x.isLt, BitVec.ofNat_toNat, BitVec.setWidth_eq]

theorem length_payload (ws : List Word) : (ws.flatMap fun w => bitsOf 16 w.toNat).length = 16 * ws.length := by
  rw [List.length_flatMap, List.map_congr_left fun w _ => length_bitsOf 16 w.toNat, List.map_const', List.sum_replicate,
    smul_eq_mul, Nat.mul_comm]

theorem wordsOfCells_flatMap (ws : List Word) (rest : List Bool) :
    wordsOfCells ws.length (ws.flatMap (fun w => bitsOf 16 w.toNat) ++ rest) = ws := by
  induction ws with
  | nil => rfl
  | cons w ws ih =>
    have hl := length_bitsOf 16 w.toNat
    rw [List.length_cons, wordsOfCells, List.flatMap_cons, List.append_assoc, List.take_left' hl, List.drop_left' hl,
      ih, ofNat_natOf_bitsOf]

/-- The cells the fields take. -/
def widths (fields : List (Nat × Nat)) : Nat := (fields.map Prod.fst).sum

/-- The cells of fields, each of a width and a value. -/
def cellsOf (fields : List (Nat × Nat)) : List Bool := fields.flatMap fun f => bitsOf f.1 f.2

theorem length_cellsOf (fields : List (Nat × Nat)) : (cellsOf fields).length = widths fields := by
  rw [cellsOf, widths, List.length_flatMap, List.map_congr_left fun f _ => length_bitsOf f.1 f.2]

/-- Field `i` of a list parts it. -/
theorem parted {fields : List (Nat × Nat)} {f : Nat × Nat} {i : Nat} (hi : fields[i]? = some f) :
    fields = fields.take i ++ f :: fields.drop (i + 1) := by
  obtain ⟨hl, hv⟩ := List.getElem?_eq_some_iff.1 hi
  rw [← hv, ← List.drop_eq_getElem_cons hl, List.take_append_drop]

/-- Field `i` of a row of cells reads back where it stands. -/
theorem natOf_cellsOf {fields : List (Nat × Nat)} {first rest : List Bool} {start w v : Nat} (i : Nat)
    (hi : fields[i]? = some (w, v)) (hs : first.length + widths (fields.take i) = start) :
    natOf (((first ++ cellsOf fields ++ rest).drop start).take w) = v % 2 ^ w := by
  have pre : (first ++ cellsOf (fields.take i)).length = start := by rw [List.length_append, length_cellsOf, hs]
  have parts : first ++ cellsOf fields ++ rest =
      (first ++ cellsOf (fields.take i)) ++ (bitsOf w v ++ (cellsOf (fields.drop (i + 1)) ++ rest)) := by
    conv_lhs => rw [parted hi]
    simp only [cellsOf, List.flatMap_append, List.flatMap_cons, List.append_assoc]
  rw [parts, List.drop_left' pre, List.take_left' (length_bitsOf w v), natOf_bitsOf]

/-- A field of a bulletin's cells reads back where it stands. -/
theorem ofNat_cellsOf {fields : List (Nat × Nat)} {first rest : List Bool} {start w : Nat} {x : BitVec w} (i : Nat)
    (hi : fields[i]? = some (w, x.toNat)) (hs : first.length + widths (fields.take i) = start) :
    BitVec.ofNat w (natOf (((first ++ cellsOf fields ++ rest).drop start).take w)) = x := by
  rw [natOf_cellsOf i hi hs, Nat.mod_eq_of_lt x.isLt, BitVec.ofNat_toNat, BitVec.setWidth_eq]

/-- The fields before the payload (TABLE 1-3). -/
def headFields (r : RawBulletin) : List (Nat × Nat) :=
  [(2, r.cls.toNat), (5, r.kind.toNat), (3, r.sender.toNat), (4, r.target.toNat), (3, r.count.toNat),
    (8, r.seq.toNat)]

theorem cells_eq (r : RawBulletin) : r.cells = [false] ++ cellsOf (headFields r)
    ++ (r.words.flatMap (fun w => bitsOf 16 w.toNat) ++ bitsOf 16 r.check.toNat) := by
  simp [RawBulletin.cells, RawBulletin.fieldBits, headFields, cellsOf]

/-! ### Packed words (R192) -/

/-- The number a word's fields make from bit `k` downward. -/
def packed : Nat → List (Nat × Nat) → Nat
  | _, [] => 0
  | k, (w, v) :: rest => v % 2 ^ w * 2 ^ (k - w) + packed (k - w) rest

theorem packWord_eq (fields : List (Nat × Nat)) : packWord fields = BitVec.ofNat 16 (packed 16 fields) := by
  have fold : ∀ (fields : List (Nat × Nat)) (k a : Nat), (fields.foldl (fun (acc : Nat × Nat) f =>
      (acc.1 - f.1, acc.2 + (f.2 % 2 ^ f.1) * 2 ^ (acc.1 - f.1))) (k, a)).2 = a + packed k fields := by
    intro fields
    induction fields with
    | nil => intros; rfl
    | cons f rest ih =>
      intro k a
      rw [List.foldl_cons, ih, packed, Nat.add_assoc]
  rw [packWord, fold, Nat.zero_add]

theorem packed_lt {k : Nat} {fields : List (Nat × Nat)} (h : widths fields ≤ k) : packed k fields < 2 ^ k := by
  induction fields generalizing k with
  | nil => exact Nat.two_pow_pos k
  | cons f rest ih =>
    obtain ⟨w, v⟩ := f
    simp only [widths, List.map_cons, List.sum_cons] at h
    have low := ih (k := k - w) (by simp only [widths]; omega)
    have high : v % 2 ^ w + 1 ≤ 2 ^ w := Nat.mod_lt _ (Nat.two_pow_pos w)
    calc packed k ((w, v) :: rest) < v % 2 ^ w * 2 ^ (k - w) + 2 ^ (k - w) := Nat.add_lt_add_left low _
      _ = (v % 2 ^ w + 1) * 2 ^ (k - w) := by ring
      _ ≤ 2 ^ w * 2 ^ (k - w) := Nat.mul_le_mul_right _ high
      _ = 2 ^ k := by rw [← Nat.pow_add]; congr 1; omega

theorem packed_field {k w v : Nat} {pre post : List (Nat × Nat)} (h : widths (pre ++ (w, v) :: post) ≤ k) :
    packed k (pre ++ (w, v) :: post) / 2 ^ (k - widths pre - w) % 2 ^ w = v % 2 ^ w := by
  induction pre generalizing k with
  | nil =>
    simp only [widths, List.nil_append, List.map_cons, List.sum_cons] at h
    have low : packed (k - w) post < 2 ^ (k - w) := packed_lt (by simp only [widths]; omega)
    simp only [List.nil_append, packed, widths, List.map_nil, List.sum_nil, Nat.sub_zero]
    rw [Nat.add_comm, Nat.add_mul_div_right _ _ (Nat.two_pow_pos _), Nat.div_eq_of_lt low, Nat.zero_add, Nat.mod_mod]
  | cons f pre ih =>
    obtain ⟨w', v'⟩ := f
    simp only [widths, List.cons_append, List.map_cons, List.sum_cons, List.map_append, List.sum_append] at h
    have rest := ih (k := k - w') (by simp only [widths, List.map_append, List.sum_append, List.map_cons, List.sum_cons]; omega)
    have at_ : k - widths ((w', v') :: pre) - w = k - w' - widths pre - w := by
      simp only [widths, List.map_cons, List.sum_cons]; omega
    have split : 2 ^ (k - w') = 2 ^ (widths pre) * 2 ^ w * 2 ^ (k - w' - widths pre - w) := by
      rw [← Nat.pow_add, ← Nat.pow_add]; congr 1; simp only [widths]; omega
    rw [List.cons_append, packed, at_, Nat.add_comm]
    have : v' % 2 ^ w' * 2 ^ (k - w') = v' % 2 ^ w' * 2 ^ (widths pre) * 2 ^ w * 2 ^ (k - w' - widths pre - w) := by
      rw [split]; ring
    rw [this, Nat.add_mul_div_right _ _ (Nat.two_pow_pos _), Nat.add_mul_mod_self_right, rest]

/-- Field `i` of a packed word reads back where it stands. -/
theorem wordField_packWord {fields : List (Nat × Nat)} {start w v : Nat} (i : Nat) (hi : fields[i]? = some (w, v))
    (hs : widths (fields.take i) = start) (h : decide (widths fields ≤ 16) = true) :
    wordField (packWord fields) start w = v % 2 ^ w := by
  have parts := parted hi
  have fits : widths (fields.take i ++ (w, v) :: fields.drop (i + 1)) ≤ 16 := parts ▸ of_decide_eq_true h
  have field := packed_field fits
  rw [← parts, hs] at field
  rw [wordField, packWord_eq, BitVec.toNat_ofNat, Nat.mod_eq_of_lt (packed_lt (of_decide_eq_true h)), field]

theorem wordField_of_lt {fields : List (Nat × Nat)} {start w v : Nat} (i : Nat) (hi : fields[i]? = some (w, v))
    (hs : widths (fields.take i) = start) (h : decide (widths fields ≤ 16) = true) (hv : v < 2 ^ w) :
    wordField (packWord fields) start w = v := (wordField_packWord i hi hs h).trans (Nat.mod_eq_of_lt hv)

theorem wordField_bool {fields : List (Nat × Nat)} {start : Nat} {b : Bool} (i : Nat)
    (hi : fields[i]? = some (1, b.toNat)) (hs : widths (fields.take i) = start)
    (h : decide (widths fields ≤ 16) = true) : (wordField (packWord fields) start 1 == 1) = b := by
  rw [wordField_of_lt i hi hs h (Bool.toNat_lt b)]
  cases b <;> rfl

theorem toInt_signedWord {n : Int} (h : -32768 ≤ n ∧ n ≤ 32767) : (signedWord n).toInt = n := by
  rw [signedWord, BitVec.toInt_ofInt]
  exact Int.bmod_eq_of_le (by omega) (by omega)

/-! ### Codes (TABLE 12-3) and stamps -/

theorem role_code_lt (r : Role) : r.code < 2 ^ 3 := by cases r <;> decide

theorem role_ofCode_code (r : Role) : Role.ofCode r.code = some r := by cases r <;> decide

theorem mode_code_lt (m : ReportedMode) : m.code < 2 ^ 2 := by cases m <;> decide

theorem reportedModeOfCode_code (m : ReportedMode) : reportedModeOfCode m.code = some m := by cases m <;> decide

theorem severityCode_lt (v : Option Severity) : severityCode v < 2 ^ 2 := by
  rcases v with _ | v
  · decide
  · cases v <;> decide

theorem severityOfCode_code (v : Option Severity) : severityOfCode (severityCode v) = v := by
  rcases v with _ | v
  · decide
  · cases v <;> decide

theorem alarmCode_number (c : AlarmCode) : c.number < 2 ^ 6 ∧ AlarmCode.ofNumber c.number = some c := by
  cases c <;> decide

theorem alarmState_code (a : AlarmState) : a.code < 2 ^ 2 ∧ alarmStateOfCode a.code = some a := by
  cases a <;> decide

/-- A detail reads back from its present mark and its four bits. -/
theorem detailOf_fields {d : Option Nat} {mark value : Nat} (h : d.all (· < 16) = true) (hm : mark = d.isSome.toNat)
    (hv : value = d.getD 0 % 2 ^ 4) : detailOf mark value = d := by
  rcases d with _ | n
  · simp [detailOf, hm]
  · have hn : n < 16 := by simpa using h
    simp [detailOf, hm, hv, Nat.mod_eq_of_lt hn]

theorem dword_words32 (n : DWord) : dword ((n >>> 16).setWidth 16) (n.setWidth 16) = n := by
  refine BitVec.eq_of_toNat_eq ?_
  have hn := n.isLt
  have low : n.toNat % 65536 < 2 ^ 16 := Nat.mod_lt _ (by decide)
  simp only [dword, BitVec.toNat_append, BitVec.toNat_setWidth, BitVec.toNat_ushiftRight, Nat.shiftRight_eq_div_pow]
  rw [← Nat.shiftLeft_add_eq_or_of_lt low, Nat.shiftLeft_eq]
  omega

theorem stampAt_words {t : Stamp} (h : t.offset < 65536) (w : Word) (rest : List Word) :
    stampAt (w :: (t.words ++ rest)) 1 = t := by
  have offset : (BitVec.ofNat 16 t.offset).toNat = t.offset := by
    rw [BitVec.toNat_ofNat, Nat.mod_eq_of_lt h]
  exact congrArg₂ Stamp.mk (dword_words32 t.cycle) offset

end Sys2Proof.Machine

open Sys2Proof Sys2Proof.Machine

/-- Settles O59: every field is read at the cells its bits stand in. -/
theorem bulletinCellsRoundTrip : Obligations.BulletinCellsRoundTrip := by
  intro r h
  have hlen : r.words.length = r.count.toNat := by simpa [RawBulletin.wf] using h
  have count : natOf ((r.cells.drop 15).take 3) = r.count.toNat := by
    have field : natOf ((r.cells.drop 15).take 3) = r.count.toNat % 2 ^ 3 := by
      rw [cells_eq]
      exact natOf_cellsOf 4 rfl rfl
    exact field.trans (Nat.mod_eq_of_lt r.count.isLt)
  have total : r.cells.length = 42 + 16 * natOf ((r.cells.drop 15).take 3) := by rw [length_cells, count, hlen]
  have payload : r.cells.drop 26 = r.words.flatMap (fun w => bitsOf 16 w.toNat) ++ bitsOf 16 r.check.toNat := by
    rw [cells_eq]
    exact List.drop_left' (by rw [List.length_append, length_cellsOf]; rfl)
  have check : (r.cells.drop (26 + 16 * r.count.toNat)).take 16 = bitsOf 16 r.check.toNat := by
    rw [← List.drop_drop, payload, List.drop_left' (by rw [length_payload, hlen])]
    exact List.take_of_length_le (length_bitsOf _ _).le
  have head : r.cells.head? = some false := rfl
  have cls : BitVec.ofNat 2 (natOf ((r.cells.drop 1).take 2)) = r.cls := by rw [cells_eq]; exact ofNat_cellsOf 0 rfl rfl
  have kind : BitVec.ofNat 5 (natOf ((r.cells.drop 3).take 5)) = r.kind := by rw [cells_eq]; exact ofNat_cellsOf 1 rfl rfl
  have sender : BitVec.ofNat 3 (natOf ((r.cells.drop 8).take 3)) = r.sender := by
    rw [cells_eq]; exact ofNat_cellsOf 2 rfl rfl
  have target : BitVec.ofNat 4 (natOf ((r.cells.drop 11).take 4)) = r.target := by
    rw [cells_eq]; exact ofNat_cellsOf 3 rfl rfl
  have seq : BitVec.ofNat 8 (natOf ((r.cells.drop 18).take 8)) = r.seq := by rw [cells_eq]; exact ofNat_cellsOf 5 rfl rfl
  have words : wordsOfCells r.count.toNat (r.cells.drop 26) = r.words := by rw [payload, ← hlen, wordsOfCells_flatMap]
  have counted : BitVec.ofNat 3 r.count.toNat = r.count := by rw [BitVec.ofNat_toNat, BitVec.setWidth_eq]
  have checked : BitVec.ofNat 16 (natOf ((r.cells.drop (26 + 16 * r.count.toNat)).take 16)) = r.check := by
    rw [check, ofNat_natOf_bitsOf]
  unfold RawBulletin.ofCells
  rw [if_pos ⟨head, total⟩]
  simp only [cls, kind, sender, target, seq, count, words, counted, checked]

/-- Settles O60: every field of a packed word, and every whole word, is read where it was written. -/
theorem payloadsRoundTrip : Obligations.PayloadsRoundTrip := by
  refine ⟨fun x hax hpos hlo hhi hown hspare hborrowed hlent => ?status, fun r hr => ?reference, fun c d t ht hd => ?trip,
    fun n r removed refresh ht hd => ?alarm⟩
  case status =>
    have axisLt : x.axis < 2 ^ 3 := hax.trans_lt (by cases x.role <;> decide)
    have role : wordField (payloadWord x.words 0) 0 3 = x.role.code := wordField_of_lt 0 rfl rfl rfl (role_code_lt _)
    have mode : wordField (payloadWord x.words 0) 3 2 = x.mode.code := wordField_of_lt 1 rfl rfl rfl (mode_code_lt _)
    have axis : wordField (payloadWord x.words 0) 5 3 = x.axis := wordField_of_lt 2 rfl rfl rfl axisLt
    have calibrated : (wordField (payloadWord x.words 0) 8 1 == 1) = x.calibrated := wordField_bool 3 rfl rfl rfl
    have brakeSet : (wordField (payloadWord x.words 0) 9 1 == 1) = x.brakeSet := wordField_bool 4 rfl rfl rfl
    have fresh : (wordField (payloadWord x.words 0) 10 1 == 1) = x.fresh := wordField_bool 5 rfl rfl rfl
    have severity : wordField (payloadWord x.words 0) 11 2 = severityCode x.severity :=
      wordField_of_lt 6 rfl rfl rfl (severityCode_lt _)
    have overflow : (wordField (payloadWord x.words 0) 13 1 == 1) = x.overflow := wordField_bool 7 rfl rfl rfl
    have position : (payloadWord x.words 1).toNat = x.position := Nat.mod_eq_of_lt hpos
    have speed : (payloadWord x.words 2).toInt = x.speed := toInt_signedWord (by omega)
    have own : wordField (payloadWord x.words 3) 0 7 = x.own := wordField_of_lt 0 rfl rfl rfl (by omega)
    have spare : wordField (payloadWord x.words 3) 7 7 = x.spare := wordField_of_lt 1 rfl rfl rfl (by omega)
    have borrowed : wordField (payloadWord x.words 4) 0 7 = x.borrowed := wordField_of_lt 0 rfl rfl rfl (by omega)
    have lent : wordField (payloadWord x.words 4) 7 7 = x.lent := wordField_of_lt 1 rfl rfl rfl (by omega)
    have read : StatusFields.read x.words = some x := by
      simp only [StatusFields.read, role, mode, role_ofCode_code, reportedModeOfCode_code, axis, calibrated, brakeSet,
        fresh, severity, severityOfCode_code, overflow, position, speed, own, spare, borrowed, lent]
      rfl
    have inRange : x.inRange = true := decide_eq_true ⟨hax, hlo, hhi, hown, hspare, hborrowed, hlent⟩
    rw [StatusFields.ofWords, read, Option.filter_some_pos inRange]
  case reference =>
    simp only [List.mem_cons, List.not_mem_nil, or_false, forall_eq_or_imp, forall_eq] at hr
    obtain ⟨hoist, drag, swing, walk⟩ := hr
    have validHoist : (wordField (payloadWord r.words 5) 0 1 == 1) = r.validHoist := wordField_bool 0 rfl rfl rfl
    have validDrag : (wordField (payloadWord r.words 5) 1 1 == 1) = r.validDrag := wordField_bool 1 rfl rfl rfl
    have validSwing : (wordField (payloadWord r.words 5) 2 1 == 1) = r.validSwing := wordField_bool 2 rfl rfl rfl
    have validWalk : (wordField (payloadWord r.words 5) 3 1 == 1) = r.validWalk := wordField_bool 3 rfl rfl rfl
    have walkMode : (wordField (payloadWord r.words 5) 4 1 == 1) = r.walkMode := wordField_bool 4 rfl rfl rfl
    have hoist' : (payloadWord r.words 1).toInt = r.hoist := toInt_signedWord hoist
    have drag' : (payloadWord r.words 2).toInt = r.drag := toInt_signedWord drag
    have swing' : (payloadWord r.words 3).toInt = r.swing := toInt_signedWord swing
    have walk' : (payloadWord r.words 4).toInt = r.walk := toInt_signedWord walk
    simp only [ReferenceFields.ofWords, validHoist, validDrag, validSwing, validWalk, walkMode, hoist', drag', swing',
      walk']
    rfl
  case trip =>
    obtain ⟨small, ofNumber⟩ := alarmCode_number c
    have code : wordField (payloadWord (tripWords c d t) 0) 0 6 = c.number := wordField_of_lt 0 rfl rfl rfl small
    have detail : detailOf (wordField (payloadWord (tripWords c d t) 0) 6 1)
        (wordField (payloadWord (tripWords c d t) 0) 7 4) = d :=
      detailOf_fields hd (wordField_of_lt 1 rfl rfl rfl (Bool.toNat_lt _)) (wordField_packWord 2 rfl rfl rfl)
    have stamp : stampAt (tripWords c d t) 1 = t := stampAt_words ht _ []
    simp only [tripOf, code, ofNumber, detail, stamp, Option.map_some]
  case alarm =>
    obtain ⟨small, ofNumber⟩ := alarmCode_number r.code
    have code : wordField (payloadWord (alarmWords r removed refresh) 0) 0 6 = r.code.number :=
      wordField_of_lt 0 rfl rfl rfl small
    have severity : wordField (payloadWord (alarmWords r removed refresh) 0) 6 2 = r.code.severity.code :=
      wordField_of_lt 1 rfl rfl rfl (severityCode_lt (some _))
    have state : alarmStateOfCode (wordField (payloadWord (alarmWords r removed refresh) 0) 8 2) =
        if removed then none else some r.state := by
      obtain ⟨stateLt, stateCode⟩ := alarmState_code r.state
      have field : wordField (payloadWord (alarmWords r removed refresh) 0) 8 2 =
          if removed then 3 else r.state.code :=
        wordField_of_lt 2 rfl rfl rfl (by split; exacts [by decide, stateLt])
      rw [field]
      cases removed
      · exact stateCode
      · rfl
    have refreshed : (wordField (payloadWord (alarmWords r removed refresh) 0) 10 1 == 1) = refresh :=
      wordField_bool 3 rfl rfl rfl
    have detail : detailOf (wordField (payloadWord (alarmWords r removed refresh) 0) 11 1)
        (wordField (payloadWord (alarmWords r removed refresh) 0) 12 4) = r.detail :=
      detailOf_fields hd (wordField_of_lt 4 rfl rfl rfl (Bool.toNat_lt _)) (wordField_packWord 5 rfl rfl rfl)
    have stamp : stampAt (alarmWords r removed refresh) 1 = r.raised := stampAt_words ht _ _
    simp only [mergeOf, code, ofNumber, severity, if_true, state, refreshed, detail, stamp]
end

section
/-! PROOFS. The settings block: the conditions of TABLE 11-2 from cause 4 on, and the two clamping passes (R186, R187,
TABLE 11-3). -/

namespace Sys2Proof.Machine

/-! ### The conditions of TABLE 11-2 -/

theorem duplicateRole_eq_false (l : List Nat) : duplicateRole l = false ↔ l.Pairwise fun a b => a = b → a = 0 := by
  induction l with
  | nil => simp [duplicateRole]
  | cons r rest ih =>
    rw [duplicateRole, Bool.or_eq_false_iff, ih, List.pairwise_cons]
    refine and_congr_left' ⟨fun h b hb heq => ?_, fun h => ?_⟩
    · subst heq
      simpa [hb] using h
    · by_cases hr : r = 0
      · simp [hr]
      · simpa [hr] using fun hm => hr (h r hm rfl)

/-- Cause 6 tests for a role given to two station numbers. -/
theorem duplicateRole_iff (block : List Byte) : duplicateRole ((List.range 8).map (roleByte block)) = true ↔
    ∃ j k, j < k ∧ k < 8 ∧ roleByte block j = roleByte block k ∧ roleByte block k ≠ 0 := by
  rw [← not_iff_not, Bool.not_eq_true, duplicateRole_eq_false, List.pairwise_iff_getElem]
  simp only [List.length_map, List.length_range, List.getElem_map, List.getElem_range]
  constructor
  · rintro h ⟨j, k, hjk, hk, heq, hne⟩
    exact hne (heq ▸ h j k (by omega) hk hjk heq)
  · intro h j k hj hk hjk heq
    by_contra hne
    exact h ⟨j, k, hjk, hk, heq, heq ▸ hne⟩

/-- The two conditions of cause 6. -/
theorem rolesFail_iff (block : List Byte) :
    (((List.range 8).map (roleByte block)).any (fun r => decide (5 < r))
      || duplicateRole ((List.range 8).map (roleByte block))) = true ↔
    (∃ k < 8, 5 < roleByte block k)
      ∨ ∃ j k, j < k ∧ k < 8 ∧ roleByte block j = roleByte block k ∧ roleByte block k ≠ 0 := by
  rw [Bool.or_eq_true, duplicateRole_iff]
  refine or_congr_left ?_
  simp

theorem exec_settingsImageComplete {s : State} (h : s.startup.state = .reading) (block : List Byte) :
    exec (.settingsImageComplete block) s = .next (imageComplete block (begin s)) :=
  congrArg Host.Outcome.next (if_pos (show (begin s).startup.state = .reading from h))

theorem imageComplete_some {block : List Byte} {s : State} {n : Nat} (h : settingsCause block s.station = some n) :
    imageComplete block s = halt n s := by rw [imageComplete, h]

theorem imageComplete_none {block : List Byte} {s : State} (h : settingsCause block s.station = none) :
    imageComplete block s = formImage block s := by rw [imageComplete, h]

/-- A role byte of 1 to 5 is a role. -/
theorem ofCode_of_le {n : Nat} (h : n ≤ 5) : ∃ r, Role.ofCode n = some r := by
  interval_cases n <;> exact ⟨_, rfl⟩

/-! ### The clamping passes (R187) -/

theorem clampNat_eq {lo hi : Nat} (h : lo ≤ hi) (x : Nat) : clampNat lo hi x = max lo (min hi x) := by
  unfold clampNat
  split
  · omega
  · split <;> omega

theorem block16_lt (block : List Byte) (k : Nat) : block16 block k < 65536 := by
  have a := (block.getD k 0).isLt
  have b := (block.getD (k + 1) 0).isLt
  unfold block16 blockByte
  omega

/-- The drive parameters after both passes (TABLE 5-1, TABLE 11-3). -/
theorem drive_clamped (d : DriveParams) : d.clampFixed.clampDependent =
    ⟨max 100 (min 2047 d.voltageSpan), max 100 (min 2047 d.currentSpan), max 1 (min 65535 d.countsPerCycle),
      max 10 (min 10000 d.ratedPower), max 1 (min 200 d.accel), max 1 (min 200 d.decel), min 200 d.creep,
      max 500 (min 1500 d.stallKnee), max (min 2000 d.stallLimit) (d.clampFixed.clampDependent.stallKnee + 50),
      max (max 1000 (min 2500 d.tripCurrent)) (min 2000 d.stallLimit), min 50 d.brakeDelay,
      max 5 (min 100 d.brakeCheck)⟩ := by
  simp only [DriveParams.clampDependent, DriveParams.clampFixed, clampNat_eq, Nat.reduceLeDiff]

/-- The swing parameters after the one pass (TABLE 8-1). -/
theorem swing_clamped (p : SwingParams) : p.clampFixed =
    ⟨max 3600 (min 4000000 p.countsPerRev), min 3599 p.markAngle, max 1 (min 200 p.markTolerance),
      min 3599 p.walkAngle, max 1 (min 300 p.walkWindow)⟩ := by
  simp only [SwingParams.clampFixed, clampNat_eq, Nat.reduceLeDiff]

theorem handles_clamped (hs : List HandleParams) : (hs.map fun h =>
      { centre := clampNat 1024 3072 h.centre, span := clampNat 200 2000 h.span, deadband := min 200 h.deadband }) =
    hs.map fun h => (⟨max 1024 (min 3072 h.centre), max 200 (min 2000 h.span), min 200 h.deadband⟩ : HandleParams) := by
  simp only [clampNat_eq, Nat.reduceLeDiff]

/-- The rope parameters after both passes, the limits and the role's own rows apart (TABLE 7-1). -/
theorem rope_clamped (p : RopeParams) (role : Role) (creep : Nat) :
    let r := (p.clampFixed role).clampDependent role creep
    r.countsPerMetre = max 100 (min 20000 p.countsPerMetre) ∧ r.stopMargin = max 10 (min 1000 p.stopMargin)
      ∧ r.zoneWidth = max 100 (min 10000 p.zoneWidth) ∧ r.refPosition = p.refPosition ∧ r.hardLimit = p.hardLimit
      ∧ r.loadZero = min 2047 p.loadZero ∧ r.loadSpan = max 100 (min 3695 p.loadSpan)
      ∧ r.slackThreshold = min 500 p.slackThreshold := by
  rw [← clampNat_eq (by decide), ← clampNat_eq (by decide), ← clampNat_eq (by decide), ← clampNat_eq (by decide)]
  by_cases h : role = .hoist
  · simp only [RopeParams.clampDependent, RopeParams.clampFixed, if_pos h]
    split <;> exact ⟨rfl, rfl, rfl, rfl, rfl, rfl, rfl, rfl⟩
  · simp only [RopeParams.clampDependent, RopeParams.clampFixed, if_neg h]
    split <;> exact ⟨rfl, rfl, rfl, rfl, rfl, rfl, rfl, rfl⟩

/-- The second pass on the position limits (TABLE 11-3). -/
theorem clampDependent_limits {q : RopeParams} (hq : q.limitOut < 65536) (role : Role) (creep : Nat) :
    let r := q.clampDependent role creep
    r.limitOut = min 65535 (max q.limitOut (q.limitIn + 2 * r.stopMargin))
      ∧ r.limitIn = if 65535 < q.limitIn + 2 * r.stopMargin then 65535 - 2 * r.stopMargin else q.limitIn := by
  by_cases h : 65535 < q.limitIn + 2 * q.stopMargin
  · have both : min 65535 (max q.limitOut (q.limitIn + 2 * q.stopMargin)) = 65535 := by omega
    by_cases hr : role = .hoist <;> simp [RopeParams.clampDependent, h, hr, both]
  · have both : min 65535 (max q.limitOut (q.limitIn + 2 * q.stopMargin)) = max q.limitOut (q.limitIn + 2 * q.stopMargin) := by
      omega
    by_cases hr : role = .hoist <;> simp [RopeParams.clampDependent, h, hr, both]

theorem clampFixed_limits (p : RopeParams) (role : Role) :
    (p.clampFixed role).limitOut = p.limitOut ∧ (p.clampFixed role).limitIn = min 60000 p.limitIn := by
  by_cases h : role = .hoist <;> simp [RopeParams.clampFixed, h]

/-- The position limits after both passes. -/
theorem ropeLimits_clamped {p : RopeParams} (hp : p.limitOut < 65536) (role : Role) (creep : Nat) :
    let r := (p.clampFixed role).clampDependent role creep
    r.limitOut = min 65535 (max p.limitOut (min 60000 p.limitIn + 2 * r.stopMargin))
      ∧ r.limitIn = if 65535 < min 60000 p.limitIn + 2 * r.stopMargin then 65535 - 2 * r.stopMargin
        else min 60000 p.limitIn := by
  obtain ⟨hout, hin⟩ := clampFixed_limits p role
  have second := clampDependent_limits (q := p.clampFixed role) (by rw [hout]; exact hp) role creep
  rw [hout, hin] at second
  exact second

/-- The second pass on the hoist's own rows. -/
theorem clampDependent_hoist (q : RopeParams) (creep : Nat) :
    (q.clampDependent .hoist creep).clearMark = q.clearMark
      ∧ (q.clampDependent .hoist creep).groundMark = max q.groundMark (q.clearMark + 1)
      ∧ (q.clampDependent .hoist creep).maxLoad = q.maxLoad := by
  by_cases h : 65535 < q.limitIn + 2 * q.stopMargin
  · simp [RopeParams.clampDependent, h]
  · simp [RopeParams.clampDependent, h]

/-- The second pass on the drag's own rows. -/
theorem clampDependent_drag (q : RopeParams) (creep : Nat) :
    (q.clampDependent .drag creep).tightLine = max q.tightLine creep
      ∧ (q.clampDependent .drag creep).yieldLimit = q.yieldLimit := by
  by_cases h : 65535 < q.limitIn + 2 * q.stopMargin
  · simp [RopeParams.clampDependent, h]
  · simp [RopeParams.clampDependent, h]

/-- The hoist's own rows of TABLE 7-1 after both passes. -/
theorem hoist_clamped (p : RopeParams) (creep : Nat) :
    let r := (p.clampFixed .hoist).clampDependent .hoist creep
    r.clearMark = min 65534 p.clearMark ∧ r.groundMark = max p.groundMark (r.clearMark + 1)
      ∧ r.maxLoad = max 500 (min 2000 p.maxLoad) := by
  obtain ⟨clear, ground, load⟩ := clampDependent_hoist (p.clampFixed .hoist) creep
  refine ⟨clear, ?_, load.trans (clampNat_eq (by decide) _)⟩
  rw [clear]
  exact ground

/-- The drag's own rows of TABLE 7-1 after both passes. -/
theorem drag_clamped (p : RopeParams) (creep : Nat) :
    let r := (p.clampFixed .drag).clampDependent .drag creep
    r.tightLine = max (min 1000 p.tightLine) creep ∧ r.yieldLimit = max 20 (min 1000 p.yieldLimit) := by
  obtain ⟨tight, limit⟩ := clampDependent_drag (p.clampFixed .drag) creep
  exact ⟨tight, limit.trans (clampNat_eq (by decide) _)⟩

theorem limitOut_lt (block : List Byte) (role : Role) : (paramsOf block role).rope.limitOut < 65536 := by
  cases role with
  | hoist => exact block16_lt _ _
  | drag => exact block16_lt _ _
  | none => show (0 : Nat) < 65536; decide
  | cab => show (0 : Nat) < 65536; decide
  | swing => show (0 : Nat) < 65536; decide
  | walk => show (0 : Nat) < 65536; decide

end Sys2Proof.Machine

open Sys2Proof Sys2Proof.Machine

/-- Settles O7: the first condition that fails halts with its cause, and a block that meets them all forms the image of
both clamping passes. -/
theorem settingsBlockTestedInOrder : Obligations.SettingsBlockTestedInOrder := by
  intro block s hs
  refine ⟨_, exec_settingsImageComplete hs block, ?_⟩
  have halts : ∀ n, settingsCause block s.station = some n →
      (imageComplete block (begin s)).startup.state = .halted
        ∧ (imageComplete block (begin s)).startup.haltCause = n := by
    intro n h
    rw [imageComplete_some (s := begin s) h]
    exact ⟨rfl, rfl⟩
  refine ⟨fun h4 => halts 4 (if_pos h4), fun h4 h5 => halts 5 ((if_neg h4).trans (if_pos h5)),
    fun h4 h5 h6 => halts 6 ((if_neg h4).trans ((if_neg h5).trans (if_pos ((rolesFail_iff block).2 h6)))),
    fun h4 h5 h6 h7 => halts 7 ((if_neg h4).trans ((if_neg h5).trans
      ((if_neg (mt (rolesFail_iff block).1 h6)).trans (if_pos h7)))),
    fun h4 h5 h6 h7 h8 => halts 8 ((if_neg h4).trans ((if_neg h5).trans
      ((if_neg (mt (rolesFail_iff block).1 h6)).trans ((if_neg h7).trans (if_pos h8))))),
    fun h4 h5 h6 h7 h8 => ?formed⟩
  have none : settingsCause block s.station = none := (if_neg h4).trans ((if_neg h5).trans
    ((if_neg (mt (rolesFail_iff block).1 h6)).trans ((if_neg h7).trans (if_neg h8))))
  have station : roleByte block s.station ≤ 5 := by
    by_contra h
    exact h6 (.inl ⟨s.station, station_lt s, by omega⟩)
  obtain ⟨role, hrole⟩ := ofCode_of_le station
  rw [imageComplete_none (s := begin s) none]
  have image : (formImage block (begin s)).startup.settings = (rawSettings block role).clamp role := by
    show imageOf block s.station = _
    rw [imageOf, hrole, Option.getD_some]
  have clamped : (formImage block (begin s)).startup.clamped =
      decide ((formImage block (begin s)).startup.settings ≠ rawSettings block role) := by
    refine Bool.eq_iff_iff.2 ?_
    rw [decide_eq_true_iff, image, formImage_startup, ← bne_iff_ne, imageOf]
    rw [show (begin s).station = s.station from rfl, hrole, Option.getD_some]
  refine ⟨rfl, rfl, rfl, rfl, role, hrole, clamped, ?_⟩
  rw [image]
  refine ⟨rfl, clampNat_eq (by decide) _, rfl, clampNat_eq (by decide) _, clampNat_eq (by decide) _,
    clampNat_eq (by decide) _, clampNat_eq (by decide) _, clampNat_eq (by decide) _, clampNat_eq (by decide) _,
    rfl, clampNat_eq (by decide) _, rfl, rfl, drive_clamped _, rfl, rfl, rfl, rfl, rfl, fun hc => ?cab, fun hr => ?rope,
    fun hw => ?swing, fun hw => ?walk⟩
  case cab =>
    subst hc
    exact ⟨congrArg (min · _) (clampNat_eq (by decide) _), handles_clamped _⟩
  case rope =>
    obtain ⟨counts, margin, zone, ref, limit, zero, span, slack⟩ := rope_clamped (paramsOf block role).rope role
      (min 200 (paramsOf block role).drive.creep)
    obtain ⟨out, into⟩ := ropeLimits_clamped (limitOut_lt block role) role (min 200 (paramsOf block role).drive.creep)
    have own : role = .hoist ∨ role = .drag := by simpa [Role.isRope] using hr
    rcases own with rfl | rfl
    · exact ⟨counts, margin, zone, ref, limit, zero, span, slack, out, into, fun _ =>
        hoist_clamped _ (min 200 (paramsOf block .hoist).drive.creep),
        fun h => (nomatch h)⟩
    · exact ⟨counts, margin, zone, ref, limit, zero, span, slack, out, into, fun h => (nomatch h),
        fun _ => drag_clamped _ (min 200 (paramsOf block .drag).drive.creep)⟩
  case swing =>
    subst hw
    exact swing_clamped _
  case walk =>
    subst hw
    exact ⟨rfl, rfl, clampNat_eq (by decide) _, clampNat_eq (by decide) _, clampNat_eq (by decide) _, rfl,
      clampNat_eq (by decide) _⟩
end

section
/-! PROOFS. The status point, and what a placement comes to (R16, R28, R46). -/

namespace Sys2Proof.Machine

/-! ### The elders of a STATUS, REFERENCE or PACE (R16, step 3) -/

theorem isReplacing_iff (k : Kind) : isReplacing k = true ↔ k = .status ∨ k = .reference ∨ k = .pace := by
  cases k <;> decide

theorem replaceElders_eldersReplaced (k : Kind) (s : State) :
    (replaceElders k s).line.queue = eldersReplaced k s.line.queue := by
  have stays : ∀ e : Entry, (!(e.kind == k && !e.inFlight)) = decide (e.kind ≠ k ∨ e.inFlight = true) := fun e => by
    by_cases h : e.kind = k <;> simp [h]
  simp only [replaceElders_queue, eldersReplaced, isReplacing_iff, stays, beq_iff_eq]

/-- The counter of replaced entries goes up by 1 where a WAITING elder is removed (R16, step 3). -/
theorem replaceElders_counters {k : Kind} (hk : isReplacing k = true) (s : State) :
    (replaceElders k s).line.counters = if ∃ x ∈ s.line.queue, x.kind = k ∧ x.inFlight = false then
      (countReplaced k s).line.counters else s.line.counters := by
  have some_ : 0 < (s.line.queue.filter fun e => e.kind == k && !e.inFlight).length ↔
      ∃ x ∈ s.line.queue, x.kind = k ∧ x.inFlight = false := by
    simp [List.length_pos_iff_exists_mem]
  unfold replaceElders replaceOlder; dsimp only
  simp only [if_pos hk, some_]
  split
  · unfold countReplaced
    split <;> rfl
  · rfl

/-- The counters of the entries that a newer bulletin replaces stand through the admission itself. -/
theorem admitGeneral_counts (e : Entry) (s : State) :
    (admitGeneral e s).1.line.counters.expired = s.line.counters.expired
      ∧ (admitGeneral e s).1.line.counters.statusSuperseded = s.line.counters.statusSuperseded := by
  rcases admitGeneral_cases e s with ⟨-, h⟩ | ⟨-, k, x, -, h⟩ | ⟨-, h⟩ <;> rw [h] <;> exact ⟨rfl, rfl⟩

/-- Where a newer bulletin replaces its elders and the reserved entry is not in question (R16, steps 3 to 5). -/
theorem enqueue_replacing {e : Entry} {s : State} (ha : s.line.state = .active) (hk : isReplacing e.kind = true) :
    enqueue e s = admitGeneral e.ranked (replaceElders e.kind s) :=
  enqueue_general ha (.inl fun h => by rw [h] at hk; cases hk)

/-- A free general entry is taken (R16, step 4). -/
theorem enqueue_space {e : Entry} {s : State} (ha : s.line.state = .active)
    (hr : e.kind ≠ .trip ∨ ∃ x ∈ s.line.queue, x.reserved = true)
    (hs : (generalEntries (eldersReplaced e.kind s.line.queue)).length < 8) :
    (enqueue e s).2 = .admitted ∧ (enqueue e s).1.line.queue = standIn e.ranked (eldersReplaced e.kind s.line.queue) := by
  rw [enqueue_general ha hr, admitGeneral_space (by rw [hasSpace, replaceElders_eldersReplaced]; exact hs)]
  exact ⟨rfl, congrArg (standIn e.ranked) (replaceElders_eldersReplaced _ _)⟩

/-- The queue after the elders are replaced has no free general entry. -/
theorem not_hasSpace_replaceElders {k : Kind} {s : State}
    (h : 8 ≤ (generalEntries (eldersReplaced k s.line.queue)).length) : ¬ hasSpace (replaceElders k s) := by
  rw [hasSpace, replaceElders_eldersReplaced]
  exact h.not_gt

theorem replaceElders_evicted (k : Kind) (s : State) :
    (replaceElders k s).line.counters.evicted = s.line.counters.evicted
      ∧ (replaceElders k s).line.counters.refused = s.line.counters.refused := by
  by_cases hk : isReplacing k = true
  · rw [replaceElders_counters hk]
    unfold countReplaced
    split
    · split <;> exact ⟨rfl, rfl⟩
    · exact ⟨rfl, rfl⟩
  · unfold replaceElders
    rw [if_neg hk]
    exact ⟨rfl, rfl⟩

/-- A full queue gives up the entry that gives way (R16, step 5). -/
theorem enqueue_evicts {e x : Entry} {k : Nat} {s : State} (ha : s.line.state = .active)
    (hr : e.kind ≠ .trip ∨ ∃ x ∈ s.line.queue, x.reserved = true)
    (hs : 8 ≤ (generalEntries (eldersReplaced e.kind s.line.queue)).length)
    (hx : GivesWay e.kind.cls (eldersReplaced e.kind s.line.queue) k x) :
    (enqueue e s).2 = .evicted x
      ∧ (enqueue e s).1.line.queue = standIn e.ranked ((eldersReplaced e.kind s.line.queue).eraseIdx k)
      ∧ (enqueue e s).1.line.counters.evicted = bump s.line.counters.evicted := by
  rw [← replaceElders_eldersReplaced] at hx
  rw [enqueue_general ha hr, admitGeneral_evicts (e := e.ranked) (not_hasSpace_replaceElders hs) hx,
    ← replaceElders_eldersReplaced, ← (replaceElders_evicted e.kind s).1]
  exact ⟨rfl, rfl, rfl⟩

/-- Where no entry gives way a full queue refuses (R16, step 5). -/
theorem enqueue_refuses {e : Entry} {s : State} (ha : s.line.state = .active)
    (hr : e.kind ≠ .trip ∨ ∃ x ∈ s.line.queue, x.reserved = true)
    (hs : 8 ≤ (generalEntries (eldersReplaced e.kind s.line.queue)).length)
    (hx : ∀ x ∈ eldersReplaced e.kind s.line.queue, x.inFlight = false → x.reserved = false → x.kind.cls ≤ e.kind.cls) :
    (enqueue e s).2 = .refused ∧ (enqueue e s).1.line.queue = eldersReplaced e.kind s.line.queue
      ∧ (enqueue e s).1.line.counters.refused = bump s.line.counters.refused := by
  rw [← replaceElders_eldersReplaced] at hx
  rw [enqueue_general ha hr, admitGeneral_refuses (e := e.ranked) (not_hasSpace_replaceElders hs) hx,
    ← replaceElders_eldersReplaced, ← (replaceElders_evicted e.kind s).2]
  exact ⟨rfl, rfl, rfl⟩

/-- A REFERENCE placed counts the WAITING one it replaces as expired (R16). -/
theorem enqueue_reference_expired {e : Entry} {s : State} (ha : s.line.state = .active) (hk : e.kind = .reference) :
    (enqueue e s).1.line.counters.expired = if ∃ x ∈ s.line.queue, x.kind = .reference ∧ x.inFlight = false then
      bump s.line.counters.expired else s.line.counters.expired := by
  have hi : isReplacing e.kind = true := by rw [hk]; rfl
  rw [enqueue_replacing ha hi, (admitGeneral_counts _ _).1, replaceElders_counters hi, hk]
  split <;> rfl

/-- A STATUS placed counts the WAITING one it replaces as superseded (R16). -/
theorem enqueue_status_superseded {e : Entry} {s : State} (ha : s.line.state = .active) (hk : e.kind = .status) :
    (enqueue e s).1.line.counters.statusSuperseded =
      if ∃ x ∈ s.line.queue, x.kind = .status ∧ x.inFlight = false then
        bump s.line.counters.statusSuperseded else s.line.counters.statusSuperseded := by
  have hi : isReplacing e.kind = true := by rw [hk]; rfl
  rw [enqueue_replacing ha hi, (admitGeneral_counts _ _).2, replaceElders_counters hi, hk]
  split <;> rfl

/-! ### The status point (R28, R46) -/

/-- The number a new sequence number gives the bulletin that is being sent (R5, R13). -/
def reSequenced (seq : Byte) (l : LineUnit) : Byte :=
  if 0 < l.arbitration ∧ (l.loopback || (flight l.queue).any fun e => e.kind != .status) then seq else l.txSeq

theorem reSequence_eq (seq : Byte) (s : State) :
    reSequence seq s = s.onLine fun l => { l with txSeq := reSequenced seq s.line } := by
  unfold reSequence reSequenced
  split <;> rfl

/-- The line unit at the status point, before the STATUS is placed. -/
def statusLine (s : State) : LineUnit :=
  let l := { s.line with arbitration := s.line.arbitration - (s.statusOffset - s.time.offset) }
  { l with txSeq := reSequenced (s.picture.seq + 1) l }

/-- The state a STATUS is placed in. -/
def statusState (s : State) : State :=
  { s with line := statusLine s, picture := { s.picture with seq := s.picture.seq + 1 },
           time := { s.time with offset := s.statusOffset, statusDone := true } }

/-- The STATUS of a status point (R46). -/
def statusEntry (s : State) : Entry :=
  { kind := .status, target := Config.broadcast, words := s.statusFields.words, seq := s.picture.seq + 1 }

theorem statusPointNow_eq {s : State} (hj : s.joined = true) (hr : s.time.running = true)
    (hd : s.time.statusDone = false) : statusPointNow s = place (statusEntry s) (statusState s) := by
  have hc : (s.time.running && !s.time.statusDone) = true := by rw [hr, hd]; rfl
  have hj' : ((elapse (s.statusOffset - s.time.offset) s).onTime fun t =>
    { t with offset := s.statusOffset, statusDone := true }).joined = true := hj
  rw [statusPointNow, if_pos hc, composeStatus, if_pos hj']
  dsimp only
  rw [reSequence_eq]
  rfl

theorem statusPointNow_done {s : State} (hd : s.time.statusDone = true) : statusPointNow s = s := by
  rw [statusPointNow, if_neg (by simp [hd])]

/-- A placement leaves what of the line unit is neither the queue nor a counter. -/
theorem place_txSeq (e : Entry) (s : State) : (place e s).line.txSeq = s.line.txSeq := by
  obtain ⟨q, c, h⟩ := queueOnly_enqueue e s
  rw [place, h]
  rfl

theorem flight_begin_any (s : State) (p : Entry → Bool) (hp : ∀ e n, p { e with rank := n } = p e) :
    (flight (begin s).line.queue).any p = (flight s.line.queue).any p := by
  have hcomp : ((fun x : Entry => x.inFlight) ∘ fun x : Entry => { x with rank := 0 }) = fun x => x.inFlight := rfl
  rw [begin_queue, flight, List.find?_map, hcomp, flight]
  cases s.line.queue.find? fun x => x.inFlight with
  | none => rfl
  | some e => exact hp e 0

/-- Once an instant has begun no entry has a rank, and replacing elders gives none. -/
theorem rank_of_elders {k : Kind} {q : List Entry} {x : Entry} (h : ∀ x ∈ q, x.rank = 0) (hx : x ∈ eldersReplaced k q) :
    x.rank = 0 := by
  unfold eldersReplaced at hx
  split at hx
  · obtain ⟨y, hy, rfl⟩ := List.mem_map.1 hx
    have := h y (List.mem_filter.1 hy).1
    split <;> exact this
  · exact h x hx

theorem rank_of_mem_begin (s : State) : ∀ x ∈ (begin s).line.queue, x.rank = 0 := fun _ hx =>
  rank_of_mem_taken (s := s) hx

theorem length_general_elders (k : Kind) (q : List Entry) :
    (generalEntries (eldersReplaced k q)).length ≤ (generalEntries q).length := by
  unfold eldersReplaced generalEntries
  split
  · rw [List.filter_map, List.length_map]
    have same : ((fun e : Entry => !e.reserved) ∘ fun e : Entry => if e.kind = k then { e with due := some .replaced } else e)
        = fun e => !e.reserved := by
      funext e
      simp only [Function.comp_apply]
      split <;> rfl
    rw [same]
    exact (List.filter_sublist.filter _).length_le
  · exact le_rfl

end Sys2Proof.Machine

open Sys2Proof Sys2Proof.Machine

/-- Settles O14: the status point draws a number and places `statusEntry`; a placement is one of the cases of R16. -/
theorem statusPointPlacesStatus : Obligations.StatusPointPlacesStatus := by
  refine ⟨fun s hj hr => ⟨fun hd => ?again, fun hd => ?draws⟩, fun e s ha hres => ?placement⟩
  case again => exact congrArg Host.Outcome.next (statusPointNow_done (s := begin s) hd)
  case draws =>
    have eq : statusPointNow (begin s) = place (statusEntry (begin s)) (statusState (begin s)) :=
      statusPointNow_eq hj hr hd
    have frame := place_frame (statusEntry (begin s)) (statusState (begin s))
    have picture := frame.1 .picture (by decide)
    have time := frame.1 .time (by decide)
    refine ⟨_, congrArg Host.Outcome.next eq, congrArg Picture.seq picture, (congrArg Picture.peers picture :),
      congrArg LineTime.statusDone time, congrArg LineTime.offset time, eq ▸ statusPointNow_frame (begin s),
      fun ha hs => ?queue, fun ha => ?superseded, fun ha => ?refused, fun harb hsent => ?redrawn, fun harb => ?kept⟩
    case queue =>
      have space : (generalEntries (eldersReplaced .status (begin s).line.queue)).length < 8 :=
        (length_general_elders _ _).trans_lt ((hasSpace_taken s).2 hs)
      have placed := (enqueue_space (e := statusEntry (begin s)) (s := statusState (begin s)) ha
        (.inl fun h => (nomatch h)) space).2
      exact placed.trans (standIn_eq_append fun x hx => by rw [rank_of_elders (rank_of_mem_begin s) hx]; exact Nat.zero_le _)
    case superseded =>
      have placed := enqueue_status_superseded (e := statusEntry (begin s)) (s := statusState (begin s)) ha rfl
      have elder : (∃ x ∈ (begin s).line.queue, x.kind = .status ∧ x.inFlight = false) ↔
          ∃ x ∈ s.line.queue, x.kind = .status ∧ x.inFlight = false := by
        rw [begin_queue]
        simp only [List.mem_map, exists_exists_and_eq_and]
      exact placed.trans (if_congr elder rfl rfl)
    case refused =>
      rw [place, enqueue_refused (s := statusState (begin s)) ha]
      exact ⟨rfl, rfl⟩
    case redrawn =>
      rw [place_txSeq]
      have left : 0 < s.line.arbitration - (s.statusOffset - s.time.offset) := by omega
      have sends : (s.line.loopback || (flight (begin s).line.queue).any fun e => e.kind != .status) = true := by
        rw [flight_begin_any s _ fun _ _ => rfl, Bool.or_eq_true]
        refine hsent.imp_right fun ⟨e, he, hk⟩ => ?_
        rw [he]
        simpa using hk
      exact if_pos ⟨left, sends⟩
    case kept =>
      rw [place_txSeq]
      exact if_neg fun h => by
        have : 0 < s.line.arbitration - (s.statusOffset - s.time.offset) := h.1
        omega
  case placement =>
    have general : ¬ (e.kind = .trip ∧ ∀ x ∈ s.line.queue, x.reserved = false) →
        e.kind ≠ .trip ∨ ∃ x ∈ s.line.queue, x.reserved = true := fun hr => by
      by_contra hno
      push Not at hno
      exact hr ⟨hno.1, fun x hx => by simpa using hno.2 x hx⟩
    refine ⟨enqueue_frame e s, fun ⟨hk, hfree⟩ => ?reserved, fun hr hs => ?space, fun hr hs => ⟨fun k x hx => ?evicts,
      fun hx => enqueue_refuses ha (general hr) hs hx⟩, fun hk => enqueue_reference_expired ha hk⟩
    case reserved =>
      rw [enqueue_reserved ha hk hfree]
      exact ⟨rfl, oneMore_standIn _ _⟩
    case space =>
      obtain ⟨hin, hq⟩ := enqueue_space ha (general hr) hs
      exact ⟨hin, hq ▸ oneMore_standIn _ _⟩
    case evicts =>
      obtain ⟨hout, hq, hc⟩ := enqueue_evicts ha (general hr) hs hx
      exact ⟨hout, hq ▸ oneMore_standIn _ _, hc⟩
end

section
/-! PROOFS. What a raise and a clear do to the station alarm list (R166 to R168). -/

namespace Sys2Proof.Machine

section
variable {c : AlarmCode} {d : Option Nat} {s : State} {l : List AlarmRecord}

/-- The record of a first raise (R166). -/
def freshRecord (c : AlarmCode) (d : Option Nat) (t : Stamp) : AlarmRecord := ⟨c, d, t, .activeUnack, 0⟩

theorem find?_absent (h : ∀ r ∈ l, r.key ≠ (c, d)) : l.find? (isRecord c d) = none :=
  List.find?_eq_none.2 fun x hx hi => h x hx (isRecord_iff.1 hi)

/-- In a list with no key twice the record of a key is the one found. -/
theorem find?_present {r : AlarmRecord} (hn : (l.map AlarmRecord.key).Nodup) (hr : r ∈ l) (hk : r.key = (c, d)) :
    l.find? (isRecord c d) = some r := by
  cases hf : l.find? (isRecord c d) with
  | none => exact absurd hk (find?_none_key hf r hr)
  | some x =>
    have hx := isRecord_iff.1 (List.find?_some hf)
    rw [eq_of_key hn hr (List.mem_of_find?_eq_some hf) (hk.trans hx.symm)]

/-- A record put in the place of the one of its key is put in the place of that one alone. -/
theorem map_present {r : AlarmRecord} (hn : (l.map AlarmRecord.key).Nodup) (hr : r ∈ l) (hk : r.key = (c, d))
    (g : AlarmRecord → AlarmRecord) :
    (l.map fun x => if isRecord c d x then g r else x) = l.map fun x => if x.key = (c, d) then g x else x := by
  refine List.map_congr_left fun x hx => ?_
  by_cases hi : x.key = (c, d)
  · rw [if_pos (isRecord_iff.2 hi), if_pos hi, eq_of_key hn hx hr (hi.trans hk.symm)]
  · rw [if_neg (mt isRecord_iff.1 hi), if_neg hi]

theorem filter_others (c : AlarmCode) (d : Option Nat) (l : List AlarmRecord) :
    (l.filter fun x => !isRecord c d x) = l.filter fun x => x.key ≠ (c, d) :=
  List.filter_congr fun x _ => by
    by_cases hi : x.key = (c, d)
    · simp [hi, isRecord_iff.2 hi]
    · simp [hi, mt isRecord_iff.1 hi]

/-! ### A raise (R166, R167) -/

theorem raiseRecord_idle (hj : s.joined = false) : raiseRecord c d s = (s, .ignored) := by
  simp [raiseRecord, hj]

/-- A code without a record forms one. -/
theorem raiseRecord_absent (hj : s.joined = true) (hf : s.alarms.list.find? (isRecord c d) = none) :
    raiseRecord c d s = enterRecord (freshRecord c d s.now) s := by
  simp only [raiseRecord, hj, Bool.not_true, Bool.false_eq_true, if_false, hf]
  rfl

theorem enterRecord_room {r : AlarmRecord} (h : s.alarms.list.length < Config.alarmListSize) :
    enterRecord r s = (reportAlarm r false false (setAlarmList (alarmInsert r s.alarms.list) s), .fresh) := by
  rw [enterRecord, if_pos h]

theorem enterRecord_evicts {r : AlarmRecord} {k : Nat} (h : ¬ s.alarms.list.length < Config.alarmListSize)
    (hv : alarmVictim r.code.severity s.alarms.list = some k) : enterRecord r s =
      (reportAlarm r false false (setAlarmList (alarmInsert r (s.alarms.list.eraseIdx k))
        (reportAlarm (s.alarms.list.getD k r) true false (setAlarmList (s.alarms.list.eraseIdx k) s))), .fresh) := by
  simp only [enterRecord, if_neg h, hv]

theorem enterRecord_lost {r : AlarmRecord} (h : ¬ s.alarms.list.length < Config.alarmListSize)
    (hv : alarmVictim r.code.severity s.alarms.list = none) : enterRecord r s =
      (s.onAlarms fun a => { a with lost := bump a.lost, overflow := true }, .lost) := by
  simp only [enterRecord, if_neg h, hv]

/-- An active record counts the raise. -/
theorem raiseRecord_again {r : AlarmRecord} (hj : s.joined = true)
    (hf : s.alarms.list.find? (isRecord c d) = some r) (hr : r.state ≠ .clearedUnack) : raiseRecord c d s =
      (reportAlarm { r with repeats := bump8 r.repeats } false false (setAlarmList (s.alarms.list.map fun x =>
        if isRecord c d x then { r with repeats := bump8 r.repeats } else x) s), .again) := by
  simp only [raiseRecord, hj, Bool.not_true, Bool.false_eq_true, if_false, hf, if_neg hr]

/-- A cleared record occurs anew. -/
theorem raiseRecord_anew {r : AlarmRecord} (hj : s.joined = true)
    (hf : s.alarms.list.find? (isRecord c d) = some r) (hr : r.state = .clearedUnack) : raiseRecord c d s =
      (reportAlarm { r with repeats := bump8 r.repeats, state := .activeUnack, raised := s.now } false false
        (setAlarmList (alarmInsert { r with repeats := bump8 r.repeats, state := .activeUnack, raised := s.now }
          (s.alarms.list.filter fun x => !isRecord c d x)) s), .fresh) := by
  simp only [raiseRecord, hj, Bool.not_true, Bool.false_eq_true, if_false, hf, if_pos hr]

/-- A report leaves the alarm unit's count of lost raises. -/
theorem report_lost (r : AlarmRecord) (a b : Bool) (l : List AlarmRecord) (s : State) :
    (reportAlarm r a b (setAlarmList l s)).alarms.lost = s.alarms.lost := by rw [reportAlarm_alarms]; rfl

/-- A raise at a joined station: its record stands active, or a full list has lost the raise (R166, R167). -/
theorem raiseRecord_stands (c : AlarmCode) (d : Option Nat) (hj : s.joined = true) :
    (∃ r ∈ (raiseRecord c d s).1.alarms.list, r.key = (c, d) ∧ r.state ≠ .clearedUnack)
      ∨ (Config.alarmListSize ≤ s.alarms.list.length ∧ alarmVictim c.severity s.alarms.list = none
        ∧ (raiseRecord c d s).1.alarms.lost = bump s.alarms.lost) := by
  cases hf : s.alarms.list.find? (isRecord c d) with
  | none =>
    rw [raiseRecord_absent hj hf]
    by_cases hl : s.alarms.list.length < Config.alarmListSize
    · rw [enterRecord_room hl, report_list]
      exact .inl ⟨_, mem_alarmInsert.2 (.inl rfl), rfl, fun h => (nomatch h)⟩
    · cases hv : alarmVictim c.severity s.alarms.list with
      | some k =>
        rw [enterRecord_evicts hl hv, report_list]
        exact .inl ⟨_, mem_alarmInsert.2 (.inl rfl), rfl, fun h => (nomatch h)⟩
      | none =>
        rw [enterRecord_lost hl hv]
        exact .inr ⟨Nat.le_of_not_lt hl, rfl, rfl⟩
  | some r =>
    have hr := List.mem_of_find?_eq_some hf
    have hi := List.find?_some hf
    by_cases hc : r.state = .clearedUnack
    · rw [raiseRecord_anew hj hf hc, report_list]
      exact .inl ⟨_, mem_alarmInsert.2 (.inl rfl), isRecord_iff.1 hi, fun h => (nomatch h)⟩
    · rw [raiseRecord_again hj hf hc, report_list]
      exact .inl ⟨_, List.mem_map.2 ⟨r, hr, if_pos hi⟩, isRecord_iff.1 hi, hc⟩

/-- The oldest cleared record gives way first (R167). -/
theorem alarmVictim_cleared {v : Severity} {k : Nat} (h : l.findIdx? (fun r => r.state = .clearedUnack) = some k) :
    alarmVictim v l = some k := by
  simp only [alarmVictim, beq_eq_decide, h]

theorem findIdx?_cleared_none (h : ∀ r ∈ l, ¬ r.state = .clearedUnack) :
    l.findIdx? (fun r => r.state == .clearedUnack) = none := List.findIdx?_eq_none_iff.2 fun r hr => by simpa using h r hr

/-- Failing that, to a STOP or TRIP the oldest WARN record (R167). -/
theorem alarmVictim_warn {v : Severity} {k : Nat} (hc : ∀ r ∈ l, ¬ r.state = .clearedUnack) (hv : v ≠ .warn)
    (h : l.findIdx? (fun r => r.code.severity = .warn) = some k) : alarmVictim v l = some k := by
  have hw : l.findIdx? (fun r => r.code.severity == .warn) = some k := by simpa only [beq_eq_decide] using h
  simp only [alarmVictim, findIdx?_cleared_none hc, if_neg hv, hw]

theorem alarmVictim_none {v : Severity} (hc : ∀ r ∈ l, ¬ r.state = .clearedUnack)
    (h : v = .warn ∨ ∀ r ∈ l, ¬ r.code.severity = .warn) : alarmVictim v l = none := by
  simp only [alarmVictim, findIdx?_cleared_none hc]
  split
  · rfl
  · next hv => exact List.findIdx?_eq_none_iff.2 fun r hr => by simpa using h.resolve_left hv r hr

/-- In a full list a raise of STOP or TRIP severity finds a record that gives way where one is a WARN (R167). -/
theorem alarmVictim_some {v : Severity} (hv : v ≠ .warn) {x : AlarmRecord} (hx : x ∈ l) (hw : x.code.severity = .warn) :
    alarmVictim v l ≠ none := by
  unfold alarmVictim
  split
  · simp
  · rw [if_neg hv]
    refine fun h => ?_
    have := List.findIdx?_eq_none_iff.1 h x hx
    simp [hw] at this

/-- In a full list a new record takes the place that one gives up (R167). -/
theorem raiseQuiet_evicts {k : Nat} (hj : s.joined = true) (habs : ∀ r ∈ s.alarms.list, r.key ≠ (c, d))
    (hl : s.alarms.list.length = 24) (hv : alarmVictim c.severity s.alarms.list = some k) :
    (raiseQuiet c d s).alarms.lost = s.alarms.lost
      ∧ (raiseQuiet c d s).alarms.list = alarmInsert (freshRecord c d s.now) (s.alarms.list.eraseIdx k) := by
  have full : ¬ s.alarms.list.length < Config.alarmListSize := by rw [hl]; decide
  rw [raiseQuiet, raiseRecord_absent hj (find?_absent habs),
    enterRecord_evicts (r := freshRecord c d s.now) full hv, report_lost, report_lost, report_list]
  exact ⟨rfl, rfl⟩

/-! ### A clear (R168) -/

theorem clearAlarm_absent (hf : s.alarms.list.find? (isRecord c d) = none) : clearAlarm c d s = s := by
  by_cases hj : s.joined = true
  · simp [clearAlarm, hj, hf]
  · exact clearAlarm_idle (by simpa using hj) c d

theorem clearAlarm_cleared {r : AlarmRecord} (hf : s.alarms.list.find? (isRecord c d) = some r)
    (hr : r.state = .clearedUnack) : clearAlarm c d s = s := by
  by_cases hj : s.joined = true
  · simp [clearAlarm, hj, hf, hr]
  · exact clearAlarm_idle (by simpa using hj) c d

/-- Re-arm set on a condition leaves the alarm unit. -/
theorem rearmIf_alarms (p : Prop) [Decidable p] (t : State) : (if p then setRearm t else t).alarms = t.alarms := by
  split
  · exact setRearm_alarms t
  · rfl

/-- The clear of an active record that is not acked leaves it cleared. -/
theorem clearAlarm_active {r : AlarmRecord} (hj : s.joined = true) (hf : s.alarms.list.find? (isRecord c d) = some r)
    (hr : r.state = .activeUnack) : (clearAlarm c d s).alarms.list =
      s.alarms.list.map fun x => if isRecord c d x then { r with state := .clearedUnack } else x := by
  simp only [clearAlarm, hj, Bool.not_true, Bool.false_eq_true, if_false, hf, hr]
  rw [rearmIf_alarms, report_list]

/-- The clear of an acked record removes it. -/
theorem clearAlarm_acked {r : AlarmRecord} (hj : s.joined = true) (hf : s.alarms.list.find? (isRecord c d) = some r)
    (hr : r.state = .activeAck) : (clearAlarm c d s).alarms.list =
      s.alarms.list.filter fun x => !isRecord c d x := by
  simp only [clearAlarm, hj, Bool.not_true, Bool.false_eq_true, if_false, hf, hr]
  rw [rearmIf_alarms, report_list]

theorem stopInhibit_of_alarms {s t : State} (h : t.alarms = s.alarms) : t.stopInhibit = s.stopInhibit := by
  rw [State.stopInhibit, State.stopInhibit, h]

theorem setRearm_ring (ha : s.role.isAxis = true) : (setRearm s).ring = { s.ring with rearm := true, current := 0 } := by
  rw [setRearm, if_pos ha]
  rfl

/-- Re-arm set where the STOP inhibit ends. -/
theorem rearm_of_ended {u t : State} {q : Bool} (hu : u = if q && !t.stopInhibit then setRearm t else t)
    (ha : t.role.isAxis = true) (hs : q = true) (ht : u.stopInhibit = false) :
    u.ring.rearm = true ∧ u.ring.current = 0 := by
  have ended : t.stopInhibit = false := by
    rw [hu, stopInhibit_of_alarms (rearmIf_alarms _ t)] at ht
    exact ht
  rw [hu, hs, ended, if_pos (by rfl), setRearm_ring ha]
  exact ⟨rfl, rfl⟩

/-- The clear that ends the STOP inhibit sets re-arm (R174). -/
theorem clearAlarm_rearms (ha : s.role.isAxis = true) (hs : s.stopInhibit = true)
    (ht : (clearAlarm c d s).stopInhibit = false) :
    (clearAlarm c d s).ring.rearm = true ∧ (clearAlarm c d s).ring.current = 0 := by
  have role : ∀ (r : AlarmRecord) (b : Bool) (l : List AlarmRecord),
      (reportAlarm r b false (setAlarmList l s)).role.isAxis = true := fun r b l => by
    rw [role_of_startup ((reportAlarm_frame r b false (setAlarmList l s)).1 .startup (by decide))]
    exact ha
  have stands : clearAlarm c d s = s → (clearAlarm c d s).ring.rearm = true ∧ (clearAlarm c d s).ring.current = 0 :=
    fun h => by rw [h, hs] at ht; cases ht
  cases hf : s.alarms.list.find? (isRecord c d) with
  | none => exact stands (clearAlarm_absent hf)
  | some r =>
    cases hr : r.state with
    | clearedUnack => exact stands (clearAlarm_cleared hf hr)
    | activeUnack =>
      by_cases hj : s.joined = true
      · refine rearm_of_ended ?_ (role { r with state := .clearedUnack } false
          (s.alarms.list.map fun x => if isRecord c d x then { r with state := .clearedUnack } else x)) hs ht
        simp only [clearAlarm, hj, Bool.not_true, Bool.false_eq_true, if_false, hf, hr]
      · exact stands (clearAlarm_idle (by simpa using hj) c d)
    | activeAck =>
      by_cases hj : s.joined = true
      · refine rearm_of_ended ?_ (role r true (s.alarms.list.filter fun x => !isRecord c d x)) hs ht
        simp only [clearAlarm, hj, Bool.not_true, Bool.false_eq_true, if_false, hf, hr]
      · exact stands (clearAlarm_idle (by simpa using hj) c d)

end

end Sys2Proof.Machine

open Sys2Proof Sys2Proof.Machine

/-- Settles O28, by the equations of a raise and of a clear, one for each case of the record of the key. -/
theorem raiseAndClearRuleTheList : Obligations.RaiseAndClearRuleTheList := by
  intro c d s hj ho
  have unique : (s.alarms.list.map AlarmRecord.key).Nodup := ho.listKeys
  refine ⟨⟨fun habs hl => ?fresh, fun habs hl => ⟨fun k hk => ?cleared, fun hc hw k hk => ?warn, fun hc hw => ?lost⟩,
    fun r hr hk => ⟨fun hs => ?again, fun hs => ?anew⟩⟩, fun habs => clearAlarm_absent (find?_absent habs),
    fun r hr hk => ⟨fun hs => ?active, fun hs => ?acked, fun hs => clearAlarm_cleared (find?_present unique hr hk) hs,
      fun hs ht ha => clearAlarm_rearms ha hs ht⟩⟩
  case fresh =>
    rw [raiseQuiet, raiseRecord_absent hj (find?_absent habs), enterRecord_room hl, report_list]
    rfl
  case cleared => exact raiseQuiet_evicts hj habs hl (alarmVictim_cleared hk)
  case warn => exact raiseQuiet_evicts hj habs hl (alarmVictim_warn hc hw hk)
  case lost =>
    have full : ¬ s.alarms.list.length < Config.alarmListSize := by rw [hl]; decide
    rw [raiseQuiet, raiseRecord_absent hj (find?_absent habs),
      enterRecord_lost (r := freshRecord c d s.now) full (alarmVictim_none hc hw)]
    exact ⟨rfl, rfl⟩
  case again =>
    rw [raiseQuiet, raiseRecord_again hj (find?_present unique hr hk) hs, report_list]
    exact map_present unique hr hk fun x => { x with repeats := bump8 x.repeats }
  case anew =>
    have code : r.code = c := congrArg Prod.fst hk
    have detail : r.detail = d := congrArg Prod.snd hk
    rw [raiseQuiet, raiseRecord_anew hj (find?_present unique hr hk) hs, report_list, filter_others, code, detail]
    rfl
  case active =>
    rw [clearAlarm_active hj (find?_present unique hr hk) hs]
    exact map_present unique hr hk fun x => { x with state := .clearedUnack }
  case acked =>
    rw [clearAlarm_acked hj (find?_present unique hr hk) hs]
    exact filter_others c d _
end

section
/-! PROOFS. What a merge does to the machine alarm table (R177, R178, R180), and the ALARM taken. -/

namespace Sys2Proof.Machine

section
variable {m : Merge} {t : MachineTable} {st : AlarmState}

/-- The record that a merge enters (R178). -/
def Merge.record (m : Merge) (st : AlarmState) : TableRecord :=
  ⟨m.source, m.code, m.detail, m.code.severity, st, m.raised, 0⟩

theorem refreshFirstOut_lost (t : MachineTable) : (refreshFirstOut t).lost = t.lost := by
  unfold refreshFirstOut
  split <;> rfl

theorem refreshFirstOut_episode (t : MachineTable) : (refreshFirstOut t).episode = t.episode := by
  unfold refreshFirstOut
  split <;> rfl

theorem refreshFirstOut_floating (h : t.episode = .floating) :
    (refreshFirstOut t).firstOut = (t.records.find? fun r => r.severity = .trip ∧ t.restartTime.le r.raised).map
      fun r => ⟨r.source, r.code, r.detail, r.raised⟩ := by
  rw [refreshFirstOut, if_pos h]
  simp only [evaluateFirstOut, beq_eq_decide, Bool.decide_and, Bool.decide_eq_true]

theorem any_sameKey {n : Nat} {c : AlarmCode} {d : Option Nat} {l : List TableRecord} :
    l.any (sameKey n c d) = true ↔ ∃ x ∈ l, x.key = (n, c, d) := by
  simp only [List.any_eq_true, sameKey_iff]

theorem tableOthers_eq (n : Nat) (c : AlarmCode) (d : Option Nat) (l : List TableRecord) :
    tableOthers n c d l = l.filter fun r => r.key ≠ (n, c, d) :=
  List.filter_congr fun x _ => by
    by_cases h : x.key = (n, c, d)
    · simp [h, sameKey_iff.2 h]
    · simp [h, mt sameKey_iff.1 h]

/-! ### Room in the table (R178) -/

theorem tableRoom_room {l : List TableRecord} (h : l.length < Config.tableSize) : tableRoom l = some l := if_pos h

theorem tableRoom_cleared {l : List TableRecord} {k : Nat} (h : ¬ l.length < Config.tableSize)
    (hk : l.findIdx? (fun x => x.severity = .warn ∧ x.state = .clearedUnack) = some k) :
    tableRoom l = some (l.eraseIdx k) := by
  have hk' : l.findIdx? (fun r => r.severity == .warn && r.state == .clearedUnack) = some k := by
    simpa only [beq_eq_decide, Bool.decide_and] using hk
  simp only [tableRoom, if_neg h, hk']

theorem findIdx?_clearedWarn {l : List TableRecord} (h : ∀ x ∈ l, ¬ (x.severity = .warn ∧ x.state = .clearedUnack)) :
    l.findIdx? (fun r => r.severity == .warn && r.state == .clearedUnack) = none :=
  List.findIdx?_eq_none_iff.2 fun x hx => by simpa using h x hx

theorem tableRoom_warn {l : List TableRecord} {k : Nat} (h : ¬ l.length < Config.tableSize)
    (hc : ∀ x ∈ l, ¬ (x.severity = .warn ∧ x.state = .clearedUnack))
    (hk : l.findIdx? (fun x => x.severity = .warn) = some k) : tableRoom l = some (l.eraseIdx k) := by
  have hk' : l.findIdx? (fun r => r.severity == .warn) = some k := by simpa only [beq_eq_decide] using hk
  simp only [tableRoom, if_neg h, findIdx?_clearedWarn hc, hk', Option.map_some]

theorem tableRoom_none {l : List TableRecord} (h : ¬ l.length < Config.tableSize) (hw : ∀ x ∈ l, ¬ x.severity = .warn) :
    tableRoom l = none := by
  have hw' : l.findIdx? (fun r => r.severity == .warn) = none :=
    List.findIdx?_eq_none_iff.2 fun x hx => by simpa using hw x hx
  simp only [tableRoom, if_neg h, findIdx?_clearedWarn fun x hx hc => hw x hx hc.1, hw', Option.map_none]

/-- A record that finds room is entered in the table's order. -/
theorem tableForm_room {r : TableRecord} {b : Bool} {l : List TableRecord}
    (h : ¬ (b && decide (Config.tableSize ≤ t.records.length)) = true) (hr : tableRoom t.records = some l) :
    tableForm r b t = { t with records := tableInsert r l } := by
  simp only [tableForm, if_neg h, hr]

theorem tableForm_lost {r : TableRecord} {b : Bool} (h : ¬ (b && decide (Config.tableSize ≤ t.records.length)) = true)
    (hr : tableRoom t.records = none) : tableForm r b t = { t with lost := bump t.lost } := by
  simp only [tableForm, if_neg h, hr]

/-- A refresh makes no room in a full table. -/
theorem tableForm_refresh {r : TableRecord} (h : Config.tableSize ≤ t.records.length) : tableForm r true t = t :=
  if_pos (by simpa using h)

/-! ### The merge (R178) -/

theorem mergeTable_removed (h : m.state = none) :
    (mergeTable m t).records = t.records.filter fun r => r.key ≠ (m.source, m.code, m.detail) := by
  rw [mergeTable, refreshFirstOut_records]
  simp only [h, tableOthers_eq]

/-- A record of no present key is formed. -/
theorem mergeTable_absent (h : m.state = some st) (ha : ∀ x ∈ t.records, x.key ≠ (m.source, m.code, m.detail)) :
    mergeTable m t = refreshFirstOut (tableForm (m.record st) m.refresh t) := by
  have hn : ¬ t.records.any (sameKey m.source m.code m.detail) = true := fun hx => by
    obtain ⟨x, hx, hk⟩ := any_sameKey.1 hx
    exact ha x hx hk
  simp only [mergeTable, h, if_neg hn]
  rfl

/-- The record of a present key is updated. -/
theorem mergeTable_present (h : m.state = some st) (hp : ∃ x ∈ t.records, x.key = (m.source, m.code, m.detail)) :
    (mergeTable m t).records = tableUpdate (m.record st) t.records := by
  simp only [mergeTable, h, if_pos (any_sameKey.2 hp), refreshFirstOut_records]
  rfl

theorem tableForm_episode (r : TableRecord) (b : Bool) (t : MachineTable) :
    (tableForm r b t).episode = t.episode ∧ (tableForm r b t).restartTime = t.restartTime := by
  unfold tableForm
  split
  · exact ⟨rfl, rfl⟩
  · split <;> exact ⟨rfl, rfl⟩

/-- A merge leaves the episode, and re-evaluates a floating first-out (R180). -/
theorem mergeTable_firstOut (m : Merge) (t : MachineTable) : (mergeTable m t).episode = t.episode
    ∧ (t.episode = .floating → (mergeTable m t).firstOut = ((mergeTable m t).records.find? fun r =>
        r.severity = .trip ∧ t.restartTime.le r.raised).map fun r => ⟨r.source, r.code, r.detail, r.raised⟩) := by
  obtain ⟨u, hu, he, hr⟩ : ∃ u, mergeTable m t = refreshFirstOut u ∧ u.episode = t.episode
      ∧ u.restartTime = t.restartTime := by
    unfold mergeTable
    refine ⟨_, rfl, ?_⟩
    split
    · exact ⟨rfl, rfl⟩
    · dsimp only
      split
      · exact ⟨rfl, rfl⟩
      · exact tableForm_episode _ _ t
  rw [hu, refreshFirstOut_episode, refreshFirstOut_records]
  refine ⟨he, fun hf => ?_⟩
  rw [refreshFirstOut_floating (he.trans hf), hr]

/-- At its place where its raised time is unchanged (R177). -/
theorem tableUpdate_same {r : TableRecord} {l : List TableRecord} (h : ∃ x ∈ l, x.key = r.key ∧ x.raised = r.raised) :
    tableUpdate r l = l.map fun x => if x.key = r.key then r else x := by
  have ha : l.any (fun x => sameKey r.source r.code r.detail x && x.raised == r.raised) = true := by
    obtain ⟨x, hx, hk, ht⟩ := h
    exact List.any_eq_true.2 ⟨x, hx, by rw [sameKey_iff.2 hk, ht]; simp⟩
  rw [tableUpdate, if_pos ha]
  exact List.map_congr_left fun x _ => if_congr sameKey_iff rfl rfl

/-- Else at its place by the new one (R178, log entry 22). -/
theorem tableUpdate_moved {r : TableRecord} {l : List TableRecord} (h : ∀ x ∈ l, x.key = r.key → x.raised ≠ r.raised) :
    tableUpdate r l = tableInsert r (l.filter fun x => x.key ≠ r.key) := by
  have ha : ¬ l.any (fun x => sameKey r.source r.code r.detail x && x.raised == r.raised) = true := fun hx => by
    obtain ⟨x, hx, hk⟩ := List.any_eq_true.1 hx
    rw [Bool.and_eq_true, beq_iff_eq] at hk
    exact h x hx (sameKey_iff.1 hk.1) hk.2
  rw [tableUpdate, if_neg ha, tableOthers_eq]
  rfl

end

theorem exec_alarm {b : Bulletin} {s : State} (h : Reaches .alarm b s) :
    exec (.alarm b) s = .next (takeAlarm b (handed s)) :=
  congrArg Host.Outcome.next (receive_reaches h (takeAlarm b))

/-- What a received bulletin leaves as the instant found it, the line unit apart. -/
theorem handed_table (s : State) : (handed s).table = s.table := (handed_frame s).1 .table (by decide)

theorem takeAlarm_idle {b : Bulletin} {s : State} (h : s.role ≠ .cab ∨ mergeOf b.sender.toNat b.words = none) :
    takeAlarm b s = s := by
  unfold takeAlarm
  split
  · next hr => rw [h.resolve_left (not_not_intro hr)]
  · rfl

theorem takeAlarm_merges {b : Bulletin} {s : State} {m : Merge} (hr : s.role = .cab)
    (hm : mergeOf b.sender.toNat b.words = some m) : takeAlarm b s = s.onTable (mergeTable m) := by
  rw [takeAlarm, if_pos hr, hm]

end Sys2Proof.Machine

open Sys2Proof Sys2Proof.Machine

/-- Settles O29: the ALARM reaches `mergeTable`, whose cases are those of R178. -/
theorem alarmMergedAtCab : Obligations.AlarmMergedAtCab := by
  intro b s h
  refine ⟨fun hr => ?idle, fun m hr hm => ?merges⟩
  case idle => rw [exec_alarm h, takeAlarm_idle (by rwa [handed_role])]
  case merges =>
    have table : ((handed s).onTable (mergeTable m)).table = mergeTable m s.table := by
      rw [State.onTable_table, handed_table]
    obtain ⟨episode, floating⟩ := mergeTable_firstOut m s.table
    refine ⟨(handed s).onTable (mergeTable m), by rw [exec_alarm h, takeAlarm_merges ((handed_role s).trans hr) hm],
      ((handed_frame s).mono (by decide)).trans ((onTable_frame _ _).mono (by decide)), rfl, ?_⟩
    rw [table]
    refine ⟨episode, mergeTable_removed, fun st hst => ⟨fun habs hl => ?room, fun hp => ?same, fun hp ht => ?moved,
      fun habs hl => ⟨fun hf => ?refresh, fun hf => ⟨fun k hk => ?cleared, fun hc k hk => ?warn, fun hw => ?lost⟩⟩⟩,
      floating⟩
    case same =>
      obtain ⟨x, hx, hk, ht⟩ := hp
      rw [mergeTable_present hst ⟨x, hx, hk⟩]
      exact tableUpdate_same ⟨x, hx, hk, ht⟩
    case moved =>
      push Not at hp
      rw [mergeTable_present hst hp]
      exact tableUpdate_moved ht
    case room =>
      rw [mergeTable_absent hst habs, tableForm_room (by simp; intro; exact hl) (tableRoom_room hl), refreshFirstOut_records]
      rfl
    case refresh =>
      rw [mergeTable_absent hst habs, hf, tableForm_refresh hl, refreshFirstOut_records, refreshFirstOut_lost]
      exact ⟨rfl, rfl⟩
    all_goals
      have unrefreshed : ¬ (m.refresh && decide (Config.tableSize ≤ s.table.records.length)) = true := by simp [hf]
      have full : ¬ s.table.records.length < Config.tableSize := hl.not_gt
      rw [mergeTable_absent hst habs]
    case cleared =>
      rw [tableForm_room unrefreshed (tableRoom_cleared full hk), refreshFirstOut_records, refreshFirstOut_lost]
      exact ⟨rfl, rfl⟩
    case warn =>
      rw [tableForm_room unrefreshed (tableRoom_warn full hc hk), refreshFirstOut_records, refreshFirstOut_lost]
      exact ⟨rfl, rfl⟩
    case lost =>
      rw [tableForm_lost unrefreshed (tableRoom_none full hw), refreshFirstOut_records, refreshFirstOut_lost]
      exact ⟨rfl, rfl⟩
end

section
/-! PROOFS. Sending: the offer, and what the end of an attempt comes to (R6, R7, R13 to R15, R19). -/

namespace Sys2Proof.Machine

/-! ### The offer (R15) -/

theorem cls_le (k : Kind) : k.cls ≤ 3 := by cases k <;> decide

theorem lowestClass_append (q : List Entry) (e : Entry) :
    lowestClass (q ++ [e]) =
      if e.inFlight = true then lowestClass q else some (min e.kind.cls ((lowestClass q).getD 3)) := by
  simp [lowestClass]

/-- The lowest class of a queue in which every entry waits is that of one of them. -/
theorem lowestClass_spec {q : List Entry} (hw : ∀ x ∈ q, x.inFlight = false) :
    (q = [] ∧ lowestClass q = none)
      ∨ ∃ x ∈ q, lowestClass q = some x.kind.cls ∧ ∀ y ∈ q, x.kind.cls ≤ y.kind.cls := by
  induction q using List.reverseRecOn with
  | nil => exact .inl ⟨rfl, rfl⟩
  | append_singleton q e ih =>
    obtain ⟨hq, he⟩ := List.forall_mem_append.1 hw
    have hlast : ¬ e.inFlight = true := by simp [he e (List.mem_singleton_self e)]
    right
    rw [lowestClass_append, if_neg hlast]
    rcases ih hq with ⟨rfl, hn⟩ | ⟨x, hx, hl, hmin⟩
    · refine ⟨e, by simp, ?_, by simp⟩
      rw [hn, Option.getD_none, min_eq_left (cls_le _)]
    · rw [hl, Option.getD_some]
      rcases le_total x.kind.cls e.kind.cls with h | h
      · exact ⟨x, by simp [hx], by rw [min_eq_right h], List.forall_mem_append.2 ⟨hmin, by simpa using h⟩⟩
      · exact ⟨e, by simp, by rw [min_eq_left h],
          List.forall_mem_append.2 ⟨fun y hy => h.trans (hmin y hy), by simp⟩⟩

/-- The entry offered is the earliest placed of the lowest class (R15). -/
theorem offerPlace_eq {q : List Entry} {k : Nat} {e : Entry} (hw : ∀ x ∈ q, x.inFlight = false) (hk : q[k]? = some e)
    (hmin : ∀ x ∈ q, e.kind.cls ≤ x.kind.cls) (hfirst : ∀ x ∈ q.take k, x.kind.cls ≠ e.kind.cls) :
    offerPlace q = some k := by
  have he := List.mem_of_getElem? hk
  have lowest : lowestClass q = some e.kind.cls := by
    rcases lowestClass_spec hw with ⟨rfl, -⟩ | ⟨x, hx, hl, hle⟩
    · exact absurd he (List.not_mem_nil)
    · rw [hl, le_antisymm (hle e he) (hmin x hx)]
  obtain ⟨hlt, rfl⟩ := List.getElem?_eq_some_iff.1 hk
  rw [offerPlace, lowest]
  refine List.findIdx?_eq_some_iff_getElem.2 ⟨hlt, by simp [hw _ he], fun j hj => ?_⟩
  have := hfirst _ (List.mem_take_iff_getElem.2 ⟨j, by omega, rfl⟩)
  simp [this]

theorem flight_eq_none {q : List Entry} (hw : ∀ x ∈ q, x.inFlight = false) : flight q = none :=
  List.find?_eq_none.2 fun x hx => by simp [hw x hx]

/-- The state after an offer of entry `k`. -/
def offered (k : Nat) (e : Entry) (s : State) : State :=
  s.onLine fun l =>
    { l with queue := l.queue.modify k fun e => { e with inFlight := true },
             arbitration := arbitrationUnits s.startup.rate,
             txSeq := if e.kind = .status then e.seq else s.picture.seq }

theorem offer_eq {s : State} {k : Nat} {e : Entry} (ha : s.line.state = .active)
    (hw : ∀ x ∈ s.line.queue, x.inFlight = false) (hk : s.line.queue[k]? = some e)
    (hmin : ∀ x ∈ s.line.queue, e.kind.cls ≤ x.kind.cls) (hfirst : ∀ x ∈ s.line.queue.take k, x.kind.cls ≠ e.kind.cls) :
    offer s = offered k e s := by
  have hf : (flight s.line.queue).isNone = true := by rw [flight_eq_none hw]; rfl
  rw [offer, if_pos ⟨ha, hf⟩, offerPlace_eq hw hk hmin hfirst, offered]
  simp only [State.onLine, hk]

/-- The entry set in flight is the one that is sent. -/
theorem flight_set {q : List Entry} {k : Nat} {e : Entry} (hw : ∀ x ∈ q, x.inFlight = false) (hk : k < q.length)
    (he : e.inFlight = true) : flight (q.set k e) = some e := by
  refine List.find?_eq_some_iff_getElem.2 ⟨he, k, by simpa using hk, by simp, fun j hj => ?_⟩
  rw [List.getElem_set_ne (by omega)]
  simp [hw _ (List.getElem_mem _)]

/-! ### The entry in flight (R6, R13) -/

/-- A list without the one element that fails a test. -/
theorem filter_eq_eraseIdx {α : Type} {p : α → Bool} {l : List α} {k : Nat} (hk : k < l.length)
    (h : ∀ j x, l[j]? = some x → (p x = false ↔ j = k)) : l.filter p = l.eraseIdx k := by
  induction l generalizing k with
  | nil => simp at hk
  | cons a l ih =>
    have head := h 0 a rfl
    cases k with
    | zero =>
      have rest : ∀ x ∈ l, p x = true := fun x hx => by
        obtain ⟨j, hj⟩ := List.mem_iff_getElem?.1 hx
        have := h (j + 1) x hj
        simpa using this
      rw [List.filter_cons_of_neg (by simp [head.2 rfl]), List.eraseIdx_cons_zero, List.filter_eq_self.2 rest]
    | succ k =>
      have keep : p a = true := by simpa using head
      rw [List.filter_cons_of_pos keep, List.eraseIdx_cons_succ,
        ih (by simpa using hk) fun j x hx => (h (j + 1) x hx).trans (by omega)]

section
variable {s : State} {k : Nat} {e : Entry} (h : FlightAt s k e)
include h

/-- Whether an entry is in flight, by its place. -/
theorem FlightAt.inFlight_iff {j : Nat} {x : Entry} (hx : (begin s).line.queue[j]? = some x) :
    x.inFlight = true ↔ j = k := by
  rw [begin_queue, List.getElem?_map] at hx
  obtain ⟨y, hy, rfl⟩ := Option.map_eq_some_iff.1 hx
  refine ⟨fun hf => h.alone j y hy hf, fun hj => ?_⟩
  subst hj
  rw [h.here] at hy
  cases hy
  exact h.flies

theorem FlightAt.begun : (begin s).line.queue[k]? = some { e with rank := 0 } := by
  rw [begin_queue, List.getElem?_map, h.here, Option.map_some]

/-- The queue with the entry in flight taken out. -/
theorem FlightAt.dropped : ((begin s).line.queue.filter fun x => !x.inFlight) = (begin s).line.queue.eraseIdx k :=
  filter_eq_eraseIdx (List.getElem?_eq_some_iff.1 h.begun).1 fun j x hx => by
    rw [Bool.not_eq_false', h.inFlight_iff hx]

/-- The queue with the entry in flight changed. -/
theorem FlightAt.landed (g : Entry → Entry) :
    ((begin s).line.queue.map fun x => if x.inFlight then { g x with inFlight := false } else x)
      = (begin s).line.queue.set k { g { e with rank := 0 } with inFlight := false } := by
  refine List.ext_getElem? fun j => ?_
  rw [List.getElem?_map, List.getElem?_set]
  cases hx : (begin s).line.queue[j]? with
  | none =>
    have : ¬ j < (begin s).line.queue.length := fun hlt => by rw [List.getElem?_eq_getElem hlt] at hx; cases hx
    split
    · next hj => subst hj; rw [if_neg this, Option.map_none]
    · rfl
  | some x =>
    have fl := h.inFlight_iff hx
    rw [Option.map_some]
    by_cases hj : j = k
    · subst hj
      rw [if_pos (fl.2 rfl), if_pos rfl, if_pos (List.getElem?_eq_some_iff.1 hx).1]
      rw [h.begun] at hx
      cases hx
      rfl
    · rw [if_neg (mt fl.1 hj), if_neg (Ne.symm hj)]

end

end Sys2Proof.Machine

open Sys2Proof Sys2Proof.Machine

/-- Settles O15: the place offered is the earliest of the lowest class, and the entry there is sent. -/
theorem idleOffersLowestClass : Obligations.IdleOffersLowestClass := by
  intro s k e ha hw hk hmin hfirst
  have waits : ∀ x ∈ (begin s).line.queue, x.inFlight = false := fun x hx => by
    obtain ⟨y, hy, rfl⟩ := List.mem_map.1 hx
    exact hw y hy
  have here : (begin s).line.queue[k]? = some { e with rank := 0 } := by
    rw [begin_queue, List.getElem?_map, hk, Option.map_some]
  have least : ∀ x ∈ (begin s).line.queue, e.kind.cls ≤ x.kind.cls := fun x hx => by
    obtain ⟨y, hy, rfl⟩ := List.mem_map.1 hx
    exact hmin y hy
  have first : ∀ x ∈ (begin s).line.queue.take k, x.kind.cls ≠ e.kind.cls := fun x hx => by
    rw [begin_queue, ← List.map_take] at hx
    obtain ⟨y, hy, rfl⟩ := List.mem_map.1 hx
    exact hfirst y hy
  have eq := offer_eq (s := begin s) ha waits here least first
  have queue : (offered k { e with rank := 0 } (begin s)).line.queue =
      (begin s).line.queue.set k { e with inFlight := true, rank := 0 } := by
    refine List.ext_getElem? fun j => ?_
    show ((begin s).line.queue.modify k fun e => { e with inFlight := true })[j]? = _
    rw [List.getElem?_modify, List.getElem?_set]
    split
    · next hj =>
      subst hj
      rw [here, if_pos (List.getElem?_eq_some_iff.1 here).1]
      rfl
    · exact congrFun Option.map_id _
  have sent : (offered k { e with rank := 0 } (begin s)).sent =
      some (.form e.kind s.startup.station e.target (offered k { e with rank := 0 } (begin s)).line.txSeq e.words) := by
    rw [State.sent, queue, flight_set waits (List.getElem?_eq_some_iff.1 here).1 rfl]
    rfl
  refine ⟨_, congrArg Host.Outcome.next eq, queue, rfl, sent, ?_, ?_, onLine_frame _ _⟩
  · rw [State.sentCells, sent]
    rfl
  · show 0 < arbitrationUnits s.startup.rate
    unfold arbitrationUnits
    split
    · decide
    · split <;> decide
end

section
/-! PROOFS. What the moves and the ends of attempts do to the line unit. -/

namespace Sys2Proof.Machine

/-! ### Counters that grow -/

/-- A 16-bit counter stands, or has counted, or is saturated. -/
def Grown (n m : Nat) : Prop := m = n ∨ (n < m ∧ m ≤ 65535) ∨ m = 65535

/-- A 16-bit counter has counted. -/
def Risen (n m : Nat) : Prop := (n < m ∧ m ≤ 65535) ∨ m = 65535

theorem Grown.refl (n : Nat) : Grown n n := .inl rfl

theorem Grown.trans {n m k : Nat} (h : Grown n m) (h' : Grown m k) : Grown n k := by
  unfold Grown at *
  omega

theorem Risen.grown {n m : Nat} (h : Risen n m) : Grown n m := .inr h

theorem Risen.then {n m k : Nat} (h : Risen n m) (h' : Grown m k) : Risen n k := by
  unfold Grown Risen at *
  omega

theorem Grown.risen {n m k : Nat} (h : Grown n m) (h' : Risen m k) : Risen n k := by
  unfold Grown Risen at *
  omega

theorem risen_bump (n : Nat) : Risen n (bump n) := by
  have : bump n = min 65535 (n + 1) := rfl
  unfold Risen
  omega

theorem grown_of_countsUp {n m : Nat} (h : countsUp n m) : Grown n m := by
  rcases h with rfl | rfl
  · exact .refl _
  · exact (risen_bump n).grown

/-- Placements count evictions and refusals, and neither "no taker" nor bit errors. -/
structure CountersGrown (c c' : LineCounters) : Prop where
  evicted : Grown c.evicted c'.evicted
  refused : Grown c.refused c'.refused
  noTaker : c'.noTaker = c.noTaker
  bitErrors : c'.bitErrors = c.bitErrors

theorem CountersGrown.refl (c : LineCounters) : CountersGrown c c := ⟨.refl _, .refl _, rfl, rfl⟩

theorem CountersGrown.trans {c c' c'' : LineCounters} (h : CountersGrown c c') (k : CountersGrown c' c'') :
    CountersGrown c c'' :=
  ⟨h.evicted.trans k.evicted, h.refused.trans k.refused, k.noTaker.trans h.noTaker, k.bitErrors.trans h.bitErrors⟩

theorem CountersUp.grown {c c' : LineCounters} (h : CountersUp c c') : CountersGrown c c' :=
  ⟨grown_of_countsUp h.evicted, grown_of_countsUp h.refused, h.noTaker, h.bitErrors⟩

theorem countersUp_replaceElders (k : Kind) (s : State) :
    CountersUp s.line.counters (replaceElders k s).line.counters := by
  by_cases hk : isReplacing k = true
  · rw [replaceElders_counters hk]
    unfold countReplaced
    split
    · split <;> exact .of_eq rfl rfl rfl rfl
    · exact .of_eq rfl rfl rfl rfl
  · unfold replaceElders
    rw [if_neg hk]
    exact .of_eq rfl rfl rfl rfl

theorem countersUp_admitGeneral (e : Entry) (s : State) :
    CountersUp s.line.counters (admitGeneral e s).1.line.counters := by
  rcases admitGeneral_cases e s with ⟨-, h⟩ | ⟨-, k, x, -, h⟩ | ⟨-, h⟩ <;> rw [h]
  · exact .of_eq rfl rfl rfl rfl
  · exact ⟨.inr rfl, .inl rfl, rfl, rfl⟩
  · exact countRefused_up _

theorem countersGrown_enqueue (e : Entry) (s : State) :
    CountersGrown s.line.counters (enqueue e s).1.line.counters := by
  rcases enqueue_cases e s with ⟨-, h⟩ | ⟨-, -, -, h⟩ | ⟨-, h⟩ <;> rw [h]
  · exact (countRefused_up _).grown
  · exact .refl _
  · exact (countersUp_replaceElders _ s).grown.trans (countersUp_admitGeneral _ _).grown

/-! ### The entries of a queue -/

/-- What stands in the queue after a placement: the entry placed, or one that stood there. -/
theorem mem_enqueue {e x : Entry} {s : State} (h : x ∈ (enqueue e s).1.line.queue) :
    x = { e.ranked with reserved := x.reserved } ∨ ∃ y ∈ s.line.queue, x = { y with due := x.due } := by
  have general : ∀ {u : State} {f : Entry}, x ∈ (admitGeneral f u).1.line.queue → x = f ∨ x ∈ u.line.queue := by
    intro u f hx
    rcases admitGeneral_cases f u with ⟨-, ha⟩ | ⟨-, k, y, -, ha⟩ | ⟨-, ha⟩ <;> rw [ha] at hx
    · exact mem_standIn.1 hx
    · exact (mem_standIn.1 hx).imp_right fun hm => (List.eraseIdx_sublist _ _).subset hm
    · exact .inr hx
  rcases enqueue_cases e s with ⟨-, he⟩ | ⟨-, -, -, he⟩ | ⟨-, he⟩ <;> rw [he] at h
  · exact .inr ⟨x, h, rfl⟩
  · rcases mem_standIn.1 h with rfl | h
    · exact .inl rfl
    · exact .inr ⟨x, h, rfl⟩
  · rcases general h with rfl | h
    · exact .inl rfl
    · rw [replaceElders_queue] at h
      split at h
      · obtain ⟨y, hy, rfl⟩ := List.mem_map.1 h
        refine .inr ⟨y, (List.mem_filter.1 hy).1, ?_⟩
        split <;> rfl
      · exact .inr ⟨x, h, rfl⟩

theorem Entry.aged_eq (e : Entry) : e.aged = { e with waited := e.aged.waited } := by
  unfold Entry.aged
  split <;> rfl

theorem Entry.markExpired_eq (c : DWord) (e : Entry) : e.markExpired c = { e with due := (e.markExpired c).due } := by
  unfold Entry.markExpired
  split <;> rfl

/-- An entry that does not expire is as it was but for its wait and a removal fallen due. -/
theorem mem_queueLeft {c : DWord} {q : List Entry} {x : Entry} (h : x ∈ queueLeft c q) :
    ∃ y ∈ q, x.kind = y.kind ∧ x.inFlight = y.inFlight ∧ x = { y with waited := x.waited, due := x.due } := by
  obtain ⟨z, hz, rfl⟩ := List.mem_map.1 h
  obtain ⟨y, hy, rfl⟩ := List.mem_map.1 (List.mem_filter.1 hz).1
  have ha := y.aged_eq
  refine ⟨y, hy, ?_⟩
  rw [ha]
  split
  · rw [Entry.markExpired_eq]
    exact ⟨rfl, rfl, rfl⟩
  · exact ⟨rfl, rfl, rfl⟩

/-! ### What a move does to the line unit -/

/-- One act on the line unit. `b` adds the acts of the line unit's own counts. -/
inductive LineStep : Bool → LineUnit → LineUnit → Prop where
  | placed {b : Bool} (e : Entry) (s : State) (hn : e.New) : LineStep b s.line (enqueue e s).1.line
  | counted {b : Bool} (c : LineCounters) (l) (h : CountersUp l.counters c) : LineStep b l { l with counters := c }
  | requeued {b : Bool} (q : List Entry) (l) (h : ∀ x ∈ q, ∃ y ∈ l.queue, x.kind = y.kind ∧ x.inFlight = y.inFlight) :
      LineStep b l { l with queue := q }
  | field (p : LineField) (l l') (h : p.only l l') : LineStep true l l'
  | queries (l : LineUnit) (rest : List Query) (q : Query) (h : l.queries = q :: rest) :
      LineStep true l { l with queries := rest }
  | rejoin (l : LineUnit) (b : Byte) (n : Nat) (h : l.state = .lineFault) :
      LineStep true l { l with state := .rejoining, loopback := true, txSeq := b, arbitration := n }

/-- A chain of acts on the line unit. -/
def LineSteps (b : Bool) : LineUnit → LineUnit → Prop := Relation.ReflTransGen (LineStep b)

/-- The tags of moves that count for the line unit itself. -/
def Tag.ofLine : Tag → Bool
  | .line _ | .queries | .rejoin => true
  | _ => false

section
variable {b : Bool} {s t u : State} {l l' l'' : LineUnit}

theorem LineSteps.refl (l : LineUnit) : LineSteps b l l := Relation.ReflTransGen.refl

theorem LineSteps.trans (h : LineSteps b l l') (k : LineSteps b l' l'') : LineSteps b l l'' :=
  Relation.ReflTransGen.trans h k

theorem LineStep.steps (h : LineStep b l l') : LineSteps b l l' := .single h

theorem lineSteps_of_eq (h : l' = l) : LineSteps b l l' := h ▸ .refl _

theorem LineSteps.keeps {Q : LineUnit → Prop} (h : LineSteps b l l') (hq : ∀ l l', LineStep b l l' → Q l → Q l')
    (hl : Q l) : Q l' := by
  induction h with
  | refl => exact hl
  | tail _ hlast ih => exact hq _ _ hlast ih

theorem AlarmLine.lineSteps (h : AlarmLine s t) : LineSteps b s.line t.line := by
  induction h with
  | refl => exact .refl _
  | tail _ hlast ih =>
    rcases hlast with h | ⟨e, hn, -, h⟩
    · rwa [h]
    · rw [h]
      exact ih.trans (LineStep.placed e _ hn).steps

theorem requeued_map (f : Entry → Entry) (hk : ∀ e, (f e).kind = e.kind) (hf : ∀ e, (f e).inFlight = e.inFlight)
    (l : LineUnit) : LineSteps b l { l with queue := l.queue.map f } :=
  (LineStep.requeued _ l fun x hx => by
    obtain ⟨y, hy, rfl⟩ := List.mem_map.1 hx
    exact ⟨y, hy, hk y, hf y⟩).steps

theorem muteWhere_steps (p : Entry → Bool) (s : State) : LineSteps b s.line (muteWhere p s).line :=
  requeued_map _ (fun e => by split <;> rfl) (fun e => by split <;> rfl) s.line

theorem Move.lineSteps {g : Tag} (m : Move g s t) (hb : g.ofLine = true → b = true) : LineSteps b s.line t.line := by
  by_cases hl : Block.line ∈ g.blocks
  · cases m with
    | count g _ h => exact (LineStep.counted _ _ h).steps
    | place e _ hn =>
      rw [placeTold_line]
      exact (LineStep.placed e s hn).steps
    | mute p => exact muteWhere_steps p s
    | settle p => exact requeued_map _ (fun e => by split <;> rfl) (fun e => by split <;> rfl) s.line
    | age =>
      refine (LineStep.requeued _ s.line fun x hx => ?_).steps
      obtain ⟨y, hy, hk, hf, -⟩ := mem_queueLeft hx
      exact ⟨y, hy, hk, hf⟩
    | line p g _ h =>
      obtain rfl := hb rfl
      exact (LineStep.field p _ _ h).steps
    | queries _ rest q h =>
      obtain rfl := hb rfl
      exact (LineStep.queries _ rest q h).steps
    | rejoin _ h =>
      obtain rfl := hb rfl
      exact (LineStep.rejoin s.line _ _ h).steps
    | walkTo w =>
      have hm : ∀ u : State, (watchOwned (u.onWalk fun k => { k with state := w, stateCount := 0 })).line = u.line :=
        fun u => (watchOwned_frame _).1 .line (by decide)
      unfold setWalkState; dsimp only
      rw [hm]
      split
      · exact muteWhere_steps _ s
      · exact .refl _
    | grant peer k =>
      obtain ⟨e, hn, -, he⟩ := placeGrant_line peer k s
      rw [he]
      exact (LineStep.placed e (s.onShare fun h => { h with grantNumber := h.grantNumber + 1 }) hn).steps
    | raised c d => exact (raiseQuiet_alarmLine c d s).lineSteps
    | cleared c d => exact (clearAlarm_alarmLine c d s).lineSteps
    | dropped n => exact (loanDropped_alarmLine n s).lineSteps
    | report r => exact (reportAlarm_alarmLine r false true s).lineSteps
    | _ => exact absurd hl (by simp [Tag.blocks])
  · exact lineSteps_of_eq (m.frame.1 .line hl)

theorem Moves.lineSteps {gs : List Tag} (m : Moves gs s t) (hb : ∀ g ∈ gs, g.ofLine = true → b = true) :
    LineSteps b s.line t.line := by
  induction m with
  | refl => exact .refl _
  | tail _ hlast ih =>
    obtain ⟨g, hg, m⟩ := hlast
    exact ih.trans (m.lineSteps (hb g hg))

/-! ### What the acts on the line unit keep -/

theorem LineStep.grown (h : LineStep b l l') : CountersGrown l.counters l'.counters := by
  cases h with
  | placed e s _ => exact countersGrown_enqueue e s
  | counted c _ h => exact h.grown
  | field p _ _ h => cases p <;> rw [h] <;> exact .refl _
  | _ => exact .refl _

theorem LineSteps.grown (h : LineSteps b l l') : CountersGrown l.counters l'.counters :=
  h.keeps (Q := fun x => CountersGrown l.counters x.counters) (fun _ _ a k => k.trans a.grown) (.refl _)

/-- The fields that only the ends of attempts and received bulletins change. -/
structure LineHeld (l l' : LineUnit) : Prop where
  bitErrorRun : l'.bitErrorRun = l.bitErrorRun
  noTakerRun : l'.noTakerRun = l.noTakerRun
  ackSlot : l'.ackSlot = l.ackSlot

theorem LineStep.held (h : LineStep b l l') : LineHeld l l' := by
  cases h with
  | placed e s _ =>
    obtain ⟨q, c, h⟩ := queueOnly_enqueue e s
    rw [h]
    exact ⟨rfl, rfl, rfl⟩
  | field p _ _ h => cases p <;> rw [h] <;> exact ⟨rfl, rfl, rfl⟩
  | _ => exact ⟨rfl, rfl, rfl⟩

theorem LineSteps.held (h : LineSteps b l l') : LineHeld l l' :=
  h.keeps (Q := LineHeld l) (fun _ _ a k => ⟨a.held.1.trans k.1, a.held.2.trans k.2, a.held.3.trans k.3⟩)
    ⟨rfl, rfl, rfl⟩

/-- The acts but the line unit's own counts change its queue and counters alone. -/
theorem LineSteps.queueOnly (h : LineSteps false l l') : ∃ q c, l' = { l with queue := q, counters := c } := by
  refine h.keeps (Q := fun x => ∃ q c, x = { l with queue := q, counters := c }) (fun x y a hx => ?_) ⟨_, _, rfl⟩
  obtain ⟨q, c, rfl⟩ := hx
  generalize hm : ({ l with queue := q, counters := c } : LineUnit) = m at a
  cases a with
  | placed e s _ =>
    obtain ⟨q', c', he⟩ := queueOnly_enqueue e s
    rw [he]
    refine ⟨q', c', ?_⟩
    rw [State.onLine_line, ← hm]
  | counted c' => exact ⟨q, c', by rw [← hm]⟩
  | requeued q' => exact ⟨q', c, by rw [← hm]⟩

/-- No entry is set in flight but by an offer. -/
theorem LineSteps.none_flies (h : LineSteps b l l') (hl : ∀ x ∈ l.queue, x.inFlight = false) :
    ∀ x ∈ l'.queue, x.inFlight = false := by
  refine h.keeps (Q := fun l => ∀ x ∈ l.queue, x.inFlight = false) (fun l l' a hl => ?_) hl
  cases a with
  | placed e s hn =>
    intro x hx
    rcases mem_enqueue hx with hx | ⟨y, hy, hx⟩ <;> rw [hx]
    · exact hn.waits
    · exact hl y hy
  | requeued q _ hq =>
    intro x hx
    obtain ⟨y, hy, -, hf⟩ := hq x hx
    exact hf.trans (hl y hy)
  | field p _ _ h => cases p <;> rw [h] <;> exact hl
  | _ => exact hl

/-- Outside ACTIVE an empty queue stays empty. -/
theorem LineSteps.stays_empty (h : LineSteps b l l') (hs : l.state ≠ .active) (hl : l.queue = []) :
    l'.state ≠ .active ∧ l'.queue = [] := by
  refine h.keeps (Q := fun l => l.state ≠ .active ∧ l.queue = []) (fun l l' a ⟨hs, hl⟩ => ?_) ⟨hs, hl⟩
  cases a with
  | placed e s hn =>
    rw [enqueue_refused hs]
    exact ⟨hs, hl⟩
  | requeued q _ hq =>
    refine ⟨hs, List.eq_nil_iff_forall_not_mem.2 fun x hx => ?_⟩
    obtain ⟨y, hy, -⟩ := hq x hx
    rw [hl] at hy
    cases hy
  | counted => exact ⟨hs, hl⟩
  | field p _ _ h => cases p <;> rw [h] <;> exact ⟨hs, hl⟩
  | queries => exact ⟨hs, hl⟩
  | rejoin => exact ⟨fun h => (nomatch h), hl⟩

end

end Sys2Proof.Machine
end

section
/-! PROOFS. The end of an attempt (R6, R7, R13, R14, R19). -/

namespace Sys2Proof.Machine

/-! ### The commands with an entry in flight -/

section
variable {s : State} {k : Nat} {e : Entry} (h : FlightAt s k e)
include h

theorem exec_arbitrationLoss : exec .arbitrationLoss s = .next (flightEnds { e with rank := 0 } id
    ((begin s).count fun c => { c with arbitrationLosses := bump c.arbitrationLosses })) := by
  simp only [exec, execArbitrationLoss, flight_begin h]

theorem exec_bitError : exec .bitError s = .next (bitErrorEnds { e with rank := 0 } (begin s)) := by
  simp only [exec, execBitError, flight_begin h]

end

theorem flightEnds_lands {e : Entry} (h : e.due = none) (g : Entry → Entry) (s : State) :
    flightEnds e g s = landFlight g s := by simp only [flightEnds, h]

/-- One of the first three attempts that fails goes back to waiting. -/
theorem attemptFails_again {e : Entry} (h : e.attempts < 3) (s : State) :
    attemptFails e s = flightEnds e (fun e => { e with attempts := e.attempts + 1 }) s :=
  if_neg (by show ¬ 4 ≤ e.attempts + 1; omega)

/-- The fourth ends "no taker". -/
theorem attemptFails_last {e : Entry} (h : 3 ≤ e.attempts) (s : State) : attemptFails e s = noTaker e s :=
  if_pos (show 4 ≤ e.attempts + 1 by omega)

/-! ### The owners (TABLE 1-7) -/

/-- Kinds on whose outcome some block acts. -/
def ownerActs : Kind → Bool
  | .shareAsk | .shareGrant | .shareReturn | .xferAsk | .xferYield => true
  | _ => false

theorem outcomeFailed_unowned {e : Entry} (h : ownerActs e.kind = false) (s : State) : outcomeFailed e s = s := by
  unfold outcomeFailed
  split
  case h_6 => rfl
  all_goals
    rename_i hk
    rw [hk] at h
    cases h

/-- An owner places ALARM bulletins and mutes, no more. -/
theorem outcomeFailed_lines {b : Bool} (e : Entry) (s : State) : LineSteps b s.line (outcomeFailed e s).line := by
  by_cases hk : e.kind = .shareGrant
  · rw [outcomeFailed_grant hk]
    exact lineSteps_of_eq ((tellLender_frame e s).1 .line (by decide))
  · exact (outcomeFailed_moves hk s).lineSteps fun g hg => by
      rw [show g.ofLine = false from by revert g; decide]
      exact fun h => (nomatch h)

/-! ### The fourth attempt (R13, R14) -/

/-- The entry in flight leaves "no taker". -/
def leaveQueue (s : State) : State := (dropFlight s).count fun c => { c with noTaker := bump c.noTaker }

/-- A broadcast more has ended "no taker" in a row, up to 4 (log entry 23). -/
def runOn (s : State) : State := s.onLine fun l => { l with noTakerRun := min 4 (s.line.noTakerRun + 1) }

theorem noTaker_eq (e : Entry) (s : State) : noTaker e s =
    outcomeFailed e (if e.kind.isBroadcast then broadcastLost (leaveQueue s) else leaveQueue s) := rfl

/-- A run below 4 is no alone indication. -/
theorem broadcastLost_below {s : State} (h : s.line.noTakerRun < 3) : broadcastLost s = runOn s :=
  if_neg (by show ¬ 4 ≤ min 4 (s.line.noTakerRun + 1); omega)

/-- The fourth broadcast in a row sets the alone indication (R14). -/
theorem broadcastLost_alone {s : State} (h : 3 ≤ s.line.noTakerRun) :
    broadcastLost s = raiseQuiet .lineAlone none ((runOn s).onTime fun t => { t with alone := true }) :=
  if_pos (by show 4 ≤ min 4 (s.line.noTakerRun + 1); omega)

theorem broadcastLost_line (s : State) : LineSteps false (runOn s).line (broadcastLost s).line := by
  rcases Nat.lt_or_ge s.line.noTakerRun 3 with h | h
  · rw [broadcastLost_below h]
    exact .refl _
  · rw [broadcastLost_alone h]
    exact (raiseQuiet_alarmLine _ _ ((runOn s).onTime fun t => { t with alone := true })).lineSteps

/-- What follows the entry's leaving is ALARM placements and mutes. -/
theorem noTaker_line (e : Entry) (s : State) :
    LineSteps false (if e.kind.isBroadcast then runOn (leaveQueue s) else leaveQueue s).line (noTaker e s).line := by
  rw [noTaker_eq]
  split
  · exact (broadcastLost_line _).trans (outcomeFailed_lines _ _)
  · exact outcomeFailed_lines _ _

/-! ### A bit error (R7, R19) -/

/-- The line unit that an attempt's end leaves, before the owners act: nothing flies, and a fourth attempt counts. -/
structure AttemptOver (e : Entry) (l l' : LineUnit) : Prop where
  run : l'.bitErrorRun = l.bitErrorRun
  errors : l'.counters.bitErrors = l.counters.bitErrors
  none_flies : ∀ x ∈ l'.queue, x.inFlight = false
  last : 3 ≤ e.attempts → l'.counters.noTaker = bump l.counters.noTaker

theorem none_flies_filter (q : List Entry) : ∀ x ∈ q.filter (fun e => !e.inFlight), x.inFlight = false := fun x hx => by
  simpa using (List.mem_filter.1 hx).2

theorem none_flies_land (g : Entry → Entry) (q : List Entry) :
    ∀ x ∈ q.map (fun e => if e.inFlight then { g e with inFlight := false } else e), x.inFlight = false := by
  intro x hx
  obtain ⟨y, -, rfl⟩ := List.mem_map.1 hx
  by_cases hy : y.inFlight = true
  · rw [if_pos hy]
  · rw [if_neg hy]
    simpa using hy

theorem count_lines {b : Bool} (g : LineCounters → LineCounters) (s : State)
    (h : CountersUp s.line.counters (g s.line.counters)) : LineSteps b s.line (s.count g).line :=
  (LineStep.counted _ s.line h).steps

/-- What follows the end of a failed attempt is ALARM placements, mutes and counts. -/
theorem attemptFails_line (e : Entry) (s : State) :
    ∃ l, AttemptOver e s.line l ∧ LineSteps false l (attemptFails e s).line := by
  have dropped := none_flies_filter s.line.queue
  rcases Nat.lt_or_ge e.attempts 3 with ha | ha
  · rw [attemptFails_again ha]
    unfold flightEnds
    split
    · exact ⟨(landFlight _ s).line, ⟨rfl, rfl, none_flies_land _ s.line.queue, fun h => absurd h ha.not_ge⟩, .refl _⟩
    · refine ⟨(dropFlight s).line, ⟨rfl, rfl, dropped, fun h => absurd h ha.not_ge⟩, ?_⟩
      unfold applyDue
      split
      · unfold countReplaced
        split
        · exact count_lines _ _ (.of_eq rfl rfl rfl rfl)
        · exact count_lines _ _ (.of_eq rfl rfl rfl rfl)
        · exact .refl _
      · exact (count_lines (fun c => { c with expired := bump c.expired }) (dropFlight s)
          (.of_eq rfl rfl rfl rfl)).trans (outcomeFailed_lines e _)
  · rw [attemptFails_last ha]
    refine ⟨_, ?_, noTaker_line e s⟩
    split
    · exact ⟨rfl, rfl, dropped, fun _ => rfl⟩
    · exact ⟨rfl, rfl, dropped, fun _ => rfl⟩

/-- The line unit at entry to LINE FAULT (R19). -/
def faultedLine (l : LineUnit) : LineUnit :=
  { l with state := .lineFault, queue := [], queries := [], bitErrorRun := 0, faultStarts := 0 }

theorem foldl_lines {α : Type} {b : Bool} {f : State → α → State} (hf : ∀ s x, LineSteps b s.line (f s x).line)
    (l : List α) (s : State) : LineSteps b s.line (l.foldl f s).line := by
  induction l generalizing s with
  | nil => exact .refl _
  | cons x l ih => exact (hf s x).trans (ih _)

theorem enterLineFault_line (s : State) : LineSteps false (faultedLine s.line) (enterLineFault s).line := by
  have flushed := foldl_lines (b := false) (f := flushEntry) (fun s e =>
    (count_lines (fun c => { c with refused := bump c.refused }) s (countRefused_up _)).trans
      (outcomeFailed_lines e s.countRefused)) s.line.queue (s.onLine faultedLine)
  exact flushed.trans (raiseQuiet_alarmLine _ _ _).lineSteps

/-! ### LINE FAULT stands: the raises at the flush are warnings, which give way (R167) -/

/-- The records of STOP or TRIP severity. -/
def heavy (l : List AlarmRecord) : Nat := (l.filter fun r => r.code.severity ≠ .warn).length

theorem heavy_le (l : List AlarmRecord) : heavy l ≤ l.length := List.length_filter_le _ _

theorem heavy_sublist {l l' : List AlarmRecord} (h : l'.Sublist l) : heavy l' ≤ heavy l := (h.filter _).length_le

theorem heavy_alarmInsert {r : AlarmRecord} (h : r.code.severity = .warn) (l : List AlarmRecord) :
    heavy (alarmInsert r l) = heavy l := by
  induction l with
  | nil => simp [alarmInsert, heavy, h]
  | cons x l ih =>
    unfold alarmInsert
    split
    · simp [heavy, h]
    · simp only [heavy, List.filter_cons] at ih ⊢
      split
      · rw [List.length_cons, List.length_cons, ih]
      · exact ih

theorem heavy_map {f : AlarmRecord → AlarmRecord} {l : List AlarmRecord} (h : ∀ x ∈ l, (f x).code = x.code) :
    heavy (l.map f) = heavy l := by
  unfold heavy
  rw [List.filter_map, List.length_map]
  refine congrArg List.length (List.filter_congr fun x hx => ?_)
  rw [Function.comp_apply, h x hx]

/-- The raise of a warning brings no record of STOP or TRIP severity. -/
theorem heavy_raise {c : AlarmCode} (hc : c.severity = .warn) (d : Option Nat) (s : State) :
    heavy (raiseQuiet c d s).alarms.list ≤ heavy s.alarms.list := by
  unfold raiseQuiet
  by_cases hj : s.joined = true
  · cases hf : s.alarms.list.find? (isRecord c d) with
    | none =>
      rw [raiseRecord_absent hj hf]
      by_cases hl : s.alarms.list.length < Config.alarmListSize
      · rw [enterRecord_room hl, report_list, heavy_alarmInsert hc]
      · cases hv : alarmVictim c.severity s.alarms.list with
        | some k =>
          rw [enterRecord_evicts (r := freshRecord c d s.now) hl hv, report_list, heavy_alarmInsert hc]
          exact heavy_sublist (List.eraseIdx_sublist _ _)
        | none => rw [enterRecord_lost (r := freshRecord c d s.now) hl hv]; exact le_rfl
    | some r =>
      have code : r.code = c := isRecord_code (List.find?_some hf)
      by_cases hr : r.state = .clearedUnack
      · rw [raiseRecord_anew hj hf hr, report_list, heavy_alarmInsert (by rw [code, hc])]
        exact heavy_sublist List.filter_sublist
      · rw [raiseRecord_again hj hf hr, report_list, heavy_map]
        intro x _
        split
        · next hx => rw [isRecord_code hx, code]
        · rfl
  · rw [raiseRecord_idle (by simpa using hj)]

theorem heavy_clear (c : AlarmCode) (d : Option Nat) (s : State) :
    heavy (clearAlarm c d s).alarms.list ≤ heavy s.alarms.list := by
  by_cases hj : s.joined = true
  · cases hf : s.alarms.list.find? (isRecord c d) with
    | none => rw [clearAlarm_absent hf]
    | some r =>
      have code : r.code = c := isRecord_code (List.find?_some hf)
      cases hr : r.state with
      | clearedUnack => rw [clearAlarm_cleared hf hr]
      | activeAck =>
        rw [clearAlarm_acked hj hf hr]
        exact heavy_sublist List.filter_sublist
      | activeUnack =>
        rw [clearAlarm_active hj hf hr, heavy_map]
        intro x _
        split
        · next hx => rw [isRecord_code hx]; exact code
        · rfl
  · rw [clearAlarm_idle (by simpa using hj)]

/-- Tags of moves that raise warnings alone. -/
def Tag.light : Tag → Bool
  | .raised c => c.severity == .warn
  | _ => true

theorem Move.heavy_le {g : Tag} {s t : State} (m : Move g s t) (hg : g.light = true) :
    heavy t.alarms.list ≤ heavy s.alarms.list := by
  by_cases hb : Block.alarms ∈ g.blocks
  · cases m with
    | raised c d => exact heavy_raise (by simpa [Tag.light] using hg) d s
    | cleared c d => exact heavy_clear c d s
    | dropped n => exact (heavy_clear _ _ _).trans (heavy_raise (by decide) _ s)
    | refresh => exact le_rfl
    | trip =>
      rw [(driveTripped_frame _).1 .alarms (by decide)]
      exact le_rfl
    | _ => exact absurd hb (by simp [Tag.blocks])
  · have : t.alarms = s.alarms := m.frame.1 .alarms hb
    rw [this]

theorem Moves.heavy_le {gs : List Tag} {s t : State} (m : Moves gs s t) (hg : ∀ g ∈ gs, g.light = true) :
    heavy t.alarms.list ≤ heavy s.alarms.list :=
  m.keeps (P := fun u => heavy u.alarms.list ≤ heavy s.alarms.list)
    (fun g hm _ _ m hu => (m.heavy_le (hg g hm)).trans hu) le_rfl

end Sys2Proof.Machine

open Sys2Proof Sys2Proof.Machine

/-- Settles O16: no removal is due, so the entry lands. -/
theorem undeliveredEntryWaits : Obligations.UndeliveredEntryWaits := by
  intro s k e h hd
  refine ⟨⟨_, exec_arbitrationLoss h, ?_⟩, fun ha => ⟨_, exec_attemptEnd h false, ?_⟩⟩
  · rw [flightEnds_lands (e := { e with rank := 0 }) hd]
    exact ⟨h.landed id, rfl, rfl, (count_frame _ _).trans (landFlight_frame _ _)⟩
  · simp only [Bool.false_eq_true, if_false]
    rw [attemptFails_again (e := { e with rank := 0 }) ha, flightEnds_lands (e := { e with rank := 0 }) hd]
    exact ⟨h.landed _, rfl, rfl, (onLine_frame _ _).trans (landFlight_frame _ _)⟩

/-- Settles O18: no owner acts on the kinds listed, so what remains is `broadcastLost`. -/
theorem fourthAttemptEndsNoTaker : Obligations.FourthAttemptEndsNoTaker := by
  intro s k e h ha hk
  have plain : ownerActs e.kind = false := by
    revert hk
    cases e.kind <;> decide
  refine ⟨_, exec_attemptEnd h false, ?_⟩
  simp only [Bool.false_eq_true, if_false]
  rw [attemptFails_last (e := { e with rank := 0 }) ha.ge, noTaker_eq,
    outcomeFailed_unowned (e := { e with rank := 0 }) plain]
  have dropped : (dropFlight ((begin s).onLine fun l => { l with bitErrorRun := 0 })).line.queue =
      (begin s).line.queue.eraseIdx k := h.dropped
  by_cases hb : e.kind.isBroadcast = true
  · rw [if_pos hb]
    refine ⟨(broadcastLost_line _).grown.noTaker, fun hn => absurd hb (by simp [hn]), fun _ =>
      ⟨(broadcastLost_line _).held.noTakerRun, fun hr => ?below, fun hr => ?alone⟩⟩
    case below =>
      rw [broadcastLost_below (by exact hr)]
      exact ⟨dropped, rfl⟩
    case alone =>
      rw [broadcastLost_alone (by exact hr)]
      exact congrArg LineTime.alone ((quiet_frame _ _ _).1 .time (by decide))
  · rw [if_neg hb]
    exact ⟨rfl, fun _ => ⟨dropped, rfl, ((onLine_frame _ _).trans (dropFlight_frame _)).trans (count_frame _ _)⟩,
      fun hb' => absurd hb' hb⟩
end

section
/-! PROOFS. The bit error, and the entry to LINE FAULT that a sixteenth brings (R7, R19). -/

namespace Sys2Proof.Machine

/-! ### What the ends of attempts do to the alarm unit -/

/-- The station has joined, and fewer than 20 of its records are of STOP or TRIP severity. -/
def LightlyJoined (s : State) : Prop := s.joined = true ∧ heavy s.alarms.list < 20

theorem LightlyJoined.moves {gs : List Tag} {s t : State} (h : LightlyJoined s) (m : Moves gs s t)
    (hg : ∀ g ∈ gs, g.light = true) : LightlyJoined t :=
  ⟨m.joined.trans h.1, (m.heavy_le hg).trans_lt h.2⟩

theorem LightlyJoined.same {s t : State} (h : LightlyJoined s) (hu : t.startup = s.startup) (ha : t.alarms = s.alarms) :
    LightlyJoined t := ⟨(joined_of_startup hu).trans h.1, ha ▸ h.2⟩

theorem LightlyJoined.outcomeFailed {s : State} (h : LightlyJoined s) (e : Entry) : LightlyJoined (outcomeFailed e s) := by
  by_cases hk : e.kind = .shareGrant
  · rw [outcomeFailed_grant hk]
    have f := tellLender_frame e s
    exact h.same (f.1 .startup (by decide)) (f.1 .alarms (by decide))
  · exact h.moves (outcomeFailed_moves hk s) (by decide)

theorem LightlyJoined.broadcastLost {s : State} (h : LightlyJoined s) : LightlyJoined (broadcastLost s) := by
  rcases Nat.lt_or_ge s.line.noTakerRun 3 with hr | hr
  · rw [broadcastLost_below hr]
    exact h
  · rw [broadcastLost_alone hr]
    exact LightlyJoined.moves (s := (runOn s).onTime fun t => { t with alone := true }) h
      ((Move.raised .lineAlone none _ (by decide)).moves (gs := [.raised .lineAlone]) (by decide)) (by decide)

theorem LightlyJoined.attemptFails {s : State} (h : LightlyJoined s) (e : Entry) : LightlyJoined (attemptFails e s) := by
  rcases Nat.lt_or_ge e.attempts 3 with ha | ha
  · rw [attemptFails_again ha]
    unfold flightEnds
    split
    · exact h
    · unfold applyDue
      split
      · unfold countReplaced
        split <;> exact h
      · exact LightlyJoined.outcomeFailed (s := (dropFlight s).count fun c => { c with expired := bump c.expired }) h e
  · rw [attemptFails_last ha, noTaker_eq]
    refine LightlyJoined.outcomeFailed ?_ e
    split
    · exact LightlyJoined.broadcastLost (s := leaveQueue s) h
    · exact h

/-- A LINE FAULT raised where few records are of STOP or TRIP severity stands: in a full list a warning gives way
(R167). -/
theorem LightlyJoined.faultStands {s : State} (h : LightlyJoined s) :
    ∃ r ∈ (enterLineFault s).alarms.list, r.code = .lineFault ∧ r.state ≠ .clearedUnack := by
  have flushed : ∀ (l : List Entry) (u : State), LightlyJoined u → LightlyJoined (l.foldl flushEntry u) := by
    intro l
    induction l with
    | nil => exact fun u hu => hu
    | cons e l ih => exact fun u hu => ih _ (LightlyJoined.outcomeFailed (s := u.countRefused) hu e)
  obtain ⟨hj, hh⟩ := flushed s.line.queue (s.onLine faultedLine) h
  rcases raiseRecord_stands .lineFault none hj with ⟨r, hr, hk, ha⟩ | ⟨hfull, hv, -⟩
  · exact ⟨r, hr, congrArg Prod.fst hk, ha⟩
  · exfalso
    obtain ⟨x, hx, hw⟩ : ∃ x ∈ (s.line.queue.foldl flushEntry (s.onLine faultedLine)).alarms.list,
        x.code.severity = .warn := by
      by_contra hno
      push Not at hno
      have all : heavy (s.line.queue.foldl flushEntry (s.onLine faultedLine)).alarms.list
          = (s.line.queue.foldl flushEntry (s.onLine faultedLine)).alarms.list.length :=
        congrArg List.length (List.filter_eq_self.2 fun x hx => by simpa using hno x hx)
      have : (24 : Nat) ≤ (s.line.queue.foldl flushEntry (s.onLine faultedLine)).alarms.list.length := hfull
      omega
    exact alarmVictim_some (by decide) hx hw hv

/-- The state in which the attempt ends that a bit error ends. -/
def errorCounted (s : State) : State :=
  (s.onLine fun l => { l with bitErrorRun := s.line.bitErrorRun + 1 }).count fun c =>
    { c with bitErrors := bump c.bitErrors }

theorem bitErrorEnds_below {e : Entry} {s : State} (h : s.line.bitErrorRun < 15) :
    bitErrorEnds e s = attemptFails e (errorCounted s) :=
  if_neg (show ¬ 16 ≤ s.line.bitErrorRun + 1 by omega)

theorem bitErrorEnds_sixteenth {e : Entry} {s : State} (h : 15 ≤ s.line.bitErrorRun) :
    bitErrorEnds e s = enterLineFault (attemptFails e (errorCounted s)) :=
  if_pos (show 16 ≤ s.line.bitErrorRun + 1 by omega)

/-- What a bit error counts, whichever attempt it ends. -/
theorem bitErrorEnds_counts (e : Entry) (s : State) :
    (bitErrorEnds e s).line.counters.bitErrors = bump s.line.counters.bitErrors
      ∧ (3 ≤ e.attempts → (bitErrorEnds e s).line.counters.noTaker = bump s.line.counters.noTaker) := by
  obtain ⟨l, ended, steps⟩ := attemptFails_line e (errorCounted s)
  rcases Nat.lt_or_ge s.line.bitErrorRun 15 with h | h
  · rw [bitErrorEnds_below h]
    exact ⟨steps.grown.bitErrors.trans ended.errors, fun ha => steps.grown.noTaker.trans (ended.last ha)⟩
  · rw [bitErrorEnds_sixteenth h]
    have faulted := (enterLineFault_line (attemptFails e (errorCounted s))).grown
    exact ⟨(faulted.bitErrors.trans steps.grown.bitErrors).trans ended.errors, fun ha =>
      (faulted.noTaker.trans steps.grown.noTaker).trans (ended.last ha)⟩

end Sys2Proof.Machine

open Sys2Proof Sys2Proof.Machine

/-- Settles O19: the attempt ends first, and the flush of a sixteenth error raises warnings alone before LINE FAULT. -/
theorem bitErrorsEnterLineFault : Obligations.BitErrorsEnterLineFault := by
  intro s k e h
  obtain ⟨errors, last⟩ := bitErrorEnds_counts { e with rank := 0 } (begin s)
  refine ⟨_, exec_bitError h, errors, last, fun hr => ?below, fun hr => ?sixteenth⟩
  case below =>
    rw [bitErrorEnds_below (s := begin s) hr]
    obtain ⟨l, ended, steps⟩ := attemptFails_line { e with rank := 0 } (errorCounted (begin s))
    refine ⟨steps.held.bitErrorRun.trans ended.run, steps.none_flies ended.none_flies, fun ha hd => ?_⟩
    rw [attemptFails_again (e := { e with rank := 0 }) ha, flightEnds_lands (e := { e with rank := 0 }) hd]
    exact ⟨h.landed _, ((onLine_frame _ _).trans (count_frame _ _)).trans (landFlight_frame _ _)⟩
  case sixteenth =>
    rw [bitErrorEnds_sixteenth (s := begin s) hr]
    have steps := enterLineFault_line (attemptFails { e with rank := 0 } (errorCounted (begin s)))
    have empty := (steps.stays_empty (fun h => (nomatch h)) rfl).2
    obtain ⟨q, c, hl⟩ := steps.queueOnly
    refine ⟨?_, empty, ?_, ?_, ?_, fun hj hlist => ?stands⟩
    · rw [hl]; rfl
    · rw [hl]; rfl
    · rw [hl]; rfl
    · rw [hl]; rfl
    case stands =>
      have light : LightlyJoined (errorCounted (begin s)) := ⟨hj, (heavy_le _).trans_lt hlist⟩
      exact (light.attemptFails { e with rank := 0 }).faultStands
end

section
/-! PROOFS. The delivered attempt and what the owners do at it (R13, R103, R130, R169, R175, R180). -/

namespace Sys2Proof.Machine

/-! ### The delivered entry leaves -/

/-- The entry in flight leaves as sent. -/
def leaveSent (s : State) : State := (dropFlight s).count fun c => { c with sent := bump c.sent }

/-- A broadcast delivered ends the run of "no taker" and the alone indication (R14). -/
def runEnds (s : State) : State := (s.onLine fun l => { l with noTakerRun := 0 }).onTime fun t => { t with alone := false }

theorem broadcastDelivered_eq (s : State) :
    broadcastDelivered s = if s.time.alone then clearAlarm .lineAlone none (runEnds s) else runEnds s := rfl

/-- The state in which the owner acts on a delivery. -/
def deliveredTo (e : Entry) (s : State) : State :=
  clearAlarm .lineFault none (if e.kind.isBroadcast then broadcastDelivered (leaveSent s) else leaveSent s)

theorem attemptDelivered_eq (e : Entry) (s : State) : attemptDelivered e s = outcomeDelivered e (deliveredTo e s) := rfl

/-- With no alarm listed nothing is to be cleared. -/
theorem clearAlarm_nil {s : State} (h : s.alarms.list = []) (c : AlarmCode) (d : Option Nat) : clearAlarm c d s = s :=
  clearAlarm_absent (by rw [h]; rfl)

theorem deliveredTo_nil {s : State} (h : s.alarms.list = []) (e : Entry) :
    deliveredTo e s = if e.kind.isBroadcast then runEnds (leaveSent s) else leaveSent s := by
  have clear : ∀ u : State, u.alarms = s.alarms → ∀ c d, clearAlarm c d u = u := fun u hu c d =>
    clearAlarm_nil (by rw [hu, h]) c d
  unfold deliveredTo
  rw [broadcastDelivered_eq, clear (runEnds (leaveSent s)) rfl, ite_self]
  refine clear _ ?_ _ _
  split <;> rfl

theorem ackList_nil {s : State} (h : s.alarms.list = []) (t : Stamp) : ackList t s = s := by
  unfold ackList
  rw [h]
  split <;> rfl

/-- The blocks that the owners of delivered bulletins but the RESTART change where no alarm is listed. -/
theorem outcomeDelivered_nil {e : Entry} {s : State} (h : s.alarms.list = []) (hk : e.kind ≠ .restart) :
    (outcomeDelivered e s).line = s.line ∧ (outcomeDelivered e s).time.alone = s.time.alone := by
  unfold outcomeDelivered
  split
  · unfold inStepPace; dsimp only
    rw [clearAlarm_nil (by exact h), ite_self]
    exact ⟨rfl, rfl⟩
  · unfold statusDelivered
    split <;> exact ⟨rfl, rfl⟩
  · have f := grantDelivered_frame e s
    exact ⟨f.1 .line (by decide), congrArg LineTime.alone (f.1 .time (by decide))⟩
  · have f := returnDelivered_frame e s
    exact ⟨f.1 .line (by decide), congrArg LineTime.alone (f.1 .time (by decide))⟩
  · unfold yieldDelivered
    split
    · have f := setOwnership_frame .yielded (s.onRope fun r =>
        { r with walkSeen := false, reclaimPending := false, yieldWait := 0 })
      exact ⟨f.1 .line (by decide), congrArg LineTime.alone (f.1 .time (by decide))⟩
    · exact ⟨rfl, rfl⟩
  · unfold ackDelivered
    rw [ackList_nil (by exact h)]
    split <;> exact ⟨rfl, rfl⟩
  · next hr => exact absurd hr hk
  · exact ⟨rfl, rfl⟩

theorem peer_setPeer {n : Nat} {s : State} (h : n < s.picture.peers.length) (g : PeerRecord → PeerRecord) :
    (setPeer n g s).peer n = g (s.peer n) := by
  show ((s.picture.peers.set n (g (s.peer n))).getD n {}) = _
  rw [List.getD_eq_getElem?_getD, List.getElem?_set_self h, Option.getD_some]

end Sys2Proof.Machine

open Sys2Proof Sys2Proof.Machine

/-- Settles O17: with no alarm listed the clears do nothing, and the owners of these kinds leave the line unit. -/
theorem deliveredEntryLeaves : Obligations.DeliveredEntryLeaves := by
  intro s k e h hlist hk
  refine ⟨_, exec_attemptEnd h true, ?_⟩
  simp only [if_true]
  rw [attemptDelivered_eq]
  generalize hu : (begin s).onLine (fun l => { l with bitErrorRun := 0 }) = u
  have none_listed : u.alarms.list = [] := by rw [← hu]; exact hlist
  have dropped : (leaveSent u).line.queue = (begin s).line.queue.eraseIdx k := by rw [← hu]; exact h.dropped
  have counted : (leaveSent u).line.counters = { s.line.counters with sent := bump s.line.counters.sent } := by
    rw [← hu]; rfl
  have run : (leaveSent u).line.bitErrorRun = 0 := by rw [← hu]; rfl
  have row : (leaveSent u).line.noTakerRun = s.line.noTakerRun := by rw [← hu]; rfl
  have sent := deliveredTo_nil none_listed { e with rank := 0 }
  have listed : (deliveredTo { e with rank := 0 } u).alarms.list = [] := by
    rw [sent]
    split <;> exact none_listed
  obtain ⟨line, alone⟩ := outcomeDelivered_nil (e := { e with rank := 0 }) listed hk
  rw [line, alone]
  have own : e.kind = .status → s.station < s.picture.peers.length → ∀ x, StatusFields.read e.words = some x →
      (outcomeDelivered { e with rank := 0 } (deliveredTo { e with rank := 0 } u)).peer s.station
        = { s.peer s.station with status := x, lastSeq := e.seq, heard := true, age := 0 } := by
    intro hk hin x hx
    have same : (deliveredTo { e with rank := 0 } u).picture = s.picture
        ∧ (deliveredTo { e with rank := 0 } u).station = s.station := by
      rw [sent, ← hu]
      split <;> exact ⟨rfl, rfl⟩
    have delivered : outcomeDelivered { e with rank := 0 } (deliveredTo { e with rank := 0 } u)
        = statusDelivered { e with rank := 0 } (deliveredTo { e with rank := 0 } u) := by
      unfold outcomeDelivered
      simp only [hk]
    have read : statusDelivered { e with rank := 0 } (deliveredTo { e with rank := 0 } u)
        = setPeer s.station (fun p => { p with status := x, lastSeq := e.seq, heard := true, age := 0 })
            (deliveredTo { e with rank := 0 } u) := by
      unfold statusDelivered
      simp only [hx, same.2]
    rw [delivered, read, peer_setPeer (by rw [same.1]; exact hin)]
    unfold State.peer
    rw [same.1]
  rw [sent]
  refine ⟨?_, ?_, ?_, fun hb => ?_, fun hb => ?_, fun hk hin x hx => ?_⟩
  · refine Eq.trans ?_ dropped
    split <;> rfl
  · refine Eq.trans ?_ counted
    split <;> rfl
  · refine Eq.trans ?_ run
    split <;> rfl
  · rw [if_pos hb]
    exact ⟨rfl, rfl⟩
  · rw [if_neg (by rw [hb]; decide)]
    exact row
  · rw [← sent, own hk hin x hx]
    exact ⟨rfl, rfl, rfl, rfl⟩


namespace Sys2Proof.Machine

/-! ### The share unit and the drag at a delivery -/

theorem leaveSent_frame (s : State) : Frame [.line] s (leaveSent s) :=
  (onLine_frame s _).comp (count_frame _ _) (by decide) (by decide)

/-- What is delivered of a directed bulletin before its owner acts. -/
theorem deliveredTo_frame {e : Entry} (h : e.kind.isBroadcast = false) (s : State) :
    Frame alarmBlocks s (deliveredTo e s) := by
  unfold deliveredTo
  rw [h]
  exact (leaveSent_frame s).comp (clear_frame _ _ _) (by decide) (by decide)

/-- The state in which the owner of a delivered directed bulletin acts. -/
theorem delivered_directed {s : State} {k : Nat} {e : Entry} (h : FlightAt s k e) (hb : e.kind.isBroadcast = false) :
    ∃ u, exec (.attemptEnd true) s = .next (outcomeDelivered { e with rank := 0 } u) ∧ Frame alarmBlocks (begin s) u :=
  ⟨_, exec_attemptEnd h true,
    (onLine_frame (begin s) _).comp (deliveredTo_frame (e := { e with rank := 0 }) hb _) (by decide) (by decide)⟩

/-- The lent records after a grant to `peer` is booked (R103). -/
def lentAfter (peer k : Nat) (g : Word) (term : Nat) (was : List LentRecord) : List LentRecord :=
  (bookLent peer k g term { lentRecords := was }).lentRecords

theorem bookLent_lentRecords (peer k : Nat) (g : Word) (term : Nat) (h : Share) :
    (bookLent peer k g term h).lentRecords = lentAfter peer k g term h.lentRecords := rfl

theorem lentAfter_new {peer : Nat} {was : List LentRecord} (h : ∀ r ∈ was, r.peer ≠ peer) (k : Nat) (g : Word)
    (term : Nat) : lentAfter peer k g term was = was ++ [⟨peer, k, term, none, g⟩] := by
  have none_of : was.any (fun r => r.peer == peer) = false := by simpa using h
  unfold lentAfter bookLent
  dsimp only
  rw [none_of]
  rfl

theorem lentAfter_again {peer : Nat} {was : List LentRecord} (h : ∃ r ∈ was, r.peer = peer) (k : Nat) (g : Word)
    (term : Nat) :
    lentAfter peer k g term was = was.map fun r => if r.peer = peer then ⟨peer, r.count + k, term, none, g⟩ else r := by
  have some_of : was.any (fun r => r.peer == peer) = true := by simpa using h
  unfold lentAfter bookLent
  dsimp only
  rw [some_of, if_pos rfl]
  refine List.map_congr_left fun r _ => ?_
  by_cases hr : r.peer = peer
  · rw [if_pos (beq_iff_eq.mpr hr), if_pos hr, ← hr]
  · rw [if_neg (by simpa using hr), if_neg hr]

theorem grantDelivered_share {e : Entry} (h1 : 1 ≤ countOf e.words) (h64 : countOf e.words ≤ 64) (s : State) :
    (grantDelivered e s).share
      = bookLent e.target.toNat (countOf e.words) (grantOf e.words) s.globals.loanTerm s.share := by
  unfold grantDelivered
  have range : countInRange (countOf e.words) = true := decide_eq_true ⟨h1, h64⟩
  simp only [range, if_true]
  rfl

theorem yieldDelivered_rope {e : Entry} {s : State} (hm : e.muted = false) (ho : s.rope.ownership = .yielding)
    (hy : s.rope.yieldSent = true) : (yieldDelivered e s).rope
      = { s.rope with walkSeen := false, reclaimPending := false, yieldWait := 0, ownership := .yielded } := by
  unfold yieldDelivered
  rw [if_pos ⟨ho, hy, by rw [hm]; rfl⟩]
  exact setOwnership_rope _ _

/-- The yield that ends "no taker" (R130). -/
theorem yieldFailed {e : Entry} {s : State} (hk : e.kind = .xferYield) (hm : e.muted = false)
    (ho : s.rope.ownership = .yielding) (hy : s.rope.yieldSent = true) : outcomeFailed e s = enterReclaiming s := by
  unfold outcomeFailed
  simp only [hk, hm, ho, hy]
  rfl

theorem enterReclaiming_axis {s : State} (ha : s.role.isAxis = true) :
    (enterReclaiming s).rope.ownership = .reclaiming
      ∧ (enterReclaiming s).ring = { s.ring with rearm := true, current := 0 } := by
  have watch := watchOwned_frame (setRearm (s.onRope fun r => { r with ownership := .reclaiming }))
  unfold enterReclaiming
  rw [watch.1 .rope (by decide), watch.1 .ring (by decide), setRearm_ring (by exact ha), (setRearm_frame _).1 .rope (by decide)]
  exact ⟨rfl, rfl⟩

end Sys2Proof.Machine

open Sys2Proof Sys2Proof.Machine

/-- Settles O20: a directed delivery reaches its owner over a state whose share unit and rope are the command's. -/
theorem deliveryMovesTokensAndMotors : Obligations.DeliveryMovesTokensAndMotors := by
  refine ⟨fun s k e h hk h1 h64 => ?_, fun acked s k e h hk hm hr ho hy => ?_⟩
  · obtain ⟨u, hu, f⟩ := delivered_directed h (by rw [hk]; rfl)
    have share : u.share = s.share := f.1 .share (by decide)
    have term : u.globals.loanTerm = s.globals.loanTerm := by rw [globals_of_startup (f.1 .startup (by decide))]; rfl
    have owner : outcomeDelivered { e with rank := 0 } u = grantDelivered { e with rank := 0 } u := by
      unfold outcomeDelivered
      simp only [hk]
    refine ⟨_, hu, ?_⟩
    rw [owner, grantDelivered_share (e := { e with rank := 0 }) h1 h64 u, share, term]
    exact ⟨rfl, rfl, rfl, rfl, rfl, fun hn => lentAfter_new hn _ _ _, fun hn => lentAfter_again hn _ _ _⟩
  · cases acked with
    | true =>
      obtain ⟨u, hu, f⟩ := delivered_directed h (by rw [hk]; rfl)
      have rope : u.rope = s.rope := f.1 .rope (by decide)
      have owner : outcomeDelivered { e with rank := 0 } u = yieldDelivered { e with rank := 0 } u := by
        unfold outcomeDelivered
        simp only [hk]
      refine ⟨_, hu, fun _ => ?_, fun hf => nomatch hf⟩
      rw [owner, yieldDelivered_rope (e := { e with rank := 0 }) hm (by rw [rope]; exact ho) (by rw [rope]; exact hy)]
      exact ⟨rfl, rfl, rfl, rfl⟩
    | false =>
      refine ⟨_, exec_attemptEnd h false, fun hf => (nomatch hf), fun _ ha => ?_⟩
      have axis : s.role.isAxis = true := by rw [hr]; rfl
      simp only [Bool.false_eq_true, if_false]
      rw [attemptFails_last (e := { e with rank := 0 }) ha.ge, noTaker_eq,
        if_neg (by rw [show ({ e with rank := 0 } : Entry).kind = .xferYield from hk]; decide),
        yieldFailed (e := { e with rank := 0 }) (s := leaveQueue ((begin s).onLine fun l =>
          { l with bitErrorRun := 0 })) hk hm ho hy]
      obtain ⟨owns, ring⟩ := enterReclaiming_axis (s := leaveQueue ((begin s).onLine fun l =>
        { l with bitErrorRun := 0 })) axis
      rw [ring]
      exact ⟨owns, rfl, rfl⟩


namespace Sys2Proof.Machine

/-! ### The cab at its own ALARM-ACK and RESTART -/

theorem ackDelivered_nil {s : State} (h : s.alarms.list = []) (hr : s.role = .cab) (t : Stamp) :
    (ackDelivered t s).table = ackTable t s.table := by
  unfold ackDelivered
  rw [if_pos hr, ackList_nil (by exact h)]
  rfl

theorem ackTable_other {m : MachineTable} (h : m.episode ≠ .floating) (t : Stamp) :
    (ackTable t m).episode = m.episode ∧ (ackTable t m).firstOut = m.firstOut := by
  unfold ackTable; dsimp only
  rw [if_neg h]
  exact ⟨rfl, rfl⟩

theorem ackTableRecord_removes {t : Stamp} {r : TableRecord} :
    ackTableRecord t r = none ↔ r.raised.le t = true ∧ r.state = .clearedUnack := by
  unfold ackTableRecord
  cases hl : r.raised.le t <;> cases hs : r.state <;> simp

/-- The record that a first-out copy names leaves at the ack. -/
def Named (t : Stamp) (f : FirstOut) (r : TableRecord) : Prop :=
  r.key = (f.source, f.code, f.detail) ∧ r.raised.le t = true ∧ r.state = .clearedUnack

theorem ackRemoves_iff (t : Stamp) (records : List TableRecord) (f : FirstOut) :
    ackRemoves t records f = true ↔ ∃ r ∈ records, Named t f r := by
  unfold ackRemoves
  rw [List.any_eq_true]
  refine exists_congr fun r => and_congr_right fun _ => ?_
  rw [Bool.and_eq_true, Option.isNone_iff_eq_none, ackTableRecord_removes, sameKey_iff]
  rfl

/-- The ack freezes a floating episode (R180, log entry 12). -/
theorem ackTable_floating {m : MachineTable} (h : m.episode = .floating) (t : Stamp) :
    (ackTable t m).episode = .frozen
    ∧ (ackTable t m).firstOut = if m.firstOut.any (ackRemoves t m.records) then m.firstOut
        else evaluateFirstOut { m with records := (ackTable t m).records } := by
  rw [ackTable_records]
  unfold ackTable; dsimp only
  rw [if_pos h]
  exact ⟨rfl, rfl⟩

/-- A clear brings no record of another code. -/
theorem clearAlarm_codes {c : AlarmCode} {d : Option Nat} {s : State} {x : AlarmRecord}
    (h : x ∈ (clearAlarm c d s).alarms.list) : ∃ y ∈ s.alarms.list, y.code = x.code := by
  by_cases hj : s.joined = true
  · cases hf : s.alarms.list.find? (isRecord c d) with
    | none => rw [clearAlarm_absent hf] at h; exact ⟨x, h, rfl⟩
    | some r =>
      cases hr : r.state with
      | clearedUnack => rw [clearAlarm_cleared hf hr] at h; exact ⟨x, h, rfl⟩
      | activeAck =>
        rw [clearAlarm_acked hj hf hr] at h
        exact ⟨x, List.mem_of_mem_filter h, rfl⟩
      | activeUnack =>
        rw [clearAlarm_active hj hf hr] at h
        rcases mem_replace h with rfl | ⟨hm, -⟩
        · exact ⟨r, List.mem_of_find?_eq_some hf, rfl⟩
        · exact ⟨x, hm, rfl⟩
  · rw [clearAlarm_idle (by simpa using hj)] at h; exact ⟨x, h, rfl⟩

theorem clearAlarm_tripStands {s : State} (h : s.tripStands = false) (c : AlarmCode) (d : Option Nat) :
    (clearAlarm c d s).tripStands = false := by
  rw [State.tripStands, List.any_eq_false] at h ⊢
  intro x hx
  obtain ⟨y, hy, code⟩ := clearAlarm_codes hx
  rw [← code]
  exact h y hy

/-- A RESTART that meets every condition of R175 is accepted; at the cab it closes the episode (R180). -/
theorem applyRestart_accepts {s : State} (hj : s.joined = true) (hm : s.alarms.mode = .tripped)
    (ht : s.tripStands = false) (hf : s.share.fresh = false) (hb : s.role.isAxis = true → s.drive.brakeInput = true) :
    applyRestart s = acceptRestart s := by
  unfold applyRestart restartFailure
  rw [if_neg (by rw [hj, hm]; decide), ht, hf]
  cases ha : s.role.isAxis with
  | false => rfl
  | true => rw [hb ha]; rfl

theorem acceptRestart_cab {s : State} (h : s.role = .cab) : (acceptRestart s).table
    = { s.table with episode := .closed, firstOut := none, restartTime := ⟨s.time.cycle, s.time.offset⟩ } := by
  unfold acceptRestart; dsimp only
  have axis : ¬ s.role.isAxis = true := by rw [h]; decide
  have stays : setRearm (s.onAlarms fun a => { a with mode := .run }) = s.onAlarms fun a => { a with mode := .run } :=
    if_neg axis
  rw [stays, if_pos (by exact h)]
  rfl

/-- What the clears before the owner's act leave of a station that awaits its RESTART. -/
theorem deliveredTo_restart {e : Entry} (hb : e.kind.isBroadcast = true) {s : State} (ht : s.tripStands = false) :
    (deliveredTo e s).alarms.mode = s.alarms.mode ∧ (deliveredTo e s).tripStands = false
      ∧ (deliveredTo e s).startup = s.startup ∧ (deliveredTo e s).share = s.share
      ∧ (deliveredTo e s).drive = s.drive
      ∧ (deliveredTo e s).time = { s.time with alone := false } := by
  have alone : ∀ (p : Prop) [Decidable p] (u : State), u.tripStands = false →
      (if p then clearAlarm .lineAlone none u else u).alarms.mode = u.alarms.mode
      ∧ (if p then clearAlarm .lineAlone none u else u).tripStands = false
      ∧ Frame alarmBlocks u (if p then clearAlarm .lineAlone none u else u) := by
    intro p _ u hu
    split
    · exact ⟨clearAlarm_mode _ _ _, clearAlarm_tripStands hu _ _, clear_frame _ _ _⟩
    · exact ⟨rfl, hu, .refl _ _⟩
  obtain ⟨mode, stands, f⟩ := alone ((leaveSent s).time.alone = true) (runEnds (leaveSent s)) ht
  unfold deliveredTo
  rw [if_pos hb, broadcastDelivered_eq]
  generalize (if (leaveSent s).time.alone = true then clearAlarm .lineAlone none (runEnds (leaveSent s))
    else runEnds (leaveSent s)) = u at mode stands f ⊢
  have g := f.trans (clear_frame .lineFault none u)
  exact ⟨(clearAlarm_mode _ _ _).trans mode, clearAlarm_tripStands stands _ _, g.1 .startup (by decide),
    g.1 .share (by decide), g.1 .drive (by decide), g.1 .time (by decide)⟩

end Sys2Proof.Machine

open Sys2Proof Sys2Proof.Machine

/-- Settles O21: the ack by the rule of the table's episode; the RESTART over a state that awaits it as before. -/
theorem cabDeliveriesRuleTheEpisode : Obligations.CabDeliveriesRuleTheEpisode := by
  refine ⟨fun s k e h hk hr hl => ?_, fun s k e h hk hr hj hm ht hf => ?_⟩
  · refine ⟨_, exec_attemptEnd h true, ?_⟩
    simp only [if_true]
    rw [attemptDelivered_eq]
    generalize hu : (begin s).onLine (fun l => { l with bitErrorRun := 0 }) = u
    have table : (outcomeDelivered { e with rank := 0 } (deliveredTo { e with rank := 0 } u)).table
        = ackTable (stampAt e.words 0) s.table := by
      have blocks : (deliveredTo { e with rank := 0 } u).alarms.list = [] ∧ (deliveredTo { e with rank := 0 } u).role = .cab
          ∧ (deliveredTo { e with rank := 0 } u).table = s.table := by
        rw [deliveredTo_nil (by rw [← hu]; exact hl), ← hu]
        split <;> exact ⟨hl, hr, rfl⟩
      have owner : outcomeDelivered { e with rank := 0 } (deliveredTo { e with rank := 0 } u)
          = ackDelivered (stampAt e.words 0) (deliveredTo { e with rank := 0 } u) := by
        unfold outcomeDelivered
        simp only [hk]
      rw [owner, ackDelivered_nil blocks.1 blocks.2.1, blocks.2.2]
    rw [table]
    refine ⟨ackTable_records _ _, fun floats => ?_, fun other => ackTable_other other _⟩
    obtain ⟨frozen, copy⟩ := ackTable_floating floats (stampAt e.words 0)
    have earliest : evaluateFirstOut { s.table with records := (ackTable (stampAt e.words 0) s.table).records }
        = (((ackTable (stampAt e.words 0) s.table).records.find? fun r => r.severity = .trip
            ∧ s.table.restartTime.le r.raised).map fun r => (⟨r.source, r.code, r.detail, r.raised⟩ : FirstOut)) := by
      unfold evaluateFirstOut
      refine congrArg (Option.map _) (congrArg (fun p => List.find? p _) (funext fun r => ?_))
      simp [Bool.beq_eq_decide_eq]
    refine ⟨frozen, fun hn => ?_, fun f hs => ⟨fun hex => ?_, fun hall => ?_⟩⟩
    · rw [copy, ← earliest]
      rw [hn]; rfl
    · rw [copy, hs, Option.any_some, if_pos ((ackRemoves_iff _ _ _).2 hex)]
    · have stays : ¬ ackRemoves (stampAt e.words 0) s.table.records f = true := fun hx => by
        obtain ⟨r, hr, named⟩ := (ackRemoves_iff _ _ _).1 hx
        exact hall r hr named
      rw [copy, ← earliest]
      rw [hs, Option.any_some, if_neg stays]
      rfl
  · refine ⟨_, exec_attemptEnd h true, ?_⟩
    simp only [if_true]
    rw [attemptDelivered_eq]
    obtain ⟨mode, stands, startup, share, -, time⟩ := deliveredTo_restart (e := { e with rank := 0 })
      (by show e.kind.isBroadcast = true; rw [hk]; rfl)
      (s := (begin s).onLine fun l => { l with bitErrorRun := 0 }) ht
    generalize deliveredTo { e with rank := 0 } ((begin s).onLine fun l => { l with bitErrorRun := 0 }) = u
      at mode stands startup share time ⊢
    have role : u.role = .cab := (role_of_startup startup).trans hr
    have owner : outcomeDelivered { e with rank := 0 } u = applyRestart u := by
      unfold outcomeDelivered
      simp only [hk]
    rw [owner, applyRestart_accepts ((joined_of_startup startup).trans hj) (mode.trans hm) stands
      (by rw [share]; exact hf) (fun ha => by rw [role] at ha; cases ha), acceptRestart_cab role, time]
    exact ⟨acceptRestart_mode _, rfl, rfl, rfl⟩

end

section
/-! PROOFS. Received bulletins at the alarm unit, the walk and the drag (R3, R10, R11, R169, R175; TABLE 7-7, 9-2). -/

namespace Sys2Proof.Machine

/-! ### A bulletin that is not acted on (R3, R9 to R11) -/

section
variable {k : Kind} {b : Bulletin} {s : State}

/-- What the cab keeps of a bulletin it does not take (R10). -/
theorem receive_overheard (hr : reads s = true) (hf : b.wf k = true) (ho : k = .query ∨ b.sender.toNat ≠ s.station)
    (hp : (filterPasses k b s && hasRoom k s) = false) (hh : overhears k b s = true) (act : State → State) :
    receive k b act (begin s) = keepAtCab k b b.otherAck (untaken s) := by
  have form : formatHolds k b.target b.words.length = true := hf
  have own : (k != Kind.query && b.sender.toNat == (untaken s).station) = false := by
    rcases ho with hq | hs
    · rw [hq]; rfl
    · rw [show (b.sender.toNat == (untaken s).station) = false from beq_eq_false_iff_ne.2 hs, Bool.and_false]
  have kept : overhears k b (untaken s) = true := hh
  simp only [receive, setAck_begin_false, reads_untaken, hr, form, own, judge, filterPasses_untaken, hasRoom_untaken,
    hp, kept, Bool.not_true, Bool.false_eq_true, if_false, if_true]

/-- Outside ACTIVE a directed bulletin is left (R3). -/
theorem receive_directed (hl : s.line.state = .listening ∨ s.line.state = .lineFault) (hf : b.wf k = true)
    (hb : k.isBroadcast = false) (ho : k = .query ∨ b.sender.toNat ≠ s.station) (act : State → State) :
    receive k b act (begin s) = untaken s := by
  have reading : reads (untaken s) = true := by
    rw [reads_untaken]; unfold reads; rcases hl with hl | hl <;> rw [hl] <;> rfl
  have form : formatHolds k b.target b.words.length = true := hf
  have own : (k != Kind.query && b.sender.toNat == (untaken s).station) = false := by
    rcases ho with hq | hs
    · rw [hq]; rfl
    · rw [show (b.sender.toNat == (untaken s).station) = false from beq_eq_false_iff_ne.2 hs, Bool.and_false]
  have idle : (untaken s).line.state ≠ .active := by
    change s.line.state ≠ .active
    rcases hl with hl | hl <;> rw [hl] <;> decide
  have deaf : overhears k b (untaken s) = false := by
    simp [overhears, idle]
  simp only [receive, setAck_begin_false, reading, form, own, judge, idle, hb, deaf, Bool.not_true,
    Bool.false_eq_true, if_false, ite_self]

/-- A bulletin that bears the own number (R11). -/
theorem receive_own (hr : reads s = true) (hf : b.wf k = true) (hq : k ≠ .query) (ho : b.sender.toNat = s.station)
    (act : State → State) : receive k b act (begin s) = duplicateHeard (untaken s) := by
  have form : formatHolds k b.target b.words.length = true := hf
  have own : (k != Kind.query && b.sender.toNat == (untaken s).station) = true := by
    rw [bne_iff_ne.2 hq, Bool.true_and]
    exact beq_iff_eq.2 ho
  simp only [receive, setAck_begin_false, reads_untaken, hr, form, own, Bool.not_true, Bool.false_eq_true, if_false,
    if_true]

theorem keepAtCab_line (k : Kind) (b : Bulletin) (d : Bool) (s : State) : (keepAtCab k b d s).line = s.line :=
  (keepAtCab_frame k b d s).1 .line (by decide)

theorem keepAtCab_xfer (h : k.isXfer = true) (b : Bulletin) (d : Bool) (s : State) :
    (keepAtCab k b d s).cab = { s.cab with xferHeard := some ⟨b.sender, b.target, k, b.words, d⟩ } := by
  unfold keepAtCab
  rw [if_pos h]
  rfl

theorem keepAtCab_share (h : k.isShare = true) (b : Bulletin) (d : Bool) (s : State) :
    (keepAtCab k b d s).cab = { s.cab with shareHeard := some ⟨b.sender, b.target, k, b.words, d⟩ } := by
  have other : ¬ k.isXfer = true := by revert h; cases k <;> decide
  unfold keepAtCab
  rw [if_neg other, if_pos h]
  rfl

theorem filterPasses_reply (b : Bulletin) (s : State) : filterPasses .reply b s = false := by
  unfold filterPasses Role.handles
  exact Bool.and_false _

/-- The clear count of DUPLICATE STATION begins anew (R11). -/
def dupCounted (s : State) : State := s.onLine fun l => { l with dupCount := 0, dupCounting := true }

theorem duplicateHeard_listening (h : s.line.state = .listening) :
    duplicateHeard s = (dupCounted s).onLine fun l => { l with dupHeld := true } := if_pos h

theorem duplicateHeard_else (h : s.line.state ≠ .listening) :
    duplicateHeard s = raiseQuiet .duplicateStation none (dupCounted s) := if_neg h

/-- A quiet raise changes the queue of the line unit and its counters alone. -/
theorem raiseQuiet_queueOnly (c : AlarmCode) (d : Option Nat) (s : State) :
    ∃ q n, (raiseQuiet c d s).line = { s.line with queue := q, counters := n } :=
  (raiseQuiet_alarmLine c d s).lineSteps.queueOnly

end

end Sys2Proof.Machine

open Sys2Proof Sys2Proof.Machine

/-- Settles O23: the line unit's judgement of a bulletin that is not taken, one outcome for each. -/
theorem filterRules : Obligations.FilterRules := by
  refine ⟨fun c k b s hc hr hf ho hp => ⟨fun hh => ?left, fun hh => ?kept⟩, fun b s hf ho => ?reply,
    fun c k b s hc hl hf hb ho => ?directed⟩
  case left =>
    obtain ⟨act, hact⟩ := exec_of_bulletin hc
    rw [hact, receive_left hf ho hp hh]
  case kept =>
    obtain ⟨act, hact⟩ := exec_of_bulletin hc
    refine ⟨_, (hact s).trans (congrArg _ (receive_overheard hr hf ho hp hh act)),
      (untaken_frame s).comp (keepAtCab_frame _ _ _ _) (by decide) (by decide), keepAtCab_line _ _ _ _,
      fun hx => keepAtCab_xfer hx _ _ _, fun hx => keepAtCab_share hx _ _ _⟩
  case reply =>
    refine congrArg Host.Outcome.next (receive_left hf (.inr ho) ?_ ?_ id)
    · rw [filterPasses_reply, Bool.false_and]
    · exact Bool.and_false _
  case directed =>
    obtain ⟨act, hact⟩ := exec_of_bulletin hc
    rw [hact, receive_directed hl hf hb ho]

/-- Settles O24: in LISTENING the line unit holds the raise, elsewhere the alarm unit places its record. -/
theorem duplicateStationHeard : Obligations.DuplicateStationHeard := by
  intro c k b s hc hr hf hq ho
  obtain ⟨act, hact⟩ := exec_of_bulletin hc
  refine ⟨_, (hact s).trans (congrArg _ (receive_own hr hf hq ho act)), ?_⟩
  have begun : Frame [.line] (begin s) (dupCounted (untaken s)) := (untaken_frame s).trans (onLine_frame _ _)
  by_cases hl : s.line.state = .listening
  · rw [duplicateHeard_listening (s := untaken s) hl]
    exact ⟨rfl, rfl, rfl, fun _ => ⟨rfl, begun.trans (onLine_frame _ _)⟩, fun h => absurd hl h⟩
  · rw [duplicateHeard_else (s := untaken s) hl]
    obtain ⟨q, n, line⟩ := raiseQuiet_queueOnly .duplicateStation none (dupCounted (untaken s))
    rw [line]
    refine ⟨rfl, rfl, rfl, fun h => absurd h hl, fun _ => ⟨begun.comp (raiseQuiet_frame _ _ _) (by decide) (by decide),
      rfl, fun hj room habs => ?_⟩⟩
    have absent : (dupCounted (untaken s)).alarms.list.find? (isRecord .duplicateStation none) = none :=
      find?_absent fun r hr hk => habs r hr (congrArg Prod.fst hk)
    rw [raiseQuiet, raiseRecord_absent (s := dupCounted (untaken s)) hj absent,
      enterRecord_room (s := dupCounted (untaken s)) room, report_list]
    rfl

end

section
/-! PROOFS. The alarm unit, the walk and the drag at a received bulletin (R131, R151, R152, R169, R175, R176). -/

namespace Sys2Proof.Machine

/-! ### A warning raised and cleared at once (R168) -/

section
variable {c : AlarmCode} {d : Option Nat} {s : State}

/-- The STOP inhibit is not for a warning to end (R174). -/
theorem clearAlarm_warn_stops (hc : c.severity = .warn) :
    (clearAlarm c d s).stopInhibit = s.stopInhibit := by
  have quiet : ∀ {x : AlarmRecord}, isRecord c d x = true →
      ∀ st : AlarmState, (x.code.severity == .stop && st != .clearedUnack) = false := by
    intro x hx st
    rw [isRecord_code hx, hc]
    rfl
  by_cases hj : s.joined = true
  · cases hf : s.alarms.list.find? (isRecord c d) with
    | none => rw [clearAlarm_absent hf]
    | some r =>
      cases hr : r.state with
      | clearedUnack => rw [clearAlarm_cleared hf hr]
      | activeAck =>
        rw [State.stopInhibit, clearAlarm_acked hj hf hr, List.any_filter]
        refine List.any_congr rfl fun x => ?_
        cases hx : isRecord c d x with
        | false => rfl
        | true => rw [quiet hx]; rfl
      | activeUnack =>
        rw [State.stopInhibit, clearAlarm_active hj hf hr, List.any_map]
        refine List.any_congr rfl fun x => ?_
        cases hx : isRecord c d x with
        | false => simp [hx]
        | true =>
          rw [quiet hx]
          simp [hx]
  · rw [clearAlarm_idle (by simpa using hj)]

/-- A clear is a report of the list, and then re-arm where that ends the STOP inhibit (R174). -/
theorem clearAlarm_form (c : AlarmCode) (d : Option Nat) (s : State) : ∃ t, Frame [.line, .alarms, .table] s t
    ∧ clearAlarm c d s = if s.stopInhibit && !t.stopInhibit then setRearm t else t := by
  have stands : clearAlarm c d s = s → ∃ t, Frame [.line, .alarms, .table] s t
      ∧ clearAlarm c d s = if s.stopInhibit && !t.stopInhibit then setRearm t else t :=
    fun h => ⟨s, .refl _ s, by rw [h, Bool.and_not_self]; rfl⟩
  by_cases hj : s.joined = true
  · cases hf : s.alarms.list.find? (isRecord c d) with
    | none => exact stands (clearAlarm_absent hf)
    | some r =>
      cases hr : r.state with
      | clearedUnack => exact stands (clearAlarm_cleared hf hr)
      | activeAck =>
        refine ⟨_, report_after_frame r true false (s.alarms.list.filter fun x => !isRecord c d x) s, ?_⟩
        simp only [clearAlarm, hj, Bool.not_true, Bool.false_eq_true, if_false, hf, hr]
      | activeUnack =>
        refine ⟨_, report_after_frame { r with state := .clearedUnack } false false (s.alarms.list.map fun x =>
          if isRecord c d x then { r with state := .clearedUnack } else x) s, ?_⟩
        simp only [clearAlarm, hj, Bool.not_true, Bool.false_eq_true, if_false, hf, hr]
  · exact stands (clearAlarm_idle (by simpa using hj) c d)

/-- The clear of a warning leaves the ring. -/
theorem clearAlarm_warn_frame (hc : c.severity = .warn) (d : Option Nat) (s : State) :
    Frame [.line, .alarms, .table] s (clearAlarm c d s) := by
  have stops := clearAlarm_warn_stops (d := d) (s := s) hc
  obtain ⟨t, f, form⟩ := clearAlarm_form c d s
  rw [form, stopInhibit_of_alarms (rearmIf_alarms _ t)] at stops
  rw [form, stops, Bool.and_not_self]
  exact f

/-- With room in the list a warning raised and cleared at once leaves its cleared record. -/
theorem raiseAndClear_record (hj : s.joined = true) (room : s.alarms.list.length < 24)
    (habs : ∀ r ∈ s.alarms.list, r.code ≠ c) (d : Option Nat) :
    ∃ r ∈ (raiseAndClear c d s).alarms.list, r.code = c ∧ r.detail = d ∧ r.state = .clearedUnack ∧ r.raised = s.now := by
  have absent : s.alarms.list.find? (isRecord c d) = none :=
    find?_absent fun r hr hk => habs r hr (congrArg Prod.fst hk)
  have raised : (raiseQuiet c d s).alarms.list = alarmInsert (freshRecord c d s.now) s.alarms.list := by
    rw [raiseQuiet, raiseRecord_absent hj absent, enterRecord_room room, report_list]
  have joined : (raiseQuiet c d s).joined = true :=
    (joined_of_startup ((raiseQuiet_frame c d s).1 .startup (by decide))).trans hj
  have found : (raiseQuiet c d s).alarms.list.find? (isRecord c d) = some (freshRecord c d s.now) := by
    rw [raised]
    cases hf : (alarmInsert (freshRecord c d s.now) s.alarms.list).find? (isRecord c d) with
    | none =>
      exact absurd (isRecord_iff.2 rfl) (List.find?_eq_none.1 hf _ (mem_alarmInsert.2 (.inl rfl)))
    | some r =>
      rcases mem_alarmInsert.1 (List.mem_of_find?_eq_some hf) with rfl | hm
      · rfl
      · exact absurd (isRecord_code (List.find?_some hf)) (habs r hm)
  refine ⟨{ freshRecord c d s.now with state := .clearedUnack }, ?_, rfl, rfl, rfl, rfl⟩
  rw [raiseAndClear, clearAlarm_active joined found rfl]
  exact List.mem_map.2 ⟨_, List.mem_of_find?_eq_some found, if_pos (isRecord_iff.2 rfl)⟩

/-! ### A STOP or TRIP record that stands (R166, R167) -/

/-- The record stands in the list, the only one of its code. -/
def Sole (r : AlarmRecord) (l : List AlarmRecord) : Prop := r ∈ l ∧ ∀ x ∈ l, x.code = r.code → x = r

/-- An active record of STOP or TRIP severity: no record takes its place (R167). -/
def Firm (r : AlarmRecord) : Prop := r.state = .activeUnack ∧ r.code.severity ≠ .warn

theorem Sole.sublist {r : AlarmRecord} {l l' : List AlarmRecord} (h : Sole r l) (hs : l'.Sublist l) (hr : r ∈ l') :
    Sole r l' := ⟨hr, fun x hx => h.2 x (hs.mem hx)⟩

theorem Sole.insert {r x : AlarmRecord} {l : List AlarmRecord} (h : Sole r l) (hx : x.code ≠ r.code) :
    Sole r (alarmInsert x l) :=
  ⟨mem_alarmInsert.2 (.inr h.1), fun y hy hc => by
    rcases mem_alarmInsert.1 hy with rfl | hy
    · exact absurd hc hx
    · exact h.2 y hy hc⟩

theorem Sole.replace {r x : AlarmRecord} {l : List AlarmRecord} {c : AlarmCode} {d : Option Nat} (h : Sole r l)
    (hc : c ≠ r.code) (hx : x.code = c) : Sole r (l.map fun y => if isRecord c d y then x else y) := by
  have apart : ¬ isRecord c d r = true := fun hi => hc (isRecord_code hi).symm
  refine ⟨List.mem_map.2 ⟨r, h.1, if_neg apart⟩, fun y hy hcode => ?_⟩
  rcases mem_replace hy with rfl | ⟨hm, -⟩
  · exact absurd (hx.symm.trans hcode) hc
  · exact h.2 y hm hcode

theorem Sole.without {r : AlarmRecord} {l : List AlarmRecord} {c : AlarmCode} {d : Option Nat} (h : Sole r l)
    (hc : c ≠ r.code) : Sole r (l.filter fun y => !isRecord c d y) :=
  h.sublist List.filter_sublist (List.mem_filter.2 ⟨h.1, by
    rw [Bool.not_eq_true', ← Bool.not_eq_true]
    exact fun hi => hc (isRecord_code hi).symm⟩)

/-- The record that gives way is cleared or a warning (R167). -/
theorem alarmVictim_gives {v : Severity} {l : List AlarmRecord} {k : Nat} (h : alarmVictim v l = some k) :
    ∃ x, l[k]? = some x ∧ (x.state = .clearedUnack ∨ x.code.severity = .warn) := by
  unfold alarmVictim at h
  split at h
  · next j hj =>
    obtain rfl := Option.some.inj h
    obtain ⟨hlt, hp, -⟩ := List.findIdx?_eq_some_iff_getElem.1 hj
    exact ⟨_, List.getElem?_eq_getElem hlt, .inl (by simpa using hp)⟩
  · split at h
    · cases h
    · obtain ⟨hlt, hp, -⟩ := List.findIdx?_eq_some_iff_getElem.1 h
      exact ⟨_, List.getElem?_eq_getElem hlt, .inr (by simpa using hp)⟩

theorem Sole.evicts {r : AlarmRecord} {l : List AlarmRecord} {v : Severity} {k : Nat} (h : Sole r l) (hf : Firm r)
    (hk : alarmVictim v l = some k) : Sole r (l.eraseIdx k) := by
  refine h.sublist (List.eraseIdx_sublist _ _) ?_
  obtain ⟨x, hx, gives⟩ := alarmVictim_gives hk
  obtain ⟨j, hj⟩ := List.mem_iff_getElem?.1 h.1
  refine List.mem_eraseIdx_iff_getElem?.2 ⟨j, fun hjk => ?_, hj⟩
  rw [hjk, hx] at hj
  obtain rfl := Option.some.inj hj
  rcases gives with hc | hw
  · rw [hf.1] at hc; cases hc
  · exact hf.2 hw

theorem Sole.raise {r : AlarmRecord} (h : Sole r s.alarms.list) (hf : Firm r) (hc : c ≠ r.code) :
    Sole r (raiseQuiet c d s).alarms.list := by
  by_cases hj : s.joined = true
  · unfold raiseQuiet
    cases hx : s.alarms.list.find? (isRecord c d) with
    | none =>
      rw [raiseRecord_absent hj hx]
      by_cases hl : s.alarms.list.length < Config.alarmListSize
      · rw [enterRecord_room hl, report_list]
        exact h.insert hc
      · cases hv : alarmVictim c.severity s.alarms.list with
        | some k =>
          rw [enterRecord_evicts (r := freshRecord c d s.now) hl hv, report_list]
          exact (h.evicts hf hv).insert hc
        | none =>
          rw [enterRecord_lost (r := freshRecord c d s.now) hl hv]
          exact h
    | some x =>
      have code : x.code = c := isRecord_code (List.find?_some hx)
      by_cases hr : x.state = .clearedUnack
      · rw [raiseRecord_anew hj hx hr, report_list]
        exact (h.without hc).insert (by rw [code]; exact hc)
      · rw [raiseRecord_again hj hx hr, report_list]
        exact h.replace hc code
  · rw [raiseQuiet, raiseRecord_idle (by simpa using hj)]
    exact h

theorem Sole.clear {r : AlarmRecord} (h : Sole r s.alarms.list) (hc : c ≠ r.code) :
    Sole r (clearAlarm c d s).alarms.list := by
  by_cases hj : s.joined = true
  · cases hx : s.alarms.list.find? (isRecord c d) with
    | none => rw [clearAlarm_absent hx]; exact h
    | some x =>
      have code : x.code = c := isRecord_code (List.find?_some hx)
      cases hr : x.state with
      | clearedUnack => rw [clearAlarm_cleared hx hr]; exact h
      | activeAck =>
        rw [clearAlarm_acked hj hx hr]
        exact h.without hc
      | activeUnack =>
        rw [clearAlarm_active hj hx hr]
        exact h.replace hc code
  · rw [clearAlarm_idle (by simpa using hj)]; exact h

/-- Tags of moves that may change the records of a code. -/
def Tag.touches (c : AlarmCode) : Tag → Bool
  | .raised x | .cleared x => x == c
  | _ => false

/-- A firm record stands at every move of another code's records. -/
theorem Move.sole {g : Tag} {s t : State} {r : AlarmRecord} (m : Move g s t) (hg : g.touches r.code = false)
    (hf : Firm r) (h : Sole r s.alarms.list) : Sole r t.alarms.list := by
  by_cases hb : Block.alarms ∈ g.blocks
  · cases m with
    | raised c d => exact h.raise hf (by simpa [Tag.touches] using hg)
    | cleared c d => exact h.clear (by simpa [Tag.touches] using hg)
    | dropped n =>
      have other : AlarmCode.shareLoanDropped ≠ r.code := fun hc => hf.2 (by rw [← hc]; rfl)
      exact (h.raise hf other).clear other
    | refresh => exact h
    | trip =>
      rw [(driveTripped_frame _).1 .alarms (by decide)]
      exact h
    | report r' => rw [reportAlarm_alarms]; exact h
    | _ => exact absurd hb (by simp [Tag.blocks])
  · rw [m.frame.1 .alarms hb]
    exact h

theorem Moves.sole {gs : List Tag} {s t : State} {r : AlarmRecord} (m : Moves gs s t)
    (hg : ∀ g ∈ gs, g.touches r.code = false) (hf : Firm r) (h : Sole r s.alarms.list) : Sole r t.alarms.list := by
  induction m with
  | refl => exact h
  | tail _ hlast ih =>
    obtain ⟨g, hm, m⟩ := hlast
    exact m.sole (hg g hm) hf ih

/-- With room in the list the first raise of a code leaves its record. -/
theorem sole_raiseRecord (hj : s.joined = true) (room : s.alarms.list.length < 24)
    (habs : ∀ r ∈ s.alarms.list, r.code ≠ c) (d : Option Nat) :
    Sole (freshRecord c d s.now) (raiseRecord c d s).1.alarms.list := by
  rw [raiseRecord_absent hj (find?_absent fun r hr hk => habs r hr (congrArg Prod.fst hk)), enterRecord_room room,
    report_list]
  refine ⟨mem_alarmInsert.2 (.inl rfl), fun x hx hc => ?_⟩
  rcases mem_alarmInsert.1 hx with rfl | hx
  · rfl
  · exact absurd hc (habs x hx)

/-- What a raise brings beside its record's own change (R173). -/
theorem raise_beside (c : AlarmCode) (d : Option Nat) (s : State) : Moves tripTags (raiseRecord c d s).1 (raise c d s) := by
  unfold raise; dsimp only
  refine .ite (fun _ => ?_) fun _ => .refl _ _
  have m := (enterTripped_moves (raiseRecord c d s).1).mono (hs := tripTags) (by simp [tripTags])
  exact .ite (fun _ => m) fun _ => m.trans ((placeTrip_moves _ _ _ _).mono (by simp [tripTags]))

/-- A TRIP raised and cleared at once leaves its cleared record, where the list has room. -/
theorem raiseThenClear_record (hj : s.joined = true) (room : s.alarms.list.length < 24)
    (habs : ∀ r ∈ s.alarms.list, r.code ≠ c) (d : Option Nat) (hc : c.severity ≠ .warn)
    (hg : ∀ g ∈ tripTags, g.touches c = false) :
    ∃ r ∈ (raiseThenClear c d s).alarms.list, r.code = c ∧ r.detail = d ∧ r.state = .clearedUnack ∧ r.raised = s.now := by
  have m := raise_beside c d s
  have joined : (raise c d s).joined = true :=
    (m.joined.trans (joined_of_startup ((raiseRecord_frame c d s).1 .startup (by decide)))).trans hj
  have sole := m.sole (r := freshRecord c d s.now) hg ⟨rfl, hc⟩ (sole_raiseRecord hj room habs d)
  have found : (raise c d s).alarms.list.find? (isRecord c d) = some (freshRecord c d s.now) := by
    cases hf : (raise c d s).alarms.list.find? (isRecord c d) with
    | none => exact absurd (isRecord_iff.2 rfl) (List.find?_eq_none.1 hf _ sole.1)
    | some r => rw [sole.2 r (List.mem_of_find?_eq_some hf) (isRecord_code (List.find?_some hf))]
  refine ⟨{ freshRecord c d s.now with state := .clearedUnack }, ?_, rfl, rfl, rfl, rfl⟩
  rw [raiseThenClear, clearAlarm_active joined found rfl]
  exact List.mem_map.2 ⟨_, List.mem_of_find?_eq_some found, if_pos (isRecord_iff.2 rfl)⟩

theorem Moves.tripped {gs : List Tag} {s t : State} (m : Moves gs s t) (h : s.alarms.mode = .tripped) :
    t.alarms.mode = .tripped := by
  induction m with
  | refl => exact h
  | tail _ hlast ih =>
    obtain ⟨g, -, m⟩ := hlast
    exact m.tripped ih

end

/-! ### RESTART (R175, R176) -/

section
variable {b : Bulletin} {s : State}

theorem exec_restart (h : Reaches .restart b s) : exec (.restart b) s = .next (applyRestart (handed s)) :=
  congrArg Host.Outcome.next (receive_reaches h applyRestart)

theorem handed_alarms (s : State) : (handed s).alarms = s.alarms := (handed_frame s).1 .alarms (by decide)
theorem handed_startup (s : State) : (handed s).startup = s.startup := (handed_frame s).1 .startup (by decide)
theorem handed_joined (s : State) : (handed s).joined = s.joined := joined_of_startup (handed_startup s)
theorem handed_share (s : State) : (handed s).share = s.share := (handed_frame s).1 .share (by decide)
theorem handed_drive (s : State) : (handed s).drive = s.drive := (handed_frame s).1 .drive (by decide)

theorem applyRestart_idle (h : s.alarms.mode = .run ∨ s.joined = false) : applyRestart s = s := by
  refine if_pos ?_
  rcases h with h | h <;> simp [h]

theorem applyRestart_refused {d : Nat} (hj : s.joined = true) (hm : s.alarms.mode = .tripped)
    (hd : restartFailure s = some d) : applyRestart s = raiseThenClear .restartRefused (some d) s := by
  unfold applyRestart
  rw [if_neg (by rw [hj, hm]; decide), hd]

theorem restartFailure_handed (s : State) : restartFailure (handed s) = restartFailure s := by
  unfold restartFailure State.tripStands
  rw [handed_alarms, handed_share, handed_drive, handed_role]

/-- A refused RESTART leaves the mode, and its warning with the condition that failed (R176). -/
theorem restartRefused_record {d : Nat} (hj : s.joined = true) (hm : s.alarms.mode = .tripped)
    (hd : restartFailure s = some d) : (applyRestart (handed s)).alarms.mode = .tripped
      ∧ (s.alarms.list.length < 24 → (∀ r ∈ s.alarms.list, r.code ≠ .restartRefused) →
        ∃ r ∈ (applyRestart (handed s)).alarms.list, r.code = .restartRefused ∧ r.detail = some d
          ∧ r.state = .clearedUnack ∧ r.raised = s.now) := by
  have now : (handed s).now = s.now := by rw [State.now, State.now, handed_time]
  rw [applyRestart_refused ((handed_joined s).trans hj) ((congrArg Alarms.mode (handed_alarms s)).trans hm)
    ((restartFailure_handed s).trans hd), ← now]
  refine ⟨(raiseThenClear_moves (by decide) _ _).tripped (by rw [handed_alarms]; exact hm), fun room habs => ?_⟩
  exact raiseThenClear_record ((handed_joined s).trans hj) (by rw [handed_alarms]; exact room)
    (by rw [handed_alarms]; exact habs) _ (by decide) (by decide)

theorem acceptRestart_alarms (s : State) : (acceptRestart s).alarms = { s.alarms with mode := .run } := by
  unfold acceptRestart; dsimp only
  split
  · rw [State.onTable_alarms, setRearm_alarms]; rfl
  · rw [setRearm_alarms]; rfl

theorem acceptRestart_ring (ha : s.role.isAxis = true) :
    (acceptRestart s).ring = { s.ring with rearm := true, current := 0 } := by
  have ring : (setRearm (s.onAlarms fun a => { a with mode := .run })).ring = { s.ring with rearm := true, current := 0 } :=
    setRearm_ring (s := s.onAlarms fun a => { a with mode := .run }) ha
  unfold acceptRestart; dsimp only
  split <;> exact ring

end

/-! ### ALARM-ACK (R169) -/

/-- One record at an ALARM-ACK. -/
def acked (t : Stamp) (r : AlarmRecord) : Option AlarmRecord :=
  if r.raised.le t then
    match r.state with
    | .activeUnack => some { r with state := .activeAck }
    | .activeAck => some r
    | .clearedUnack => none
  else some r

theorem acked_key {t : Stamp} {r x : AlarmRecord} (h : acked t r = some x) : x.key = r.key := by
  unfold acked at h
  split at h
  · cases hs : r.state <;> rw [hs] at h
    · obtain rfl := Option.some.inj h; rfl
    · obtain rfl := Option.some.inj h; rfl
    · cases h
  · obtain rfl := Option.some.inj h; rfl

/-- Records of other keys are not touched by the ack of one. -/
theorem map_others {r r' : AlarmRecord} {l : List AlarmRecord} (h : ∀ x ∈ l, x.key ≠ r.key) :
    (l.map fun x => if isRecord r.code r.detail x then r' else x) = l := by
  refine (List.map_congr_left fun x hx => ?_).trans (List.map_id l)
  rw [if_neg fun hi => h x hx (isRecord_iff.1 hi)]
  rfl

theorem filter_none {r : AlarmRecord} {l : List AlarmRecord} (h : ∀ x ∈ l, x.key ≠ r.key) :
    (l.filter fun x => !isRecord r.code r.detail x) = l :=
  List.filter_eq_self.2 fun x hx => by
    rw [Bool.not_eq_true', ← Bool.not_eq_true]
    exact fun hi => h x hx (isRecord_iff.1 hi)

/-- The ack of one record of a list with no key twice changes that record alone. -/
theorem ackRecord_at {t : Stamp} {s : State} {r : AlarmRecord} {l l' : List AlarmRecord}
    (hl : s.alarms.list = l ++ r :: l') (h : ∀ x ∈ l, x.key ≠ r.key) (h' : ∀ x ∈ l', x.key ≠ r.key) :
    (ackRecord t s r).alarms.list = l ++ (acked t r).toList ++ l' := by
  have self : isRecord r.code r.detail r = true := isRecord_iff.2 rfl
  unfold ackRecord acked
  split
  · cases hs : r.state with
    | activeAck => simp [hl]
    | activeUnack =>
      dsimp only
      rw [report_list, hl, List.map_append, List.map_cons, if_pos self, map_others h, map_others h']
      simp
    | clearedUnack =>
      dsimp only
      rw [report_list, hl, List.filter_append, List.filter_cons_of_neg (by simp [self]), filter_none h, filter_none h']
      simp
  · simp [hl]

theorem ackRecord_alarms (t : Stamp) (s : State) (r : AlarmRecord) :
    (ackRecord t s r).alarms.mode = s.alarms.mode ∧ (ackRecord t s r).alarms.lost = s.alarms.lost := by
  unfold ackRecord
  split
  · split
    · exact ⟨rfl, rfl⟩
    · rw [reportAlarm_alarms]; exact ⟨rfl, rfl⟩
    · rw [reportAlarm_alarms]; exact ⟨rfl, rfl⟩
  · exact ⟨rfl, rfl⟩

theorem foldl_ackRecord (t : Stamp) : ∀ (l l' : List AlarmRecord) (s : State), s.alarms.list = l ++ l' →
    ((l ++ l').map AlarmRecord.key).Nodup →
    (l'.foldl (ackRecord t) s).alarms.list = l ++ l'.filterMap (acked t)
      ∧ (l'.foldl (ackRecord t) s).alarms.mode = s.alarms.mode
      ∧ (l'.foldl (ackRecord t) s).alarms.lost = s.alarms.lost
  | l, [], s, hl, _ => ⟨hl, rfl, rfl⟩
  | l, r :: l', s, hl, hn => by
    have split := hn
    rw [List.map_append, List.map_cons, List.nodup_append] at split
    obtain ⟨-, tail, apart⟩ := split
    have before : ∀ x ∈ l, x.key ≠ r.key := fun x hx => apart _ (List.mem_map_of_mem hx) _ List.mem_cons_self
    have after : ∀ x ∈ l', x.key ≠ r.key := fun x hx he =>
      (List.nodup_cons.1 tail).1 (he ▸ List.mem_map_of_mem hx)
    have keys : ((l ++ (acked t r).toList ++ l').map AlarmRecord.key).Sublist ((l ++ r :: l').map AlarmRecord.key) := by
      rw [List.append_assoc, List.map_append, List.map_append, List.map_append]
      refine List.Sublist.append_left ?_ _
      cases ha : acked t r with
      | none => simp
      | some x => simp [acked_key ha]
    obtain ⟨list, mode, lost⟩ := foldl_ackRecord t (l ++ (acked t r).toList) l' (ackRecord t s r)
      (ackRecord_at hl before after) (hn.sublist keys)
    obtain ⟨mode', lost'⟩ := ackRecord_alarms t s r
    refine ⟨?_, mode.trans mode', lost.trans lost'⟩
    rw [List.foldl_cons, list, List.filterMap_cons]
    cases acked t r <;> simp

end Sys2Proof.Machine

open Sys2Proof Sys2Proof.Machine

/-- Settles O26: the RESTART's conditions are read of the state handed to the alarm unit, which is the command's. -/
theorem restartTaken : Obligations.RestartTaken := by
  intro b s h
  refine ⟨fun idle => ?_, fun hm hj => ⟨_, exec_restart h, ?_⟩⟩
  · rw [exec_restart h, applyRestart_idle (by rwa [handed_alarms, handed_joined])]
  · have failure : restartFailure s = if s.tripStands then some 1 else if s.share.fresh then some 2
        else if s.role.isAxis && !s.drive.brakeInput then some 3 else none := rfl
    refine ⟨fun ht => ?_, fun ht hf => ?_, fun ht hf hb => ?_, fun ht hf hb => ?_⟩
    · exact restartRefused_record hj hm (by rw [failure, ht]; rfl)
    · exact restartRefused_record hj hm (by rw [failure, ht, hf]; rfl)
    · exact restartRefused_record hj hm (by rw [failure, ht, hf, hb.1, hb.2]; rfl)
    · have accepts : applyRestart (handed s) = acceptRestart (handed s) :=
        applyRestart_accepts ((handed_joined s).trans hj) ((congrArg Alarms.mode (handed_alarms s)).trans hm)
          (by rw [State.tripStands, handed_alarms]; exact ht) (by rw [handed_share]; exact hf)
          (fun ha => by
            rw [handed_role] at ha
            rw [handed_drive]
            by_contra hn
            exact hb ⟨ha, by simpa using hn⟩)
      have f := acceptRestart_frame (handed s)
      rw [accepts]
      refine ⟨by rw [acceptRestart_alarms, handed_alarms], f.1 .line (by decide), fun ha => ?_, fun hr => ?_,
        (handed_frame s).comp f (by decide) (by decide)⟩
      · rw [acceptRestart_ring ((congrArg Role.isAxis (handed_role s)).trans ha), handed_ring]
      · rw [acceptRestart_cab ((handed_role s).trans hr), handed_time]
        exact ⟨rfl, rfl, rfl⟩

/-- Settles O27, by induction on the records still to be acked. -/
theorem alarmAckAppliesToList : Obligations.AlarmAckAppliesToList := by
  intro b s h
  have exec_ack : exec (.alarmAck b) s = .next (ackList (stampAt b.words 0) (handed s)) :=
    congrArg Host.Outcome.next (receive_reaches h (takeAlarmAck b))
  refine ⟨fun hj => ?_, fun hj ho => ⟨_, exec_ack, ?_⟩⟩
  · rw [exec_ack, ackList, handed_joined, hj]
    rfl
  · have folds : ackList (stampAt b.words 0) (handed s) = s.alarms.list.foldl (ackRecord (stampAt b.words 0)) (handed s) := by
      rw [ackList, handed_joined, hj, if_pos rfl, handed_alarms]
    obtain ⟨list, mode, lost⟩ := foldl_ackRecord (stampAt b.words 0) [] s.alarms.list (handed s)
      (by rw [handed_alarms]; rfl) ho.listKeys
    have f := ackList_frame (stampAt b.words 0) (handed s)
    rw [folds] at f ⊢
    rw [list, mode, lost, handed_alarms]
    exact ⟨rfl, rfl, rfl, (handed_frame s).comp f (by decide) (by decide)⟩

end

section
/-! PROOFS. The transfer of the drag motors at a received bulletin (R131, R151, R152, TABLE 7-7). -/

namespace Sys2Proof.Machine

/-- Where the hook is seen as it is and not lost, watching it changes nothing. -/
theorem watchOwned_stands {s : State} (h : s.drive.ownedSeen = (s.joined && s.ownedHook)) : watchOwned s = s := by
  have kept : (s.joined && s.role.isAxis && s.drive.ownedSeen && !s.ownedHook) = false := by
    rw [h]
    cases s.ownedHook <;> simp
  unfold watchOwned; dsimp only
  rw [kept, ← h]
  rfl

section
variable {s : State}

/-- The walk owns its motors in READY, STEPPING and SETTLING alone (R126). -/
theorem ownedHook_walk_idle (hr : s.role = .walk)
    (hw : s.walk.state ≠ .ready ∧ s.walk.state ≠ .stepping ∧ s.walk.state ≠ .settling) : s.ownedHook = false := by
  simp [State.ownedHook, hr, hw]

/-- A walk that goes from a state that owns nothing to another leaves the drive chain. -/
theorem setWalkState_idle {w : WalkState} (hr : s.role = .walk) (hseen : s.drive.ownedSeen = false)
    (hw : w ≠ .ready ∧ w ≠ .stepping ∧ w ≠ .settling) :
    (setWalkState w s).walk = { s.walk with state := w, stateCount := 0 } ∧ Frame [.line, .walk] s (setWalkState w s) := by
  unfold setWalkState; dsimp only
  have asked : Frame [.line] s (if s.walk.state = .asking then muteEntries .xferAsk s else s) :=
    .ite (muteEntries_frame _ s) (.refl _ s)
  generalize (if s.walk.state = .asking then muteEntries .xferAsk s else s) = u at asked
  have drive : u.drive = s.drive := asked.1 .drive (by decide)
  have role : u.role = .walk := (role_of_startup (asked.1 .startup (by decide))).trans hr
  rw [watchOwned_stands (by
    rw [ownedHook_walk_idle (s := u.onWalk fun k => { k with state := w, stateCount := 0 }) role hw, Bool.and_false]
    exact (congrArg Drive.ownedSeen drive).trans hseen)]
  refine ⟨?_, asked.comp (onWalk_frame _ _) (by decide) (by decide)⟩
  rw [State.onWalk_walk, asked.1 .walk (by decide)]

end

section
variable {b : Bulletin} {s : State}

theorem exec_xferYield (h : Takes .xferYield b s) : exec (.xferYield b) s = .next (walkYield b (taken s)) :=
  congrArg Host.Outcome.next (receive_taken h (walkYield b))

theorem exec_xferRefuse (h : Takes .xferRefuse b s) : exec (.xferRefuse b) s = .next (walkRefuse b (taken s)) :=
  congrArg Host.Outcome.next (receive_taken h (walkRefuse b))

theorem exec_xferAbort (h : Reaches .xferAbort b s) :
    exec (.xferAbort b) s = .next (takeXferBroadcast .xferAbort b (dragAbort b) (handed s)) :=
  congrArg Host.Outcome.next (receive_reaches h _)

theorem exec_xferRelease (h : Takes .xferRelease b s) : exec (.xferRelease b) s = .next (dragRelease b (taken s)) :=
  congrArg Host.Outcome.next (receive_taken h (dragRelease b))

theorem walkYield_idle (h : s.numberOf .drag ≠ some b.sender.toNat ∨ s.walk.state ≠ .asking) : walkYield b s = s :=
  if_neg fun hc => by
    rcases h with h | h
    · exact h (by simpa [fromDrag] using hc.1)
    · exact h hc.2

theorem walkRefuse_idle (h : s.numberOf .drag ≠ some b.sender.toNat ∨ s.walk.state ≠ .asking) : walkRefuse b s = s :=
  if_neg fun hc => by
    rcases h with h | h
    · exact h (by simpa [fromDrag] using hc.1)
    · exact h hc.2

theorem walkYield_asking (h : s.numberOf .drag = some b.sender.toNat) (hw : s.walk.state = .asking) :
    walkYield b s = setWalkState .transferring (setCoil true s) := if_pos ⟨by simp [fromDrag, h], hw⟩

theorem walkRefuse_asking (h : s.numberOf .drag = some b.sender.toNat) (hw : s.walk.state = .asking) :
    walkRefuse b s = transferRefused (reasonOf b.words) s := if_pos ⟨by simp [fromDrag, h], hw⟩

theorem dragAbort_other (h : s.numberOf .walk ≠ some b.sender.toNat) : dragAbort b s = s :=
  if_pos (by simp [fromWalk, h])

/-- An XFER-ABORT of the walk (TABLE 7-7). -/
theorem dragAbort_walk (h : s.numberOf .walk = some b.sender.toNat) : dragAbort b s =
    match s.rope.ownership with
    | .yielding => enterReclaiming (ignoreYield s)
    | .yielded => s.onRope fun r => { r with reclaimPending := true }
    | .digging | .reclaiming => s := if_neg (by simp [fromWalk, h])

theorem dragRelease_yielded (h : s.numberOf .walk = some b.sender.toNat) (ho : s.rope.ownership = .yielded) :
    dragRelease b s = s.onRope fun r => { r with reclaimPending := true } := if_pos ⟨by simp [fromWalk, h], ho⟩

theorem dragRelease_idle (h : s.numberOf .walk ≠ some b.sender.toNat ∨ s.rope.ownership ≠ .yielded) :
    dragRelease b s = s :=
  if_neg fun hc => by
    rcases h with h | h
    · exact h (by simpa [fromWalk] using hc.1)
    · exact h hc.2

/-- The drag acts on a broadcast XFER bulletin once joined (R131). -/
theorem takeXferBroadcast_drag (hr : s.role = .drag) (k : Kind) (act : State → State) :
    takeXferBroadcast k b act s = if s.joined then act s else s := by
  unfold takeXferBroadcast
  rw [hr]
  cases s.joined <;> rfl

theorem handed_rope (s : State) : (handed s).rope = s.rope := (handed_frame s).1 .rope (by decide)

/-- An XFER-ABORT at the drag (R131). -/
theorem exec_xferAbort_drag (h : Reaches .xferAbort b s) (hr : s.role = .drag) (hj : s.joined = true) :
    exec (.xferAbort b) s = .next (dragAbort b (handed s)) := by
  rw [exec_xferAbort h, takeXferBroadcast_drag ((handed_role s).trans hr), handed_joined, hj]
  rfl

theorem dragAbort_yielding (h : s.numberOf .walk = some b.sender.toNat) (ho : s.rope.ownership = .yielding)
    (ha : s.role.isAxis = true) : (dragAbort b s).rope = { s.rope with ownership := .reclaiming }
      ∧ (dragAbort b s).ring = { s.ring with rearm := true, current := 0 }
      ∧ Frame [.line, .ring, .rope, .drive] s (dragAbort b s) := by
  have ignored : Frame [.line] s (ignoreYield s) := muteEntries_frame _ s
  have role : (ignoreYield s).role.isAxis = true :=
    (congrArg Role.isAxis (role_of_startup (ignored.1 .startup (by decide)))).trans ha
  have watch := watchOwned_frame (setRearm ((ignoreYield s).onRope fun r => { r with ownership := .reclaiming }))
  have rearm := setRearm_frame ((ignoreYield s).onRope fun r => { r with ownership := .reclaiming })
  have aborts : dragAbort b s = enterReclaiming (ignoreYield s) := by rw [dragAbort_walk h, ho]
  rw [aborts]
  refine ⟨?_, ?_, ignored.comp (enterReclaiming_frame _) (by decide) (by decide)⟩
  · rw [enterReclaiming, watch.1 .rope (by decide), rearm.1 .rope (by decide), State.onRope_rope, ignored.1 .rope (by decide)]
  · rw [(enterReclaiming_axis role).2, ignored.1 .ring (by decide)]

end

end Sys2Proof.Machine

open Sys2Proof Sys2Proof.Machine

/-- Settles O31: an asking walk owns nothing before and after, so the drive chain stands. -/
theorem askingWalkAnswered : Obligations.AskingWalkAnswered := by
  intro b s hr hj ho
  have unseen : s.walk.state = .asking → s.drive.ownedSeen = false := fun hw =>
    (ho.seen hj).trans (ownedHook_walk_idle hr (by rw [hw]; decide))
  refine ⟨fun h => ⟨fun hn hw => ⟨_, exec_xferYield h, ?_⟩, fun hn => ?_⟩,
    fun h => ⟨fun hn hw => ⟨_, exec_xferRefuse h, ?_⟩, fun hn => ?_⟩⟩
  · rw [walkYield_asking (s := taken s) hn hw]
    obtain ⟨walk, f⟩ := setWalkState_idle (s := setCoil true (taken s)) (w := .transferring) hr (unseen hw) (by decide)
    have coil : (setCoil true (taken s)).walk = { s.walk with coil := true, coilOut := true } := by
      have out : (taken s).role = .walk ∧ (taken s).joined = true := ⟨hr, hj⟩
      unfold setCoil
      rw [State.onWalk_walk, out.1, out.2]
      rfl
    refine ⟨by rw [walk, coil], (taken_frame s).comp ((onWalk_frame _ _).comp f (ds := [.line, .walk]) ?_ ?_) ?_ ?_⟩ <;>
      decide
  · rw [exec_xferYield h, walkYield_idle (by exact hn)]
  · rw [walkRefuse_asking (s := taken s) hn hw]
    have raised := raiseQuiet_frame .transferRefused (some (reasonOf b.words)) (taken s)
    have cleared := clearAlarm_warn_frame (c := .transferRefused) rfl (some (reasonOf b.words))
      (raiseQuiet .transferRefused (some (reasonOf b.words)) (taken s))
    have f : Frame [.line, .alarms, .table] (taken s) (raiseAndClear .transferRefused (some (reasonOf b.words)) (taken s)) :=
      raised.trans cleared
    obtain ⟨walk, g⟩ := setWalkState_idle (w := .parked)
      (s := raiseAndClear .transferRefused (some (reasonOf b.words)) (taken s))
      ((role_of_startup (f.1 .startup (by decide))).trans hr)
      ((congrArg Drive.ownedSeen (f.1 .drive (by decide))).trans (unseen hw)) (by decide)
    refine ⟨by rw [transferRefused, walk, f.1 .walk (by decide)]; rfl, fun room habs => ?_,
      (taken_frame s).comp (f.comp g (ds := [.line, .walk, .alarms, .table]) ?_ ?_) ?_ ?_⟩
    · rw [transferRefused, g.1 .alarms (by decide)]
      exact raiseAndClear_record (s := taken s) hj room habs _
    all_goals decide
  · rw [exec_xferRefuse h, walkRefuse_idle (by exact hn)]

/-- Settles O32, by the rows of TABLE 7-7. -/
theorem dragReclaims : Obligations.DragReclaims := by
  intro b s hr
  refine ⟨fun hn h => ?_, fun hn h => ?_, fun hj hn => ⟨fun h => ⟨fun ho => ?_, fun ho => ?_, fun ho => ?_⟩,
    fun h => ⟨fun ho => ⟨_, exec_xferRelease h, ?_⟩, fun ho => ?_⟩⟩⟩
  · rw [exec_xferAbort h, takeXferBroadcast_drag ((handed_role s).trans hr), handed_joined]
    rcases hn with hn | hn
    · rw [hn]; rfl
    · rw [dragAbort_other (by rw [handed_numberOf]; exact hn), ite_self]
  · rw [exec_xferRelease h, dragRelease_idle (s := taken s) (.inl hn)]
  · refine ⟨_, exec_xferAbort_drag h hr hj, ?_⟩
    obtain ⟨rope, ring, f⟩ := dragAbort_yielding (b := b) (s := handed s) (by rw [handed_numberOf]; exact hn)
      (by rw [handed_rope]; exact ho) (by rw [handed_role, hr]; rfl)
    rw [rope, ring, handed_rope, handed_ring]
    exact ⟨rfl, rfl, (handed_frame s).comp f (by decide) (by decide)⟩
  · refine ⟨_, exec_xferAbort_drag h hr hj, ?_⟩
    rw [dragAbort_walk (by rw [handed_numberOf]; exact hn), handed_rope, ho]
    refine ⟨?_, rfl, (handed_frame s).comp (onRope_frame _ _) (by decide) (by decide)⟩
    rw [State.onRope_rope, handed_rope]
  · rw [exec_xferAbort_drag h hr hj, dragAbort_walk (by rw [handed_numberOf]; exact hn), handed_rope]
    rcases ho with ho | ho <;> rw [ho]
  · rw [dragRelease_yielded (s := taken s) hn ho]
    exact ⟨rfl, rfl, (taken_frame s).comp (onRope_frame _ _) (by decide) (by decide)⟩
  · rw [exec_xferRelease h, dragRelease_idle (s := taken s) (.inr ho)]

end

section
/-! PROOFS. A TRIP taken or passed on (R93, R163, R173, R178). -/

namespace Sys2Proof.Machine

/-! ### The TRIP bulletins of the queue -/

/-- What a placement leaves of the entries of other kinds. -/
theorem mem_enqueue_other {e x : Entry} {s : State} (h : x ∈ (enqueue e s).1.line.queue) (hk : x.kind ≠ e.kind) :
    x ∈ s.line.queue := by
  have self : ∀ f : Entry, f.kind = e.kind → x ≠ f := fun f hf hx => hk (hx ▸ hf)
  have general : ∀ {u : State} {f : Entry}, f.kind = e.kind → x ∈ (admitGeneral f u).1.line.queue → x ∈ u.line.queue := by
    intro u f hf hx
    rcases admitGeneral_cases f u with ⟨-, ha⟩ | ⟨-, k, y, -, ha⟩ | ⟨-, ha⟩ <;> rw [ha] at hx
    · exact (mem_standIn.1 hx).resolve_left (self f hf)
    · exact (List.eraseIdx_sublist _ _).subset ((mem_standIn.1 hx).resolve_left (self f hf))
    · exact hx
  rcases enqueue_cases e s with ⟨-, he⟩ | ⟨-, -, -, he⟩ | ⟨-, he⟩ <;> rw [he] at h
  · exact h
  · exact (mem_standIn.1 h).resolve_left (self _ rfl)
  · have hx := general (f := e.ranked) rfl h
    rw [replaceElders_queue] at hx
    split at hx
    · obtain ⟨y, hy, rfl⟩ := List.mem_map.1 hx
      have other : ¬ y.kind = e.kind := by
        intro hy'
        refine hk ?_
        split <;> exact hy'
      rw [if_neg (by simp [other])]
      exact (List.mem_filter.1 hy).1
    · exact hx

/-- Every TRIP bulletin queued was queued before. -/
def NoTripPlaced (l l' : LineUnit) : Prop := ∀ e ∈ l'.queue, e.kind = .trip → e ∈ l.queue

theorem NoTripPlaced.trans {l l' l'' : LineUnit} (h : NoTripPlaced l l') (k : NoTripPlaced l' l'') : NoTripPlaced l l'' :=
  fun e he hk => h e (k e he hk) hk

theorem noTripPlaced_of_eq {l l' : LineUnit} (h : l' = l) : NoTripPlaced l l' := h ▸ fun _ he _ => he

theorem noTripPlaced_enqueue {e : Entry} (h : e.kind ≠ .trip) (s : State) : NoTripPlaced s.line (enqueue e s).1.line :=
  fun _ hx hk => mem_enqueue_other hx fun hc => h (hc ▸ hk)

theorem AlarmLine.noTrip {s t : State} (h : AlarmLine s t) : NoTripPlaced s.line t.line := by
  induction h with
  | refl => exact noTripPlaced_of_eq rfl
  | tail _ hlast ih =>
    rcases hlast with h | ⟨e, -, hk, h⟩
    · exact ih.trans (noTripPlaced_of_eq h)
    · exact ih.trans (h ▸ noTripPlaced_enqueue (by rw [hk]; decide) _)

theorem muteEntries_noTrip {k : Kind} (h : k ≠ .trip) (s : State) : NoTripPlaced s.line (muteEntries k s).line := by
  intro e he hk
  obtain ⟨y, hy, rfl⟩ := List.mem_map.1 he
  have kind : y.kind = .trip := by
    rw [← hk]
    split <;> rfl
  rw [if_neg (by simpa [kind] using h.symm)]
  exact hy

theorem setWalkState_noTrip (w : WalkState) (s : State) : NoTripPlaced s.line (setWalkState w s).line := by
  unfold setWalkState; dsimp only
  rw [(watchOwned_frame _).1 .line (by decide)]
  split
  · exact muteEntries_noTrip (by decide) s
  · exact noTripPlaced_of_eq rfl

/-! ### The drive chain stopped (R93) -/

/-- The drive chain is safe and its last frame stops the converter. -/
def Stopped (d : Drive) : Prop := driveSafe d ∧ d.frameWord = 0 ∧ d.frameEnable = false

theorem Stopped.watch {s : State} (h : Stopped s.drive) : Stopped (watchOwned s).drive := by
  obtain ⟨⟨f, word, enable, brake⟩, frame, off⟩ := h
  unfold watchOwned; dsimp only
  split
  · exact ⟨⟨rfl, rfl, rfl, brake⟩, rfl, rfl⟩
  · exact ⟨⟨f, word, enable, brake⟩, frame, off⟩

theorem driveTripped_stopped {s : State} (h : s.role.isAxis = true) : Stopped (driveTripped s).drive := by
  unfold driveTripped
  rw [if_pos h]
  exact ⟨⟨rfl, rfl, rfl, rfl⟩, rfl, rfl⟩

/-- Nothing that the entry to TRIPPED brings starts the drive or places a TRIP. -/
theorem Move.afterTrip {g : Tag} {s t : State} (m : Move g s t) (hg : g ∈ trippedTags) :
    NoTripPlaced s.line t.line ∧ (Stopped s.drive → Stopped t.drive) := by
  have drive : Block.drive ∉ g.blocks → t.drive = s.drive := m.frame.1 .drive
  have quiet : AlarmLine s t → Block.drive ∉ g.blocks →
      NoTripPlaced s.line t.line ∧ (Stopped s.drive → Stopped t.drive) := fun hl hd =>
    ⟨hl.noTrip, fun h => by rw [drive hd]; exact h⟩
  by_cases hb : Block.line ∉ g.blocks ∧ Block.drive ∉ g.blocks
  · exact ⟨noTripPlaced_of_eq (m.frame.1 .line hb.1), fun h => by rw [drive hb.2]; exact h⟩
  cases m with
  | trip =>
    refine ⟨noTripPlaced_of_eq ((driveTripped_frame _).1 .line (by decide)), fun h => ?_⟩
    by_cases ha : s.role.isAxis = true
    · exact driveTripped_stopped (s := s.onAlarms fun a => { a with mode := .tripped }) ha
    · unfold driveTripped
      rw [if_neg (by exact ha)]
      exact h
  | place e _ hn hk =>
    rw [placeTold_line]
    refine ⟨noTripPlaced_enqueue (fun hc => ?_) s, fun h => by rw [drive (by simp [Tag.blocks])]; exact h⟩
    rw [hc] at hg
    revert hg
    decide
  | walkTo w =>
    refine ⟨setWalkState_noTrip w s, fun h => ?_⟩
    unfold setWalkState; dsimp only
    refine Stopped.watch ?_
    split <;> exact h
  | raised c d => exact quiet (raiseQuiet_alarmLine c d s) (by simp [Tag.blocks])
  | cleared c d => exact quiet (clearAlarm_alarmLine c d s) (by simp [Tag.blocks])
  | walk | coil | table => exact absurd (by simp [Tag.blocks]) hb
  | _ => exact absurd hg (by simp [trippedTags])

theorem Moves.afterTrip {s t : State} (m : Moves trippedTags s t) :
    NoTripPlaced s.line t.line ∧ (Stopped s.drive → Stopped t.drive) := by
  induction m with
  | refl => exact ⟨noTripPlaced_of_eq rfl, id⟩
  | tail _ hlast ih =>
    obtain ⟨g, hg, m⟩ := hlast
    exact ⟨ih.1.trans (m.afterTrip hg).1, fun h => (m.afterTrip hg).2 (ih.2 h)⟩

/-! ### The entry to TRIPPED (R93, R163, R173, R180) -/

section
variable {s : State}

/-- The mode and the drive chain at entry to TRIPPED; the walk and the episode follow. -/
def tripping (s : State) : State := driveTripped (s.onAlarms fun a => { a with mode := .tripped })

theorem enterTripped_eq (s : State) :
    enterTripped s = openEpisode (s.alarms.mode == .run) (walkTripped (tripping s)) := rfl

theorem tripping_frame (s : State) : Frame [.drive, .alarms] s (tripping s) :=
  (onAlarms_frame s _).comp (driveTripped_frame _) (by decide) (by decide)

theorem tripping_role (s : State) : (tripping s).role = s.role :=
  role_of_startup ((tripping_frame s).1 .startup (by decide))

theorem enterTripped_rest (s : State) : Moves trippedTags (tripping s) (enterTripped s) := by
  refine (walkTripped_moves _).trans ?_
  rw [enterTripped_eq]
  unfold openEpisode
  refine .ite (fun _ => (Move.table .episode _ _ ?_).moves (by decide)) fun _ => .refl _ _
  unfold refreshFirstOut
  split <;> rfl

theorem enterTripped_mode (s : State) : (enterTripped s).alarms.mode = .tripped :=
  (enterTripped_rest s).tripped (trip_mode s)

theorem enterTripped_stopped (h : s.role.isAxis = true) : Stopped (enterTripped s).drive :=
  (enterTripped_rest s).afterTrip.2 (driveTripped_stopped (s := s.onAlarms fun a => { a with mode := .tripped }) h)

theorem walkTripped_other (h : s.role ≠ .walk) : walkTripped s = s := if_neg h

/-- Away from the walk the entry changes the mode, the drive chain and the cab's episode. -/
theorem enterTripped_other (h : s.role ≠ .walk) :
    enterTripped s = openEpisode (s.alarms.mode == .run) (tripping s) := by
  rw [enterTripped_eq, walkTripped_other (by rw [tripping_role]; exact h)]

theorem enterTripped_noAxis (h : s.role.isAxis = false) : (enterTripped s).drive = s.drive := by
  have idle : ¬ s.role.isAxis = true := by rw [h]; decide
  rw [enterTripped_other (fun hw => idle (by rw [hw]; rfl)), (openEpisode_frame _ _).1 .drive (by decide), tripping,
    driveTripped, if_neg (by exact idle)]
  rfl

theorem setWalkState_walk (w : WalkState) (s : State) :
    (setWalkState w s).walk = { s.walk with state := w, stateCount := 0 } := by
  unfold setWalkState; dsimp only
  rw [(watchOwned_frame _).1 .walk (by decide), State.onWalk_walk]
  split <;> rfl

theorem enterFaulted_walk (d : Nat) (s : State) :
    (enterFaulted d s).walk = { s.walk with state := .faulted, stateCount := 0, coil := false, coilOut := false } := by
  have rest : (enterFaulted d s).walk = (setWalkState .faulted (setCoil false s)).walk := by
    refine ((raiseQuiet_frame _ _ _).1 .walk (by decide)).trans ?_
    exact place_walk _ _
  rw [rest, setWalkState_walk]
  rfl

/-- The walk at entry to TRIPPED: a transfer is FAULTED, a step goes back to READY (R163). -/
theorem walkTripped_walk (h : s.role = .walk) : (walkTripped s).walk =
    match s.walk.state with
    | .asking | .transferring => { s.walk with state := .faulted, stateCount := 0, coil := false, coilOut := false }
    | .stepping | .settling => { s.walk with state := .ready, stateCount := 0, stepCount := 0 }
    | .parked | .ready | .returning | .faulted => s.walk := by
  have ready : (clearAlarm .stepOvertime none (setWalkState .ready (s.onWalk fun k => { k with stepCount := 0 }))).walk
      = { s.walk with state := .ready, stateCount := 0, stepCount := 0 } := by
    rw [(clearAlarm_frame _ _ _).1 .walk (by decide), setWalkState_walk]
    rfl
  unfold walkTripped
  rw [if_pos h]
  cases hw : s.walk.state with
  | asking => exact enterFaulted_walk _ s
  | transferring => exact enterFaulted_walk _ s
  | stepping => exact ready
  | settling => exact ready
  | parked | ready | returning | faulted => rfl

theorem enterTripped_walk (h : s.role = .walk) : (enterTripped s).walk =
    match s.walk.state with
    | .asking | .transferring => { s.walk with state := .faulted, stateCount := 0, coil := false, coilOut := false }
    | .stepping | .settling => { s.walk with state := .ready, stateCount := 0, stepCount := 0 }
    | .parked | .ready | .returning | .faulted => s.walk := by
  have walk : (tripping s).walk = s.walk := (tripping_frame s).1 .walk (by decide)
  rw [enterTripped_eq, (openEpisode_frame _ _).1 .walk (by decide),
    walkTripped_walk ((tripping_role s).trans h), walk]

/-- The cab's episode at entry to TRIPPED (R180). -/
theorem enterTripped_table (h : s.role = .cab) : (enterTripped s).table =
    if s.alarms.mode = .run then refreshFirstOut { s.table with episode := .floating } else s.table := by
  have table : (tripping s).table = s.table := (tripping_frame s).1 .table (by decide)
  rw [enterTripped_other (fun hw => by rw [h] at hw; cases hw)]
  unfold openEpisode
  by_cases hm : s.alarms.mode = .run
  · rw [if_pos ⟨(tripping_role s).trans h, by rw [hm]; rfl⟩, if_pos hm, State.onTable_table, table]
  · rw [if_neg (fun hc => hm (by simpa using hc.2)), if_neg hm, table]

theorem walkTripped_tight (s : State) : Frame [.line, .drive, .walk, .alarms, .table, .ring] s (walkTripped s) := by
  have faulted := (((setCoil_frame false s).comp (setWalkState_frame .faulted _) (ds := [.line, .drive, .walk]) (by decide)
    (by decide)).trans ((place_frame { kind := .xferAbort, target := Config.broadcast, words := reasonWords 3 } _).mono
      (by decide))).comp (raiseQuiet_frame .transferFailed (some 3) _)
        (ds := [.line, .drive, .walk, .alarms, .table, .ring]) (by decide) (by decide)
  have ready := ((onWalk_frame s fun k => { k with stepCount := 0 }).comp (setWalkState_frame .ready _)
    (ds := [.line, .drive, .walk]) (by decide) (by decide)).comp (clear_frame .stepOvertime none _)
      (ds := [.line, .drive, .walk, .alarms, .table, .ring]) (by decide) (by decide)
  unfold walkTripped
  refine .ite ?_ (.refl _ s)
  cases s.walk.state with
  | asking | transferring => exact faulted
  | stepping | settling => exact ready
  | parked | ready | returning | faulted => exact .refl _ s

/-- What the entry to TRIPPED may change. -/
theorem enterTripped_tight (s : State) :
    Frame [.line, .drive, .walk, .alarms, .table, .ring] s (enterTripped s) := by
  rw [enterTripped_eq]
  exact ((tripping_frame s).comp (walkTripped_tight _) (by decide) (by decide)).trans
    ((openEpisode_frame _ _).mono (by decide))

/-! ### A TRIP received -/

variable {b : Bulletin}

theorem exec_trip {s : State} (h : Reaches .trip b s) : exec (.trip b) s = .next (takeTrip b (handed s)) :=
  congrArg Host.Outcome.next (receive_reaches h (takeTrip b))

theorem takeTrip_idle (h : s.joined = false) : takeTrip b s = s := by
  unfold takeTrip
  rw [h]
  rfl

/-- Beside the entry to TRIPPED a TRIP changes the cab's table alone. -/
theorem takeTrip_frame (hj : s.joined = true) (b : Bulletin) : Frame [.table] (enterTripped s) (takeTrip b s) := by
  unfold takeTrip
  rw [hj, if_pos rfl]
  dsimp only
  split
  · split
    · exact .refl _ _
    · exact onTable_frame _ _
  · exact .refl _ _

theorem takeTrip_merges (hj : s.joined = true) (hr : s.role = .cab) {c : AlarmCode} {d : Option Nat} {r : Stamp}
    (h : tripOf b.words = some (c, d, r)) :
    (takeTrip b s).table = mergeTrip b.sender.toNat c d r (enterTripped s).table := by
  have role : (enterTripped s).role = .cab := (role_of_startup ((enterTripped_tight s).1 .startup (by decide))).trans hr
  unfold takeTrip
  rw [hj, if_pos rfl]
  simp only [role, if_true, h]
  rfl

theorem mergeTrip_episode (n : Nat) (c : AlarmCode) (d : Option Nat) (r : Stamp) (t : MachineTable) :
    (mergeTrip n c d r t).episode = t.episode := by
  unfold mergeTrip
  split
  · rw [refreshFirstOut_episode]
  · rw [refreshFirstOut_episode]
    exact (tableForm_episode _ _ t).1

theorem takeTrip_episode (hj : s.joined = true) (hr : s.role = .cab) :
    (takeTrip b s).table.episode = (enterTripped s).table.episode := by
  have role : (enterTripped s).role = .cab := (role_of_startup ((enterTripped_tight s).1 .startup (by decide))).trans hr
  cases h : tripOf b.words with
  | none =>
    unfold takeTrip
    simp only [hj, if_true, role, h]
  | some x =>
    obtain ⟨c, d, r⟩ := x
    rw [takeTrip_merges hj hr h, mergeTrip_episode]

/-- A TRIP of no present record enters its own (R178). -/
theorem mergeTrip_records {n : Nat} {c : AlarmCode} {d : Option Nat} {r : Stamp} {t : MachineTable}
    (room : t.records.length < 64) (habs : ∀ x ∈ t.records, x.key ≠ (n, c, d)) :
    (mergeTrip n c d r t).records = tableInsert ⟨n, c, d, .trip, .activeUnack, r, 0⟩ t.records := by
  have absent : ¬ t.records.any (sameKey n c d) = true := fun h => by
    obtain ⟨x, hx, hk⟩ := any_sameKey.1 h
    exact habs x hx hk
  rw [mergeTrip, if_neg absent, refreshFirstOut_records, tableForm_room (by simp) (tableRoom_room room)]

end

end Sys2Proof.Machine

open Sys2Proof Sys2Proof.Machine

/-- Settles O25: the entry to TRIPPED as its parts leave it, and beside it the cab's table alone. -/
theorem tripTakenTripsStation : Obligations.TripTakenTripsStation := by
  intro b s h
  refine ⟨fun hj => ?_, fun hj => ⟨_, exec_trip h, ?_⟩⟩
  · rw [exec_trip h, takeTrip_idle ((handed_joined s).trans hj)]
  have joined : (handed s).joined = true := (handed_joined s).trans hj
  have mode : (handed s).alarms = s.alarms := handed_alarms s
  have beside := takeTrip_frame joined b
  have tight := enterTripped_tight (handed s)
  obtain ⟨trips, -⟩ := (enterTripped_rest (handed s)).afterTrip
  have line : (tripping (handed s)).line = (handed s).line := (tripping_frame _).1 .line (by decide)
  have begun : ∀ e ∈ (handed s).line.queue, e ∈ (begin s).line.queue := by
    unfold handed
    split <;> exact fun _ he => he
  rw [beside.1 .alarms (by decide), beside.1 .line (by decide), beside.1 .drive (by decide),
    beside.1 .walk (by decide), enterTripped_mode]
  refine ⟨rfl, ?slot, fun ha => ?axis, fun ha => ?other, fun e he hk => begun e ?_, fun hr => ?walk,
    fun hr => ⟨fun hm => ?episode, fun c d r ht room habs => ?record⟩,
    (handed_frame s).comp (tight.comp beside (ds := [.line, .drive, .walk, .alarms, .table, .ring]) ?_ ?_) ?_ ?_⟩
  case slot =>
    have held := ((enterTripped_rest (handed s)).lineSteps (b := false) (by decide)).held.ackSlot
    rw [held, line]
    unfold handed
    split
    · next ha => rw [ha]; rfl
    · next ha => exact (beq_eq_false_iff_ne.2 ha).symm
  case axis =>
    have stopped := enterTripped_stopped (s := handed s) (by rw [handed_role]; exact ha)
    exact stopped
  case other => rw [enterTripped_noAxis (by rw [handed_role]; exact ha), handed_drive]
  case walk =>
    have walk : (handed s).walk = s.walk := (handed_frame s).1 .walk (by decide)
    rw [enterTripped_walk ((handed_role s).trans hr), walk]
    refine ⟨fun hw => ?_, fun hw => ?_⟩
    · rcases hw with hw | hw <;> rw [hw] <;> exact ⟨rfl, rfl⟩
    · rcases hw with hw | hw <;> rw [hw] <;> exact ⟨rfl, rfl, rfl⟩
  case episode =>
    rw [takeTrip_episode joined ((handed_role s).trans hr), enterTripped_table ((handed_role s).trans hr),
      mode, if_pos hm, refreshFirstOut_episode]
  case record =>
    have table : (enterTripped (handed s)).table.records = s.table.records := by
      rw [enterTripped_table ((handed_role s).trans hr), handed_table]
      split
      · rw [refreshFirstOut_records]
      · rfl
    rw [takeTrip_merges joined ((handed_role s).trans hr) ht, mergeTrip_records (by rw [table]; exact room)
      (by rw [table]; exact habs), table]
  · have placed := trips e he hk
    rwa [line] at placed
  all_goals decide

end

section
/-! PROOFS. The share unit at a received bulletin and at the outcome of a return (R101 to R103, R108). -/

namespace Sys2Proof.Machine

section
variable {b : Bulletin} {s : State}

/-! ### A SHARE-ASK answered (TABLE 6-3) -/

theorem exec_shareAsk (h : Takes .shareAsk b s) : exec (.shareAsk b) s = .next (answerAsk b (taken s)) :=
  congrArg Host.Outcome.next (receive_taken h (answerAsk b))

/-- A directed bulletin of a first placement stands behind all (R15, R16). -/
theorem enqueue_taken {k : Kind} (ht : k ≠ .trip) (hr : isReplacing k = false) {v : State} (hv : v.line = (taken s).line)
    (ha : s.line.state = .active) (hs : hasSpace s) (target : BitVec 4) (words : List Word) :
    enqueue { kind := k, target, words } v
      = (v.onLine fun l => { l with queue := l.queue ++ [queued k target words] }, .admitted) := by
  have active : ¬ v.line.state ≠ .active := by rw [hv]; exact not_not_intro ha
  have last : standIn (queued k target words) v.line.queue = v.line.queue ++ [queued k target words] := by
    rw [hv]
    exact standIn_eq_append fun x hx => (rank_of_mem_taken hx).trans_le (Nat.zero_le _)
  have rank : ({ kind := k, target, words, rank := max 0 k.code } : Entry) = queued k target words := by
    rw [Nat.zero_max, queued]
  have space : (generalEntries v.line.queue).length < Config.queueSize := by rw [hv]; exact (hasSpace_taken s).2 hs
  simp only [enqueue, if_neg active, ht, false_and, if_false, hr, Bool.false_eq_true, rank, admitGeneral,
    if_pos space, last]
  rfl

/-- The SHARE-REFUSE that answers an ask. -/
def askRefused (b : Bulletin) (n : Nat) (s : State) : State :=
  place { kind := .shareRefuse, target := toStation b.sender.toNat, words := reasonWords n } s

/-- TABLE 6-3 row by row. -/
theorem answerAsk_eq (b : Bulletin) (s : State) : answerAsk b s =
    if min 64 (countOf b.words) = 0 then askRefused b 1 s
    else if s.share.fresh then askRefused b 2 s
    else if s.spare = 0 then askRefused b 3 s
    else (placeGrant b.sender.toNat (min (min 64 (countOf b.words)) s.spare) s).1 := rfl

theorem askRefused_taken (ha : s.line.state = .active) (hs : hasSpace s) (b : Bulletin) (n : Nat) :
    (askRefused b n (taken s)).line = { (taken s).line with
        queue := (taken s).line.queue ++ [queued .shareRefuse (BitVec.ofNat 4 b.sender.toNat) (reasonWords n)] }
      ∧ (askRefused b n (taken s)).share = s.share :=
  ⟨place_taken_line (by decide) rfl ha hs _ _, (place_frame _ _).1 .share (by decide)⟩

theorem placeGrant_taken (ha : s.line.state = .active) (hs : hasSpace s) (peer k : Nat) :
    (placeGrant peer k (taken s)).1.line = { (taken s).line with
        queue := (taken s).line.queue ++ [queued .shareGrant (BitVec.ofNat 4 peer) (grantWords k s.share.grantNumber)] }
      ∧ (placeGrant peer k (taken s)).1.share = { s.share with
          grantNumber := s.share.grantNumber + 1, promised := s.share.promised + k } := by
  have placed := enqueue_taken (k := .shareGrant) (by decide) rfl
    (v := (taken s).onShare fun h => { h with grantNumber := h.grantNumber + 1 }) rfl ha hs (BitVec.ofNat 4 peer)
    (grantWords k s.share.grantNumber)
  have number : (taken s).share.grantNumber = s.share.grantNumber := rfl
  simp only [placeGrant, toStation, number, placed]
  exact ⟨rfl, rfl⟩

/-! ### SHARE-GRANT and SHARE-REFUSE at the borrower (R101, R103) -/

theorem exec_shareGrant (h : Takes .shareGrant b s) : exec (.shareGrant b) s = .next (takeGrant b (taken s)) :=
  congrArg Host.Outcome.next (receive_taken h (takeGrant b))

theorem exec_shareRefuse (h : Takes .shareRefuse b s) : exec (.shareRefuse b) s = .next (takeRefuse b (taken s)) :=
  congrArg Host.Outcome.next (receive_taken h (takeRefuse b))

theorem answerFrom_share (peer : Nat) (s : State) : (answerFrom peer s).share =
    if s.share.ask.any fun a => a.peer == peer then { s.share with ask := none } else s.share := by
  unfold answerFrom
  split <;> rfl

theorem answerFrom_frame' (peer : Nat) (s : State) : Frame [.line, .share] s (answerFrom peer s) := by
  unfold answerFrom
  exact .ite (endAsk_frame s) (.refl _ s)

theorem answerFrom_ask (peer : Nat) (s : State) : (answerFrom peer s).share.ask =
    if s.share.ask.any fun a => a.peer == peer then none else s.share.ask := by
  rw [answerFrom_share]
  split <;> rfl

/-- A grant that carries a count is booked (R103). -/
theorem takeGrant_books (hf : s.share.fresh = false) (h1 : 1 ≤ countOf b.words) (h64 : countOf b.words ≤ 64) :
    takeGrant b s = (answerFrom b.sender.toNat s).onShare
      (bookBorrowed b.sender.toNat (countOf b.words) (grantOf b.words) s.globals.loanTerm) := by
  have range : countInRange (countOf b.words) = true := decide_eq_true ⟨h1, h64⟩
  have fresh : (answerFrom b.sender.toNat s).share.fresh = false := by
    rw [answerFrom_share]
    split <;> exact hf
  have globals : (answerFrom b.sender.toNat s).globals = s.globals :=
    globals_of_startup ((answerFrom_frame' _ s).1 .startup (by decide))
  unfold takeGrant; dsimp only
  rw [fresh, range, globals]
  rfl

theorem bookBorrowed_new {peer : Nat} {h : Share} (hn : ∀ r ∈ h.borrowedRecords, r.peer ≠ peer) (k : Nat) (g : Word)
    (term : Nat) : (bookBorrowed peer k g term h).borrowedRecords
      = h.borrowedRecords ++ [⟨peer, k, term, g, .holding, 0, 0, none⟩] := by
  have absent : h.borrowedRecords.any (fun r => r.peer == peer) = false := by simpa using hn
  unfold bookBorrowed
  dsimp only
  rw [absent]
  rfl

theorem bookBorrowed_again {peer : Nat} {h : Share} (hn : ∃ r ∈ h.borrowedRecords, r.peer = peer) (k : Nat) (g : Word)
    (term : Nat) : (bookBorrowed peer k g term h).borrowedRecords = h.borrowedRecords.map fun r =>
      if r.peer = peer then { r with count := r.count + k, term := term, grantNumber := g } else r := by
  have present : h.borrowedRecords.any (fun r => r.peer == peer) = true := by simpa using hn
  unfold bookBorrowed
  dsimp only
  rw [present, if_pos rfl]
  refine List.map_congr_left fun r _ => ?_
  by_cases hr : r.peer = peer
  · rw [if_pos (beq_iff_eq.mpr hr), if_pos hr]
  · rw [if_neg (by simpa using hr), if_neg hr]

end

/-! ### SHARE-RETURN at the lender (R108) -/

section
variable {b : Bulletin} {s : State}

theorem exec_shareReturn (h : Takes .shareReturn b s) : exec (.shareReturn b) s = .next (takeReturn b (taken s)) :=
  congrArg Host.Outcome.next (receive_taken h (takeReturn b))

theorem takeReturn_idle (h : ∀ r ∈ s.share.lentRecords, r.peer ≠ b.sender.toNat ∨ r.grantNumber ≠ grantOf b.words) :
    takeReturn b s = s := by
  have absent : s.share.lentRecords.find? (fun r => r.peer == b.sender.toNat && r.grantNumber == grantOf b.words)
      = none := by
    refine List.find?_eq_none.2 fun r hr hc => ?_
    rw [Bool.and_eq_true, beq_iff_eq, beq_iff_eq] at hc
    rcases h r hr with hp | hg
    · exact hp hc.1
    · exact hg hc.2
  unfold takeReturn; dsimp only
  rw [absent, ite_self]

/-- The lent records once `m` tokens of a peer's loan are back. -/
def lentLeft (peer m : Nat) (l : List LentRecord) : List LentRecord :=
  (l.map fun x => if x.peer == peer then { x with count := x.count - m } else x).filter fun x => decide (0 < x.count)

theorem lent_unique {l : List LentRecord} (hn : (l.map (·.peer)).Nodup) {x y : LentRecord} (hx : x ∈ l) (hy : y ∈ l)
    (h : x.peer = y.peer) : x = y := List.inj_on_of_nodup_map hn hx hy h

theorem takeReturn_moves {r : LentRecord} (hf : s.share.fresh = false) (hr : r ∈ s.share.lentRecords)
    (hp : r.peer = b.sender.toNat) (hg : r.grantNumber = grantOf b.words)
    (hn : (s.share.lentRecords.map (·.peer)).Nodup) (h1 : 1 ≤ countOf b.words) (h64 : countOf b.words ≤ 64) :
    takeReturn b s = s.onShare fun h => { h with
      own := h.own + min (countOf b.words) r.count, lent := h.lent - min (countOf b.words) r.count,
      lentRecords := lentLeft b.sender.toNat (min (countOf b.words) r.count) h.lentRecords } := by
  have found : s.share.lentRecords.find? (fun r => r.peer == b.sender.toNat && r.grantNumber == grantOf b.words)
      = some r := by
    cases hc : s.share.lentRecords.find? (fun r => r.peer == b.sender.toNat && r.grantNumber == grantOf b.words) with
    | none => exact absurd (by rw [hp, hg]; simp) (List.find?_eq_none.1 hc r hr)
    | some x =>
      have hx := List.find?_some hc
      rw [Bool.and_eq_true, beq_iff_eq, beq_iff_eq] at hx
      rw [lent_unique hn hr (List.mem_of_find?_eq_some hc) (hp.trans hx.1.symm)]
  have range : countInRange (countOf b.words) = true := decide_eq_true ⟨h1, h64⟩
  unfold takeReturn; dsimp only
  rw [hf, range, found]
  rfl

theorem mem_lentLeft {peer m : Nat} {l : List LentRecord} {x : LentRecord} :
    x ∈ lentLeft peer m l ↔ 0 < x.count ∧ ∃ y ∈ l, x = if y.peer = peer then { y with count := y.count - m } else y := by
  unfold lentLeft
  rw [List.mem_filter, List.mem_map, decide_eq_true_iff, and_comm]
  refine and_congr_right fun _ => exists_congr fun y => and_congr_right fun _ => ?_
  rw [eq_comm]
  simp only [beq_iff_eq]

end

/-! ### The outcome of a SHARE-RETURN at the borrower (R108) -/

section
variable {l : List BorrowedRecord} {peer : Nat} {ret : Nat × Word} {r x : BorrowedRecord}

theorem borrowed_unique (hn : (l.map (·.peer)).Nodup) {x y : BorrowedRecord} (hx : x ∈ l) (hy : y ∈ l)
    (h : x.peer = y.peer) : x = y := List.inj_on_of_nodup_map hn hx hy h

/-- The record that a return names is the one found. -/
theorem find?_return (hn : (l.map (·.peer)).Nodup) (hr : r ∈ l) (h : isReturnOf peer ret r = true) :
    l.find? (isReturnOf peer ret) = some r := by
  cases hc : l.find? (isReturnOf peer ret) with
  | none => exact absurd h (List.find?_eq_none.1 hc r hr)
  | some y =>
    rw [borrowed_unique hn hr (List.mem_of_find?_eq_some hc)
      ((isReturnOf_iff.1 h).1.trans (isReturnOf_iff.1 (List.find?_some hc)).1.symm)]

theorem mem_settled {m : Nat} : x ∈ settled peer ret m l ↔
    0 < x.count ∧ ∃ y ∈ l, x = if isReturnOf peer ret y then { y.settle with count := y.count - m } else y := by
  unfold settled
  rw [List.mem_filter, List.mem_map, decide_eq_true_iff, and_comm]
  refine and_congr_right fun _ => exists_congr fun y => and_congr_right fun _ => ?_
  rw [eq_comm]

/-- The records of other peers stand. -/
theorem mem_settled_other {m : Nat} (hx : x.peer ≠ peer) (hc : 0 < x.count) : x ∈ settled peer ret m l ↔ x ∈ l := by
  rw [mem_settled]
  refine ⟨fun ⟨_, y, hy, he⟩ => ?_, fun h => ⟨hc, x, h, ?_⟩⟩
  · by_cases hi : isReturnOf peer ret y = true
    · rw [if_pos hi] at he
      exact absurd ((congrArg BorrowedRecord.peer he).trans (isReturnOf_iff.1 hi).1) hx
    · rw [if_neg hi] at he
      exact he ▸ hy
  · rw [if_neg fun hi => hx (isReturnOf_iff.1 hi).1]

/-- A return that takes the whole count leaves no record of its peer. -/
theorem settled_gone {m : Nat} (hn : (l.map (·.peer)).Nodup) (hr : r ∈ l) (h : isReturnOf peer ret r = true)
    (hm : r.count ≤ m) (hx : x ∈ settled peer ret m l) : x.peer ≠ peer := by
  intro hp
  obtain ⟨hc, y, hy, he⟩ := mem_settled.1 hx
  have same : y.peer = r.peer := by
    rw [(isReturnOf_iff.1 h).1, ← hp, he]
    split <;> rfl
  obtain rfl := borrowed_unique hn hy hr same
  rw [if_pos h] at he
  rw [he] at hc
  exact absurd hc (by show ¬ 0 < y.count - m; omega)

theorem settled_holds {m : Nat} (hr : r ∈ l) (h : isReturnOf peer ret r = true) (hm : m < r.count) :
    { r.settle with count := r.count - m } ∈ settled peer ret m l :=
  mem_settled.2 ⟨by show 0 < r.count - m; omega, r, hr, by rw [if_pos h]⟩

end

section
variable {e : Entry} {s : State} {r : BorrowedRecord}

/-- What a delivered return takes from its record: nothing where a merged grant has changed its number. -/
def returnTakes (e : Entry) (r : BorrowedRecord) : Nat :=
  if r.grantNumber = grantOf e.words then min (countOf e.words) r.count else 0

theorem returnDelivered_none (h : ∀ r ∈ s.share.borrowedRecords,
    ¬ isReturnOf e.target.toNat (countOf e.words, grantOf e.words) r = true) : returnDelivered e s = s := by
  have absent := List.find?_eq_none.2 h
  unfold returnDelivered; dsimp only
  rw [absent]

theorem returnDelivered_some (hn : (s.share.borrowedRecords.map (·.peer)).Nodup) (hr : r ∈ s.share.borrowedRecords)
    (h : isReturnOf e.target.toNat (countOf e.words, grantOf e.words) r = true) :
    (returnDelivered e s).share = { s.share with
      borrowed := s.share.borrowed - returnTakes e r,
      borrowedRecords := settled e.target.toNat (countOf e.words, grantOf e.words) (returnTakes e r)
        s.share.borrowedRecords } := by
  have found := find?_return hn hr h
  unfold returnDelivered; dsimp only
  rw [found]
  rfl

theorem failReturn_none {h : Share} {peer : Nat} {ret : Nat × Word}
    (hn : ∀ r ∈ h.borrowedRecords, ¬ isReturnOf peer ret r = true) : failReturn peer ret h = h := by
  unfold failReturn
  rw [List.find?_eq_none.2 hn]

theorem failReturn_drops {h : Share} {peer : Nat} {ret : Nat × Word} (hn : (h.borrowedRecords.map (·.peer)).Nodup)
    (hr : r ∈ h.borrowedRecords) (hi : isReturnOf peer ret r = true) (hg : r.grantNumber = ret.2) :
    failReturn peer ret h = { h with
      borrowed := h.borrowed - r.count, borrowedRecords := h.borrowedRecords.filter fun x => !isReturnOf peer ret x } := by
  simp only [failReturn, find?_return hn hr hi, if_pos hg]

theorem failReturn_holds {h : Share} {peer : Nat} {ret : Nat × Word} (hn : (h.borrowedRecords.map (·.peer)).Nodup)
    (hr : r ∈ h.borrowedRecords) (hi : isReturnOf peer ret r = true) (hg : r.grantNumber ≠ ret.2) :
    failReturn peer ret h = { h with
      borrowedRecords := h.borrowedRecords.map fun x => if isReturnOf peer ret x then x.settle else x } := by
  simp only [failReturn, find?_return hn hr hi, if_neg hg]

/-- A failed return changes the borrowed tokens and the record of its grant, no other. -/
theorem failReturn_others {h : Share} {peer : Nat} {ret : Nat × Word} (hn : (h.borrowedRecords.map (·.peer)).Nodup) :
    failReturn peer ret h = { h with
        borrowed := (failReturn peer ret h).borrowed, borrowedRecords := (failReturn peer ret h).borrowedRecords }
      ∧ ∀ x, x.peer ≠ peer → (x ∈ (failReturn peer ret h).borrowedRecords ↔ x ∈ h.borrowedRecords) := by
  have other : ∀ x : BorrowedRecord, x.peer ≠ peer → ¬ isReturnOf peer ret x = true := fun x hx hi =>
    hx (isReturnOf_iff.1 hi).1
  by_cases hex : ∃ r ∈ h.borrowedRecords, isReturnOf peer ret r = true
  · obtain ⟨r, hr, hi⟩ := hex
    by_cases hg : r.grantNumber = ret.2
    · rw [failReturn_drops hn hr hi hg]
      refine ⟨rfl, fun x hx => ?_⟩
      rw [List.mem_filter]
      simp [other x hx]
    · rw [failReturn_holds hn hr hi hg]
      refine ⟨rfl, fun x hx => ⟨fun hm => ?_, fun hm => List.mem_map.2 ⟨x, hm, if_neg (other x hx)⟩⟩⟩
      obtain ⟨y, hy, rfl⟩ := List.mem_map.1 hm
      by_cases hk : isReturnOf peer ret y = true
      · rw [if_pos hk] at hx
        exact absurd (isReturnOf_iff.1 hk).1 hx
      · rwa [if_neg hk]
  · rw [failReturn_none fun r hr hi => hex ⟨r, hr, hi⟩]
    exact ⟨rfl, fun _ _ => .rfl⟩

end

end Sys2Proof.Machine

open Sys2Proof Sys2Proof.Machine

/-- Settles O34, by the rows of TABLE 6-3. -/
theorem shareAskAnswered : Obligations.ShareAskAnswered := by
  intro b s h hs
  have f : Frame [.line, .share] (taken s) (answerAsk b (taken s)) := by
    have refused : ∀ n, Frame [.line, .share] (taken s) (askRefused b n (taken s)) := fun n =>
      (place_frame _ _).mono (by decide)
    rw [answerAsk_eq]
    exact .ite (refused 1) (.ite (refused 2) (.ite (refused 3) (placeGrant_frame _ _ _)))
  refine ⟨_, exec_shareAsk h, (taken_frame s).comp f (by decide) (by decide), fun h0 => ?_, fun h0 hf => ?_,
    fun h0 hf hsp => ?_, fun h0 hf hsp => ?_⟩ <;> rw [answerAsk_eq]
  · rw [if_pos h0]
    exact askRefused_taken h.active hs b 1
  · rw [if_neg h0, if_pos (by exact hf)]
    exact askRefused_taken h.active hs b 2
  · rw [if_neg h0, if_neg (by rw [show (taken s).share = s.share from rfl, hf]; decide), if_pos (by exact hsp)]
    exact askRefused_taken h.active hs b 3
  · rw [if_neg h0, if_neg (by rw [show (taken s).share = s.share from rfl, hf]; decide), if_neg (by exact hsp)]
    exact placeGrant_taken h.active hs _ _

/-- Settles O35, by the booking of the borrowed record after the ask that the answer ends. -/
theorem askAnswersTaken : Obligations.AskAnswersTaken := by
  intro b s hf
  refine ⟨fun h h1 h64 => ⟨_, exec_shareGrant h, ?_⟩,
    fun h => ⟨fun ha => ⟨_, exec_shareRefuse h, ?_⟩, fun ha => ?_⟩⟩
  · rw [takeGrant_books (s := taken s) hf h1 h64]
    have share := answerFrom_share b.sender.toNat (taken s)
    have kept : ∀ {α : Type} (f : Share → α), (∀ h : Share, f { h with ask := none } = f h) →
        f (answerFrom b.sender.toNat (taken s)).share = f s.share := by
      intro α f hask
      rw [share]
      split
      · exact hask _
      · rfl
    have records : (answerFrom b.sender.toNat (taken s)).share.borrowedRecords = s.share.borrowedRecords :=
      kept Share.borrowedRecords fun _ => rfl
    refine ⟨(taken_frame s).comp (((answerFrom_frame' _ _).trans ((onShare_frame _ _).mono (by decide))))
      (by decide) (by decide), ?_, ?_, ?_, ?_, fun ha => ?_, fun ha => ?_, fun hn => ?_, fun hn => ?_⟩
    · exact congrArg (· + countOf b.words) (kept Share.borrowed fun _ => rfl)
    · exact kept Share.own fun _ => rfl
    · exact kept Share.lent fun _ => rfl
    · exact kept Share.lentRecords fun _ => rfl
    · exact (answerFrom_ask _ _).trans (if_pos ha)
    · exact (answerFrom_ask _ _).trans (if_neg (by rw [show (taken s).share = s.share from rfl, ha]; decide))
    · rw [State.onShare_share, bookBorrowed_new (by rw [records]; exact hn), records]
      rfl
    · rw [State.onShare_share, bookBorrowed_again (by rw [records]; exact hn), records]
      rfl
  · have taken_fresh : ¬ (taken s).share.fresh = true := by rw [show (taken s).share = s.share from rfl, hf]; decide
    unfold takeRefuse
    rw [if_neg taken_fresh]
    exact ⟨(taken_frame s).comp (answerFrom_frame' _ _) (by decide) (by decide),
      (answerFrom_share _ _).trans (if_pos ha)⟩
  · have stands : answerFrom b.sender.toNat (taken s) = taken s :=
      if_neg (by rw [show (taken s).share = s.share from rfl, ha]; decide)
    rw [exec_shareRefuse h, takeRefuse, stands, ite_self]

namespace Sys2Proof.Machine

/-! ### The end of a SHARE-RETURN's attempts -/

section
variable {s : State} {k : Nat} {e : Entry}

/-- The state in which the outcome of a delivered return acts, where no alarm is listed. -/
theorem returnEnd_delivered (h : FlightAt s k e) (hk : e.kind = .shareReturn) (hl : s.alarms.list = []) :
    ∃ u, exec (.attemptEnd true) s = .next (returnDelivered e u) ∧ Frame [.line] (begin s) u := by
  refine ⟨leaveSent ((begin s).onLine fun l => { l with bitErrorRun := 0 }), ?_,
    (onLine_frame (begin s) _).trans (leaveSent_frame _)⟩
  have directed : ¬ e.kind.isBroadcast = true := by rw [hk]; decide
  have sent := deliveredTo_nil (s := (begin s).onLine fun l => { l with bitErrorRun := 0 }) hl { e with rank := 0 }
  rw [if_neg (by exact directed)] at sent
  rw [exec_attemptEnd h true]
  simp only [if_true]
  rw [attemptDelivered_eq, sent]
  unfold outcomeDelivered
  simp only [hk]
  rfl

/-- The state in which the outcome of a failed return acts. -/
theorem returnEnd_failed (h : FlightAt s k e) (hk : e.kind = .shareReturn) (ha : e.attempts = 3) :
    ∃ u, exec (.attemptEnd false) s
        = .next (returnFailed e.target.toNat (countOf e.words, grantOf e.words) e.muted u)
      ∧ Frame [.line] (begin s) u := by
  refine ⟨leaveQueue ((begin s).onLine fun l => { l with bitErrorRun := 0 }), ?_,
    (onLine_frame (begin s) _).trans ((onLine_frame _ _).trans (count_frame _ _))⟩
  have directed : ¬ e.kind.isBroadcast = true := by rw [hk]; decide
  rw [exec_attemptEnd h false]
  simp only [Bool.false_eq_true, if_false]
  rw [attemptFails_last (e := { e with rank := 0 }) ha.ge, noTaker_eq, if_neg (by exact directed)]
  unfold outcomeFailed
  simp only [hk]

end

/-- The share unit after a failed return. -/
theorem returnFailed_shareUnit (peer : Nat) (ret : Nat × Word) (muted : Bool) (s : State) :
    (returnFailed peer ret muted s).share = failReturn peer ret s.share := by
  rw [returnFailed_share]
  split
  · rfl
  · rw [loanDropped, (raiseAndClear_frame _ _ _).1 .share (by decide), State.onShare_share]

theorem loanDropped_frame (n : Nat) (s : State) : Frame [.line, .alarms, .table] s (loanDropped n s) :=
  (raiseQuiet_frame _ _ s).trans (clearAlarm_warn_frame rfl _ _)

theorem returnFailed_tight (peer : Nat) (ret : Nat × Word) (muted : Bool) (s : State) :
    Frame [.line, .share, .alarms, .table] s (returnFailed peer ret muted s) := by
  rw [returnFailed_share]
  exact .ite ((onShare_frame s _).mono (by decide))
    ((onShare_frame s _).comp (loanDropped_frame _ _) (by decide) (by decide))

end Sys2Proof.Machine

/-- Settles O36: the lender by the record of its grant; the borrower by the record that the return names. -/
theorem returnTakenMovesTokens : Obligations.ReturnTakenMovesTokens := by
  refine ⟨fun b s h hf => ⟨fun hn => ?idle, fun r hr hp hg hn h1 h64 => ⟨_, exec_shareReturn h, ?lender⟩⟩,
    fun s k e h hk hl hn => ?borrower⟩
  case idle => rw [exec_shareReturn h, takeReturn_idle (by exact hn)]
  case lender =>
    rw [takeReturn_moves (s := taken s) hf hr hp hg hn h1 h64]
    refine ⟨(taken_frame s).comp (onShare_frame _ _) (by decide) (by decide), rfl, rfl, rfl, rfl, fun hm => ?_,
      fun hm x hx => ?_, fun x hx hc => ?_⟩
    · exact mem_lentLeft.2 ⟨by show 0 < r.count - _; omega, r, hr, by rw [if_pos hp]⟩
    · intro hxp
      obtain ⟨hc, y, hy, rfl⟩ := mem_lentLeft.1 hx
      have same : y.peer = b.sender.toNat := by
        rw [← hxp]
        split <;> rfl
      obtain rfl := lent_unique hn hy hr (same.trans hp.symm)
      rw [if_pos same] at hc
      exact absurd hc (by show ¬ 0 < y.count - min (countOf b.words) y.count; omega)
    · refine mem_lentLeft.trans ⟨fun ⟨_, y, hy, he⟩ => ?_, fun hm => ⟨hc, x, hm, by rw [if_neg hx]⟩⟩
      by_cases hyp : y.peer = b.sender.toNat
      · rw [if_pos hyp] at he
        exact absurd ((congrArg LentRecord.peer he).trans hyp) hx
      · rw [if_neg hyp] at he
        exact he ▸ hy
  case borrower =>
    have named : ∀ r : BorrowedRecord, isReturnOf e.target.toNat (countOf e.words, grantOf e.words) r = true ↔
        r.peer = e.target.toNat ∧ r.inFlight = some (countOf e.words, grantOf e.words) := fun r => isReturnOf_iff
    refine ⟨?delivered, fun ha => ?failed⟩
    case delivered =>
      obtain ⟨u, hu, f⟩ := returnEnd_delivered h hk hl
      have share : u.share = s.share := f.1 .share (by decide)
      have g := returnDelivered_frame e u
      refine ⟨_, hu, ?others, (g.1 .alarms (by decide)).trans (f.1 .alarms (by decide)),
        f.comp g (by decide) (by decide), fun hgone => ?none, fun r hr hgone hc => ?some⟩
      case others =>
        by_cases hex : ∃ r ∈ u.share.borrowedRecords,
            isReturnOf e.target.toNat (countOf e.words, grantOf e.words) r = true
        · obtain ⟨r, hr, hi⟩ := hex
          dsimp only
          rw [returnDelivered_some (by rw [share]; exact hn) hr hi, share]
          exact ⟨rfl, fun x hx hc => mem_settled_other hx hc⟩
        · rw [returnDelivered_none fun r hr hi => hex ⟨r, hr, hi⟩]
          dsimp only
          rw [share]
          exact ⟨rfl, fun _ _ _ => .rfl⟩
      case none =>
        rw [returnDelivered_none (by rw [share]; exact fun r hr hi => hgone r hr ((named r).1 hi)), share]
      case some =>
        have hi := (named r).2 (not_not.1 hgone)
        rw [returnDelivered_some (by rw [share]; exact hn) (by rw [share]; exact hr) hi, share]
        refine ⟨fun hg => ?_, fun hg => ?_⟩
        · have takes : returnTakes e r = min (countOf e.words) r.count := if_pos hg
          rw [takes]
          refine ⟨rfl, fun hm => ?_, fun hm x hx => settled_gone hn hr hi (by omega) hx⟩
          have held := settled_holds (l := s.share.borrowedRecords) hr hi (m := min (countOf e.words) r.count) (by omega)
          rwa [Nat.min_eq_left hm.le] at held ⊢
        · have takes : returnTakes e r = 0 := if_neg hg
          rw [takes]
          exact ⟨rfl, settled_holds (l := s.share.borrowedRecords) hr hi (m := 0) hc⟩
    case failed =>
      obtain ⟨u, hu, f⟩ := returnEnd_failed h hk ha
      have share : u.share = s.share := f.1 .share (by decide)
      have joined : u.joined = s.joined := joined_of_startup (f.1 .startup (by decide))
      have after := returnFailed_shareUnit e.target.toNat (countOf e.words, grantOf e.words) e.muted u
      rw [share] at after
      refine ⟨_, hu, ?_, f.comp (returnFailed_tight _ _ _ u) (by decide) (by decide), fun hm => ?muted,
        fun hm hj => ?drops, fun hgone => ?_, fun r hr hgone => ?some⟩
      case muted =>
        rw [returnFailed_share, if_pos hm]
        exact f.1 .alarms (by decide)
      case drops =>
        have now : u.now = s.now := by rw [State.now, f.1 .time (by decide)]; rfl
        have listed : u.alarms.list = [] := (congrArg Alarms.list (f.1 .alarms (by decide))).trans hl
        rw [returnFailed_share, if_neg (by rw [hm]; decide)]
        obtain ⟨r, hr, code, detail, state, raised⟩ := raiseAndClear_record (c := .shareLoanDropped)
          (s := u.onShare (failReturn e.target.toNat (countOf e.words, grantOf e.words))) (joined.trans hj)
          (by rw [State.onShare_alarms, listed]; decide) (by rw [State.onShare_alarms, listed]; exact fun _ h => nomatch h)
          (some e.target.toNat)
        exact ⟨r, hr, code, detail, state, raised.trans now⟩
      case some =>
        have hi := (named r).2 (not_not.1 hgone)
        rw [after]
        refine ⟨fun hg => ?_, fun hg => ?_⟩
        · rw [failReturn_drops hn hr hi hg]
          refine ⟨rfl, fun x hx hp => ?_⟩
          obtain ⟨hm, left⟩ := List.mem_filter.1 hx
          obtain rfl := borrowed_unique hn hm hr (hp.trans (isReturnOf_iff.1 hi).1.symm)
          exact absurd left (by rw [hi]; decide)
        · rw [failReturn_holds hn hr hi hg]
          exact ⟨rfl, List.mem_map.2 ⟨r, hr, if_pos hi⟩⟩
      · dsimp only
        rw [after]
        have others := failReturn_others (peer := e.target.toNat) (ret := (countOf e.words, grantOf e.words)) hn
        exact ⟨others.1, fun x hx _ => others.2 x hx⟩
      · rw [after, failReturn_none fun r hr hi => hgone r hr ((named r).1 hi)]

end

section
/-! PROOFS. A STATUS taken or passed on (R39 to R42, R112). -/

namespace Sys2Proof.Machine

/-! ### Sequence gaps are counted at a STATUS alone -/

theorem sequenceGaps_enqueue (e : Entry) (s : State) :
    (enqueue e s).1.line.counters.sequenceGaps = s.line.counters.sequenceGaps := by
  have general : ∀ (f : Entry) (u : State),
      (admitGeneral f u).1.line.counters.sequenceGaps = u.line.counters.sequenceGaps := by
    intro f u
    rcases admitGeneral_cases f u with ⟨-, h⟩ | ⟨-, k, x, -, h⟩ | ⟨-, h⟩ <;> rw [h] <;> rfl
  have elders : (replaceElders e.kind s).line.counters.sequenceGaps = s.line.counters.sequenceGaps := by
    by_cases hk : isReplacing e.kind = true
    · rw [replaceElders_counters hk]
      unfold countReplaced
      split
      · split <;> rfl
      · rfl
    · unfold replaceElders
      rw [if_neg hk]
  rcases enqueue_cases e s with ⟨-, h⟩ | ⟨-, -, -, h⟩ | ⟨-, h⟩ <;> rw [h]
  · rfl
  · rfl
  · exact (general _ _).trans elders

theorem AlarmLine.sequenceGaps {s t : State} (h : AlarmLine s t) :
    t.line.counters.sequenceGaps = s.line.counters.sequenceGaps :=
  h.keeps (Q := fun l => l.counters.sequenceGaps = s.line.counters.sequenceGaps)
    (fun e u _ _ hu => (sequenceGaps_enqueue e u).trans hu) rfl

/-! ### The peer records -/

theorem peer_setPeer_other {n m : Nat} (h : m ≠ n) (g : PeerRecord → PeerRecord) (s : State) :
    (setPeer n g s).peer m = s.peer m := by
  show ((s.picture.peers.set n (g (s.peer n))).getD m {}) = _
  rw [List.getD_eq_getElem?_getD, List.getElem?_set_ne (Ne.symm h), ← List.getD_eq_getElem?_getD]
  rfl

theorem length_setPeer (n : Nat) (g : PeerRecord → PeerRecord) (s : State) :
    (setPeer n g s).picture.peers.length = s.picture.peers.length := List.length_set

theorem peer_of_picture {s t : State} (h : t.picture = s.picture) (n : Nat) : t.peer n = s.peer n := by
  rw [State.peer, State.peer, h]

theorem setPeer_frame' (n : Nat) (g : PeerRecord → PeerRecord) (s : State) : Frame [.picture] s (setPeer n g s) :=
  onPicture_frame s _

/-! ### The signature carried (R41) -/

section
variable {n : Nat} {c : Word} {s : State}

/-- Beside the alarm unit's act a compared signature sets or clears the foreign flag. -/
theorem compareSignature_peer (h : n < s.picture.peers.length) : (compareSignature n c s).peer n
    = { s.peer n with foreign := decide (c ≠ s.startup.signature) } := by
  have raised : ∀ u : State, (raiseQuiet .configMismatch (some n) u).peer n = u.peer n := fun u =>
    peer_of_picture ((raiseQuiet_frame _ _ _).1 .picture (by decide)) n
  have cleared : ∀ u : State, (clearAlarm .configMismatch (some n) u).peer n = u.peer n := fun u =>
    peer_of_picture ((clearAlarm_frame _ _ _).1 .picture (by decide)) n
  have stands : ∀ f : Bool, (s.peer n).foreign = f → s.peer n = { s.peer n with foreign := f } := by
    rintro f rfl
    rfl
  unfold compareSignature; dsimp only
  by_cases hd : c = s.startup.signature
  · rw [decide_eq_false (not_not_intro hd), if_neg (by simp [hd])]
    cases hf : (s.peer n).foreign with
    | false => rw [if_neg (by simp)]; exact stands false hf
    | true => rw [if_pos (by simp [hd]), cleared, peer_setPeer h]
  · rw [decide_eq_true (show c ≠ s.startup.signature from hd)]
    cases hf : (s.peer n).foreign with
    | false => rw [if_pos (by simp [hd]), raised, peer_setPeer h]
    | true => rw [if_neg (by simp), if_neg (by simp [hd])]; exact stands true hf

theorem compareSignature_other {m : Nat} (h : m ≠ n) : (compareSignature n c s).peer m = s.peer m := by
  have raised : ∀ u : State, (raiseQuiet .configMismatch (some n) u).peer m = u.peer m := fun u =>
    peer_of_picture ((raiseQuiet_frame _ _ _).1 .picture (by decide)) m
  have cleared : ∀ u : State, (clearAlarm .configMismatch (some n) u).peer m = u.peer m := fun u =>
    peer_of_picture ((clearAlarm_frame _ _ _).1 .picture (by decide)) m
  unfold compareSignature; dsimp only
  split
  · rw [raised, peer_setPeer_other h]
  · split
    · rw [cleared, peer_setPeer_other h]
    · rfl

theorem compareSignature_frame' (n : Nat) (c : Word) (s : State) :
    Frame [.line, .picture, .alarms, .table] s (compareSignature n c s) := by
  unfold compareSignature; dsimp only
  exact .ite ((setPeer_frame' _ _ _).comp (raiseQuiet_frame _ _ _) (by decide) (by decide))
    (.ite ((setPeer_frame' _ _ _).comp (clearAlarm_warn_frame rfl _ _) (by decide) (by decide)) (.refl _ s))

theorem compareSignature_length (n : Nat) (c : Word) (s : State) :
    (compareSignature n c s).picture.peers.length = s.picture.peers.length := by
  unfold compareSignature; dsimp only
  split
  · rw [(raiseQuiet_frame _ _ _).1 .picture (by decide), length_setPeer]
  · split
    · rw [(clearAlarm_frame _ _ _).1 .picture (by decide), length_setPeer]
    · rfl

theorem compareSignature_gaps (n : Nat) (c : Word) (s : State) :
    (compareSignature n c s).line.counters.sequenceGaps = s.line.counters.sequenceGaps := by
  unfold compareSignature; dsimp only
  split
  · exact (raiseQuiet_alarmLine _ _ _).sequenceGaps
  · split
    · exact (clearAlarm_alarmLine _ _ _).sequenceGaps
    · rfl

theorem compareSignature_list (h : ListOrdered s.alarms.list) : ListOrdered (compareSignature n c s).alarms.list := by
  unfold compareSignature; dsimp only
  split
  · exact listOrdered_raiseRecord _ _ h
  · split
    · exact listOrdered_clearAlarm _ _ h
    · exact h

end

/-! ### PEER SILENT cleared (R39) -/

/-- After a clear the record of its key is cleared or gone. -/
theorem clearAlarm_state {c : AlarmCode} {d : Option Nat} {s : State} {r : AlarmRecord} (hj : s.joined = true)
    (ho : (s.alarms.list.map AlarmRecord.key).Nodup) (hr : r ∈ (clearAlarm c d s).alarms.list) (hc : r.code = c)
    (hd : r.detail = d) : r.state = .clearedUnack := by
  have key : isRecord c d r = true := isRecord_iff.2 (by rw [AlarmRecord.key, hc, hd])
  cases hf : s.alarms.list.find? (isRecord c d) with
  | none =>
    rw [clearAlarm_absent hf] at hr
    exact absurd key (List.find?_eq_none.1 hf r hr)
  | some x =>
    have found := isRecord_iff.1 (List.find?_some hf)
    cases hs : x.state with
    | clearedUnack =>
      rw [clearAlarm_cleared hf hs] at hr
      rw [eq_of_key ho hr (List.mem_of_find?_eq_some hf) ((isRecord_iff.1 key).trans found.symm), hs]
    | activeAck =>
      rw [clearAlarm_acked hj hf hs] at hr
      simp [key] at hr
    | activeUnack =>
      rw [clearAlarm_active hj hf hs] at hr
      rcases mem_replace hr with rfl | ⟨-, hn⟩
      · rfl
      · rw [hn] at key; cases key

/-! ### A fresh flag (R112) -/

theorem freshPeer_share (n : Nat) (s : State) : (freshPeer n s).share =
    { s.share with
      own := s.share.own + ((s.share.lentRecords.filter fun r => r.peer = n).map (·.count)).sum,
      lent := s.share.lent - ((s.share.lentRecords.filter fun r => r.peer = n).map (·.count)).sum,
      borrowed := s.share.borrowed - ((s.share.borrowedRecords.filter fun r => r.peer = n).map (·.count)).sum,
      lentRecords := s.share.lentRecords.filter fun r => r.peer ≠ n,
      borrowedRecords := s.share.borrowedRecords.filter fun r => r.peer ≠ n } := by
  have lent : ∀ l : List LentRecord, (l.filter fun r => r.peer == n) = l.filter fun r => decide (r.peer = n) := fun l =>
    List.filter_congr fun r _ => beq_eq_decide _ _
  have borrowed : ∀ l : List BorrowedRecord, (l.filter fun r => r.peer == n) = l.filter fun r => decide (r.peer = n) :=
    fun l => List.filter_congr fun r _ => beq_eq_decide _ _
  have lent' : ∀ l : List LentRecord, (l.filter fun r => r.peer != n) = l.filter fun r => decide (r.peer ≠ n) := fun l =>
    List.filter_congr fun r _ => by rw [decide_not]; exact congrArg (!·) (beq_eq_decide _ _)
  have borrowed' : ∀ l : List BorrowedRecord, (l.filter fun r => r.peer != n) = l.filter fun r => decide (r.peer ≠ n) :=
    fun l => List.filter_congr fun r _ => by rw [decide_not]; exact congrArg (!·) (beq_eq_decide _ _)
  unfold freshPeer muteWhere; dsimp only
  rw [State.onLine_share, State.onShare_share, lent, borrowed, lent', borrowed']

/-! ### The STATUS as a whole -/

/-- The numbers that a STATUS skipped (R40). -/
def missedBy (b : Bulletin) (x : StatusFields) (s : State) : Nat := missedStatus (s.peer b.sender.toNat) b.seq x.fresh

/-- The gaps of a STATUS counted. -/
def gapsCounted (b : Bulletin) (x : StatusFields) (s : State) : State :=
  (setPeer b.sender.toNat (fun p => { p with gaps := min 65535 (p.gaps + missedBy b x s) }) s).count fun c =>
    { c with sequenceGaps := min 65535 (c.sequenceGaps + missedBy b x s) }

theorem gapsCounted_peer (b : Bulletin) (x : StatusFields) (s : State) (n : Nat) : (gapsCounted b x s).peer n
    = (setPeer b.sender.toNat (fun p => { p with gaps := min 65535 (p.gaps + missedBy b x s) }) s).peer n :=
  peer_of_picture ((count_frame _ _).1 .picture (by decide)) n

/-- The STATUS entered in the sender's record, before PEER SILENT clears. -/
def statusEntered (b : Bulletin) (x : StatusFields) (s : State) : State :=
  setPeer b.sender.toNat (fun p => { p with status := x, lastSeq := b.seq, heard := true, age := 0 })
    (compareSignature b.sender.toNat x.signature (gapsCounted b x s))

theorem takeStatus_eq {b : Bulletin} {x : StatusFields} (h : StatusFields.ofWords b.words = some x) (s : State) :
    takeStatus b s = if x.fresh then
        freshPeer b.sender.toNat (clearAlarm .peerSilent (some b.sender.toNat) (statusEntered b x s))
      else clearAlarm .peerSilent (some b.sender.toNat) (statusEntered b x s) := by
  unfold takeStatus
  rw [h]
  rfl

theorem statusEntered_frame (b : Bulletin) (x : StatusFields) (s : State) :
    Frame [.line, .picture, .alarms, .table] s (statusEntered b x s) :=
  (((setPeer_frame' _ _ s).comp (count_frame _ _) (ds := [.line, .picture, .alarms, .table]) (by decide) (by decide)).trans
    (compareSignature_frame' _ _ _)).trans ((setPeer_frame' _ _ _).mono (by decide))

theorem statusEntered_peer {b : Bulletin} {x : StatusFields} {s : State} (h : s.picture.peers.length = 8) :
    (statusEntered b x s).peer b.sender.toNat =
      { heard := true, age := 0, lastSeq := b.seq,
        gaps := min 65535 ((s.peer b.sender.toNat).gaps + missedBy b x s),
        foreign := decide (x.signature ≠ s.startup.signature), status := x } := by
  have in8 : b.sender.toNat < 8 := b.sender.isLt
  have counted : (gapsCounted b x s).peer b.sender.toNat =
      { s.peer b.sender.toNat with gaps := min 65535 ((s.peer b.sender.toNat).gaps + missedBy b x s) } := by
    rw [gapsCounted_peer, peer_setPeer (by rw [h]; exact in8)]
  have len : (gapsCounted b x s).picture.peers.length = 8 := by
    rw [gapsCounted, (count_frame _ _).1 .picture (by decide), length_setPeer, h]
  unfold statusEntered
  rw [peer_setPeer (by rw [compareSignature_length, len]; exact in8), compareSignature_peer (by rw [len]; exact in8),
    counted]
  rfl

theorem statusEntered_other {b : Bulletin} {x : StatusFields} {s : State} {n : Nat} (h : n ≠ b.sender.toNat) :
    (statusEntered b x s).peer n = s.peer n := by
  unfold statusEntered
  rw [peer_setPeer_other h, compareSignature_other h, gapsCounted_peer, peer_setPeer_other h]

theorem exec_status {b : Bulletin} {s : State} (h : Reaches .status b s) :
    exec (.status b) s = .next (takeStatus b (handed s)) := congrArg Host.Outcome.next (receive_reaches h (takeStatus b))

/-- The numbers skipped as R40 counts them. -/
theorem missedBy_eq (b : Bulletin) (x : StatusFields) (s : State) : missedBy b x s =
    if (s.peer b.sender.toNat).heard = false ∨ (x.fresh = true ∧ b.seq = 1#8)
        ∨ (b.seq - (s.peer b.sender.toNat).lastSeq - 1#8).toNat = 255 then 0
    else (b.seq - (s.peer b.sender.toNat).lastSeq - 1#8).toNat := by
  unfold missedBy missedStatus
  dsimp only
  by_cases h1 : (!(s.peer b.sender.toNat).heard || (x.fresh && b.seq == 1#8)) = true
  · rw [if_pos h1, if_pos]
    rcases Bool.or_eq_true_iff.1 h1 with h | h
    · exact .inl (by simpa using h)
    · exact .inr (.inl (by simpa using h))
  · rw [if_neg h1]
    refine if_congr ⟨fun h => .inr (.inr h), fun h => ?_⟩ rfl rfl
    rcases h with h | h | h
    · exact absurd (by simp [h]) h1
    · exact absurd (by simp [h]) h1
    · exact h

end Sys2Proof.Machine

open Sys2Proof Sys2Proof.Machine

/-- Settles O38: the sender's record as `statusEntered` leaves it; the clear and the fresh flag leave the picture. -/
theorem statusTakenUpdatesRecord : Obligations.StatusTakenUpdatesRecord := by
  intro b x s h hl hx
  refine ⟨_, exec_status h, ?_⟩
  rw [takeStatus_eq hx]
  have begun := handed_frame s
  have picture : (handed s).picture = s.picture := begun.1 .picture (by decide)
  have entered := statusEntered_frame b x (handed s)
  have cleared : Frame [.line, .alarms, .table] (statusEntered b x (handed s))
      (clearAlarm .peerSilent (some b.sender.toNat) (statusEntered b x (handed s))) := clearAlarm_warn_frame rfl _ _
  have missed : missedBy b x (handed s) = missedBy b x s := by
    rw [missedBy, missedBy, peer_of_picture picture]
  have gaps : (clearAlarm .peerSilent (some b.sender.toNat) (statusEntered b x (handed s))).line.counters.sequenceGaps
      = min 65535 (s.line.counters.sequenceGaps + missedBy b x s) := by
    refine (clearAlarm_alarmLine _ _ _).sequenceGaps.trans ((compareSignature_gaps _ _ _).trans ?_)
    show min 65535 ((handed s).line.counters.sequenceGaps + missedBy b x (handed s)) = _
    rw [handed_counters, missed]
  have silent : ∀ r ∈ (clearAlarm .peerSilent (some b.sender.toNat) (statusEntered b x (handed s))).alarms.list,
      r.code = .peerSilent → r.detail = some b.sender.toNat → s.joined = true → ListsOrdered s →
      r.state = .clearedUnack := by
    intro r hr hc hd hj ho
    have listed : ListOrdered (statusEntered b x (handed s)).alarms.list :=
      compareSignature_list (s := gapsCounted b x (handed s)) (by
        show ListOrdered (handed s).alarms.list
        rw [handed_alarms]
        exact ⟨ho.listOrder, ho.listKeys⟩)
    exact clearAlarm_state ((joined_of_startup (entered.1 .startup (by decide))).trans ((handed_joined s).trans hj))
      listed.2 hr hc hd
  have share : (clearAlarm .peerSilent (some b.sender.toNat) (statusEntered b x (handed s))).share = s.share :=
    (cleared.1 .share (by decide)).trans ((entered.1 .share (by decide)).trans (handed_share s))
  have own : ∀ n, (clearAlarm .peerSilent (some b.sender.toNat) (statusEntered b x (handed s))).peer n
      = (statusEntered b x (handed s)).peer n := peer_of_picture (cleared.1 .picture (by decide))
  have record := statusEntered_peer (b := b) (x := x) (s := handed s) (by rw [picture]; exact hl)
  rw [missed, handed_startup, peer_of_picture picture] at record
  have f : Frame [.line, .picture, .alarms, .table] (begin s)
      (clearAlarm .peerSilent (some b.sender.toNat) (statusEntered b x (handed s))) :=
    (begun.comp entered (by decide) (by decide)).trans (cleared.mono (by decide))
  dsimp only
  rw [← missedBy_eq b x s]
  generalize clearAlarm .peerSilent (some b.sender.toNat) (statusEntered b x (handed s)) = u
    at gaps silent share own f ⊢
  have fresh := freshPeer_frame b.sender.toNat u
  by_cases hf : x.fresh = true
  · rw [if_pos hf]
    refine ⟨⟨?_, ?_⟩, fun n hn => ?_, ?_, fun hn => absurd (hn.symm.trans hf) (by decide), fun _ => ?_,
      f.comp fresh (by decide) (by decide)⟩
    · rw [peer_of_picture (fresh.1 .picture (by decide)), own, record]
    · exact gaps
    · rw [peer_of_picture (fresh.1 .picture (by decide)), own, statusEntered_other hn, peer_of_picture picture]
    · rw [fresh.1 .alarms (by decide)]
      exact silent
    · rw [freshPeer_share, share]
  · rw [if_neg hf]
    refine ⟨⟨?_, gaps⟩, fun n hn => ?_, silent, fun _ => share, fun hn => absurd hn hf, f.mono (by decide)⟩
    · rw [own, record]
    · rw [own, statusEntered_other hn, peer_of_picture picture]

end

section
/-! PROOFS. The 10 µs sample: the owned hook, the emergency input and the captured edges (R31, R88, R184). -/

namespace Sys2Proof.Machine

/-! ### Tighter frames -/

/-- The blocks that the moves of a tag may change, where the clear of a warning leaves the ring (R174). -/
def Tag.tight (g : Tag) : List Block :=
  match g with
  | .cleared c => if c.severity = .warn then [.line, .alarms, .table] else [.line, .alarms, .table, .ring]
  | .dropped => [.line, .alarms, .table]
  | g => g.blocks

theorem Move.tight_frame {g : Tag} {s t : State} (m : Move g s t) : Frame g.tight s t := by
  have wide := m.frame
  cases m with
  | cleared c d =>
    unfold Tag.tight; dsimp only
    split
    · next hc => exact clearAlarm_warn_frame hc d s
    · exact clearAlarm_frame c d s
  | dropped n => exact loanDropped_frame n s
  | _ => exact wide

theorem Moves.tight_frame {gs : List Tag} {s t : State} (h : Moves gs s t) {bs : List Block}
    (hb : ∀ g ∈ gs, ∀ b ∈ g.tight, b ∈ bs) : Frame bs s t :=
  Moves.rel (.refl bs) (fun _ _ _ => Frame.trans) (fun g hg _ _ m => m.tight_frame.mono (hb g hg)) h

/-- Away from the axis roles no move but a REFERENCE's changes the ring. -/
theorem Move.ring_noAxis {g : Tag} {s t : State} (m : Move g s t) (h : s.role.isAxis = false) : t.ring = s.ring := by
  have rearm : ∀ u : State, u.role.isAxis = false → setRearm u = u := fun u hu => if_neg (by rw [hu]; decide)
  by_cases hb : Block.ring ∈ g.blocks
  · have clear : ∀ (c : AlarmCode) (d : Option Nat) (u : State), u.role.isAxis = false → (clearAlarm c d u).ring = u.ring := by
      intro c d u hu
      obtain ⟨v, f, form⟩ := clearAlarm_form c d u
      have ring : v.ring = u.ring := f.1 .ring (by decide)
      have role : v.role.isAxis = false := (congrArg Role.isAxis (role_of_startup (f.1 .startup (by decide)))).trans hu
      rw [form, rearm v role, ite_self, ring]
    cases m with
    | rearm => rw [rearm s h]
    | consume _ ha => rw [h] at ha; cases ha
    | reclaim =>
      rw [enterReclaiming, (watchOwned_frame _).1 .ring (by decide), rearm _ (by exact h)]
      rfl
    | cleared c d => exact clear c d s h
    | dropped n =>
      have f := raiseQuiet_frame .shareLoanDropped (some n) s
      exact (clear _ _ _ ((congrArg Role.isAxis (role_of_startup (f.1 .startup (by decide)))).trans h)).trans
        (f.1 .ring (by decide))
    | _ => exact absurd hb (by simp [Tag.blocks])
  · exact m.frame.1 .ring hb

theorem Moves.ring_noAxis {gs : List Tag} {s t : State} (m : Moves gs s t) (h : s.role.isAxis = false) :
    t.ring = s.ring := by
  induction m with
  | refl => rfl
  | tail hinit hlast ih =>
    obtain ⟨g, -, m⟩ := hlast
    exact (m.ring_noAxis ((congrArg Role.isAxis (Moves.role hinit)).trans h)).trans ih

/-! ### What a captured edge leaves -/

/-- Owned axis states of the walk. -/
def WalkState.owns : WalkState → Bool
  | .ready | .stepping | .settling => true
  | _ => false

theorem ownedHook_walk {s : State} (h : s.role = .walk) : s.ownedHook = (s.walkSide && s.walk.state.owns) := by
  unfold State.ownedHook
  rw [h]
  cases s.walk.state <;> simp [WalkState.owns]

/-- Between states that own, a change of walk state leaves the owned hook. -/
theorem ownedHook_walkTo {s : State} {w : WalkState} (h : s.walk.state.owns = w.owns) (n : Nat) :
    (s.onWalk fun k => { k with state := w, stateCount := n }).ownedHook = s.ownedHook := by
  by_cases hr : s.role = .walk
  · rw [ownedHook_walk hr, ownedHook_walk (s := s.onWalk fun k => { k with state := w, stateCount := n }) hr, h]
    rfl
  · have role : (s.onWalk fun k => { k with state := w, stateCount := n }).role = s.role := rfl
    unfold State.ownedHook
    rw [role]
    cases hrole : s.role with
    | walk => exact absurd hrole hr
    | _ => rfl

/-- The hook is seen as it is. -/
def Seen (s : State) : Prop := s.drive.ownedSeen = (s.joined && s.ownedHook)

/-- Where the hook is seen, a change between walk states that own leaves the drive chain. -/
theorem setWalkState_owned {s : State} {w : WalkState} (h : s.walk.state.owns = w.owns) (hs : Seen s) :
    (setWalkState w s).drive = s.drive ∧ (setWalkState w s).ownedHook = s.ownedHook := by
  unfold setWalkState; dsimp only
  have asked : Frame [.line] s (if s.walk.state = .asking then muteEntries .xferAsk s else s) :=
    .ite (muteEntries_frame _ s) (.refl _ s)
  generalize (if s.walk.state = .asking then muteEntries .xferAsk s else s) = u at asked
  have startup : u.startup = s.startup := asked.1 .startup (by decide)
  have walk : u.walk = s.walk := asked.1 .walk (by decide)
  have drive : u.drive = s.drive := asked.1 .drive (by decide)
  have hook : (u.onWalk fun k => { k with state := w, stateCount := 0 }).ownedHook = s.ownedHook := by
    rw [ownedHook_walkTo (by rw [walk]; exact h)]
    exact ownedHook_congr startup (asked.1 .inputs (by decide)) (by rw [asked.1 .rope (by decide)]) (by rw [walk])
  have joined : (u.onWalk fun k => { k with state := w, stateCount := 0 }).joined = s.joined := joined_of_startup startup
  have seen : (u.onWalk fun k => { k with state := w, stateCount := 0 }).drive.ownedSeen
      = ((u.onWalk fun k => { k with state := w, stateCount := 0 }).joined
        && (u.onWalk fun k => { k with state := w, stateCount := 0 }).ownedHook) := by
    rw [hook, joined]
    exact (congrArg Drive.ownedSeen drive).trans hs
  rw [watchOwned_stands seen]
  exact ⟨drive, hook⟩

theorem owns_of_captured : ∀ v w : WalkState, Tag.walkTo v w ∈ captureTags → v.owns = w.owns := by
  intro v w
  cases v <;> cases w <;> decide

/-- A captured edge leaves the drive chain and the owned hook. -/
theorem Move.captured {g : Tag} {s t : State} (m : Move g s t) (hg : g ∈ captureTags) (hs : Seen s) :
    t.drive = s.drive ∧ t.ownedHook = s.ownedHook := by
  have startup := m.startup
  by_cases hb : Block.walk ∈ g.blocks ∨ Block.rope ∈ g.blocks
  · cases m with
    | walkTo w => exact setWalkState_owned (owns_of_captured _ w hg) hs
    | walk p x _ h => exact ⟨rfl, ownedHook_congr startup rfl rfl (p.state h).1⟩
    | rope p x _ h => exact ⟨rfl, ownedHook_congr startup rfl (p.ownership h) rfl⟩
    | coil => exact absurd hg (by decide)
    | own | reclaim => exact absurd hg (by simp [captureTags, resultTags])
    | _ => exact absurd hb (by simp [Tag.blocks])
  · obtain ⟨walk, rope⟩ := not_or.1 hb
    have apart : ∀ x ∈ captureTags, Block.walk ∉ x.blocks →
        Block.inputs ∉ x.blocks ∧ Block.drive ∉ x.blocks := by decide
    obtain ⟨inputs, drive⟩ := apart g hg walk
    exact ⟨m.frame.1 .drive drive, ownedHook_congr startup (m.frame.1 .inputs inputs)
      (congrArg Rope.ownership (m.frame.1 .rope rope)) (congrArg Walk.state (m.frame.1 .walk walk))⟩

theorem Moves.captured {s t : State} (m : Moves captureTags s t) (hs : Seen s) :
    t.drive = s.drive ∧ t.ownedHook = s.ownedHook := by
  have all : t.startup = s.startup ∧ t.drive = s.drive ∧ t.ownedHook = s.ownedHook := by
    induction m with
    | refl => exact ⟨rfl, rfl, rfl⟩
    | tail _ hlast ih =>
      obtain ⟨g, hg, m⟩ := hlast
      obtain ⟨startup, drive, hook⟩ := ih
      obtain ⟨drive', hook'⟩ := m.captured hg (by
        unfold Seen
        rw [drive, hook, joined_of_startup startup]
        exact hs)
      exact ⟨m.startup.trans startup, drive'.trans drive, hook'.trans hook⟩
  exact all.2

/-! ### The units at a sample (R31 to R33) -/

theorem captureUnit_onUnit (u : UnitIndex) (g : CaptureUnit → CaptureUnit) (s : State) :
    (s.onUnit u g).captureUnit u = g (s.captureUnit u)
      ∧ (s.onUnit u g).captureUnit (otherUnit u) = s.captureUnit (otherUnit u) := by
  cases u <;> exact ⟨rfl, rfl⟩

theorem captureUnit_of_frame {bs : List Block} {s t : State} (f : Frame bs s t) (h0 : Block.unit0 ∉ bs)
    (h1 : Block.unit1 ∉ bs) (u : UnitIndex) : t.captureUnit u = s.captureUnit u := by
  cases u
  · exact f.1 .unit0 h0
  · exact f.1 .unit1 h1

/-- What the edges of a unit read of the state. -/
structure SameInstant (s t : State) : Prop where
  startup : t.startup = s.startup
  time : t.time = s.time
  encoder : t.encoder = s.encoder
  inputs : t.inputs = s.inputs

theorem SameInstant.of_frame {bs : List Block} {s t : State} (f : Frame bs s t)
    (h : Block.startup ∉ bs ∧ Block.time ∉ bs ∧ Block.encoder ∉ bs ∧ Block.inputs ∉ bs) : SameInstant s t :=
  ⟨f.1 .startup h.1, f.1 .time h.2.1, f.1 .encoder h.2.2.1, f.1 .inputs h.2.2.2⟩

theorem SameInstant.trans {s t u : State} (h : SameInstant s t) (k : SameInstant t u) : SameInstant s u :=
  ⟨k.startup.trans h.startup, k.time.trans h.time, k.encoder.trans h.encoder, k.inputs.trans h.inputs⟩

/-- A unit after the slave edge that a sample shows. -/
def slaveTaken (u : UnitIndex) (before : Byte) (index : Option Bool) (s : State) : CaptureUnit :=
  if showsSlave (captureSel u s.params) before s.inputs.din index then withSlave ⟨s.now, s.encoder⟩ (s.captureUnit u)
  else s.captureUnit u

/-- A unit after the edges that a sample shows: a slave edge first (R31). -/
def edgesTaken (u : UnitIndex) (before : Byte) (index : Option Bool) (s : State) : CaptureUnit :=
  if showsMaster (captureSel u s.params) before s.inputs.din then
    recordResult (captureResult (captureSel u s.params) (slaveTaken u before index s) s.now s.encoder s.units)
      (slaveTaken u before index s)
  else slaveTaken u before index s

theorem edgesTaken_congr {s t : State} (h : SameInstant s t) {u : UnitIndex} (hu : t.captureUnit u = s.captureUnit u)
    (before : Byte) (index : Option Bool) : edgesTaken u before index t = edgesTaken u before index s := by
  unfold edgesTaken slaveTaken State.now State.units
  rw [params_of_startup h.startup, globals_of_startup h.startup, h.time, h.encoder, h.inputs, hu]

theorem showsSlave_source {sel : CaptureSel} {before now : Byte} {index : Option Bool}
    (h : showsSlave sel before now index = true) : sel.slaveSource ≠ 0 := by
  intro h0
  simp [showsSlave, h0] at h

section
variable {u : UnitIndex} {before : Byte} {index : Option Bool} {s : State}

/-- The state after the slave edge that a sample shows. -/
def slaveShown (u : UnitIndex) (before : Byte) (index : Option Bool) (s : State) : State :=
  if showsSlave (captureSel u s.params) before s.inputs.din index then slaveEdgeAt u s else s

theorem captureAt_eq (u : UnitIndex) (before : Byte) (index : Option Bool) (s : State) : captureAt u before index s =
    if showsMaster (captureSel u s.params) before s.inputs.din then masterEdgeAt u (slaveShown u before index s)
    else slaveShown u before index s := rfl

theorem slaveShown_frame (u : UnitIndex) (before : Byte) (index : Option Bool) (s : State) :
    Frame [.unit0, .unit1] s (slaveShown u before index s) :=
  .ite (.ite (onUnit_frame u s _) (.refl _ s)) (.refl _ s)

theorem slaveShown_units (hj : s.joined = true) :
    (slaveShown u before index s).captureUnit u = slaveTaken u before index s
      ∧ (slaveShown u before index s).captureUnit (otherUnit u) = s.captureUnit (otherUnit u) := by
  unfold slaveShown slaveTaken
  split
  · next h =>
    have taken : slaveEdgeAt u s = s.onUnit u (pushSlave ⟨s.now, s.encoder⟩) := if_pos ⟨hj, showsSlave_source h⟩
    rw [taken]
    exact captureUnit_onUnit u _ s
  · exact ⟨rfl, rfl⟩

theorem deliverResult_units (u v : UnitIndex) (r : CaptureResult) (s : State) :
    (deliverResult u r s).captureUnit v = s.captureUnit v := by
  have f := (deliverResult_moves u r s).frame
    (bs := [.line, .alarms, .table, .ring, .rope, .swing, .walk, .drive]) (by decide)
  exact captureUnit_of_frame f (by decide) (by decide) v

theorem captureAt_same (u : UnitIndex) (before : Byte) (index : Option Bool) (s : State) :
    SameInstant s (captureAt u before index s) :=
  .of_frame ((captureAt_moves u before index s).frame
    (bs := [.unit0, .unit1, .line, .alarms, .table, .ring, .rope, .swing, .walk, .drive]) (by decide)) (by decide)

/-- One unit at a sample (R31). -/
theorem captureAt_units (hj : s.joined = true) :
    (captureAt u before index s).captureUnit u = edgesTaken u before index s
      ∧ (captureAt u before index s).captureUnit (otherUnit u) = s.captureUnit (otherUnit u) := by
  have f := slaveShown_frame u before index s
  have startup : (slaveShown u before index s).startup = s.startup := f.1 .startup (by decide)
  obtain ⟨own, other⟩ := slaveShown_units (u := u) (before := before) (index := index) hj
  rw [captureAt_eq]
  unfold edgesTaken
  split
  · have joined : (slaveShown u before index s).joined = true := (joined_of_startup startup).trans hj
    unfold masterEdgeAt
    rw [if_pos joined]
    dsimp only
    obtain ⟨own', other'⟩ := captureUnit_onUnit u (recordResult (captureResult
      (captureSel u (slaveShown u before index s).params) ((slaveShown u before index s).captureUnit u)
      (slaveShown u before index s).now (slaveShown u before index s).encoder (slaveShown u before index s).units))
      (slaveShown u before index s)
    rw [deliverResult_units, deliverResult_units, own', other', own, other, params_of_startup startup, State.now,
      f.1 .time (by decide), f.1 .encoder (by decide), State.units, globals_of_startup startup]
    exact ⟨rfl, rfl⟩
  · exact ⟨own, other⟩

/-- Both units at a sample. -/
theorem captureEdges_unit (hj : s.joined = true) (u : UnitIndex) :
    (captureEdges before index s).captureUnit u = edgesTaken u before index s := by
  have same := captureAt_same .unit0 before index s
  have joined : (captureAt .unit0 before index s).joined = true := (joined_of_startup same.startup).trans hj
  have first := captureAt_units (u := .unit0) (before := before) (index := index) hj
  have second := captureAt_units (u := .unit1) (before := before) (index := index) joined
  cases u with
  | unit0 => exact second.2.trans first.1
  | unit1 => exact second.1.trans (edgesTaken_congr same first.2 before index)

/-- A unit whose edges a sample does not show stands. -/
theorem captureAt_quiet (hs : showsSlave (captureSel u s.params) before s.inputs.din index = false)
    (hm : showsMaster (captureSel u s.params) before s.inputs.din = false) : captureAt u before index s = s := by
  rw [captureAt_eq, if_neg (by rw [hm]; decide), slaveShown, if_neg (by rw [hs]; decide)]

theorem captureEdges_quiet (h : ∀ u, showsSlave (captureSel u s.params) before s.inputs.din index = false
    ∧ showsMaster (captureSel u s.params) before s.inputs.din = false) : captureEdges before index s = s := by
  unfold captureEdges
  rw [captureAt_quiet (u := .unit0) (h _).1 (h _).2, captureAt_quiet (h _).1 (h _).2]

theorem captureEdges_frame' (before : Byte) (index : Option Bool) (s : State) :
    Frame [.line, .unit0, .unit1, .drive, .rope, .swing, .walk, .alarms, .table] s (captureEdges before index s) :=
  (captureEdges_moves before index s).tight_frame (by decide)

end

/-! ### The sample but for its captured edges -/

/-- The owned hook and the emergency input at a sample. -/
def sampled (i : Inputs) (s : State) : State := emergencySample (watchOwned { s with inputs := i })

theorem sampleAfter_eq (before : Byte) (index : Option Bool) (i : Inputs) (s : State) :
    sampleAfter before index i s = captureEdges before index (sampled i s) := rfl

theorem emergencySample_idle {s : State} (h : ¬ (s.role = .cab ∧ s.joined = true)) : emergencySample s = s := if_neg h

/-- Away from a joined cab the sample watches the owned hook. -/
theorem sampled_other {i : Inputs} {s : State} (h : ¬ (s.role = .cab ∧ s.joined = true)) :
    sampled i s = watchOwned { s with inputs := i } :=
  emergencySample_idle fun ⟨hr, hj⟩ =>
    have startup := (watchOwned_frame { s with inputs := i }).1 .startup (by decide)
    h ⟨(role_of_startup startup).symm.trans hr, (joined_of_startup startup).symm.trans hj⟩

theorem sampled_frame {i : Inputs} {s : State} (h : ¬ (s.role = .cab ∧ s.joined = true)) :
    Frame [.inputs, .drive] s (sampled i s) := by
  rw [sampled_other h]
  exact ((inputs_frame i s).mono (by decide)).trans ((watchOwned_frame _).mono (by decide))

theorem sampled_same (i : Inputs) (s : State) : SameInstant { s with inputs := i } (sampled i s) := by
  have m := ((Move.inputs i s).moves (gs := sampleTags) (by decide)).trans ((emergencySample_moves _).mono (by decide))
  have f := (emergencySample_moves (watchOwned { s with inputs := i })).frame
    (bs := [.cab, .line, .alarms, .table, .ring, .drive, .walk, .share, .rope]) (by decide)
  exact (SameInstant.of_frame (watchOwned_frame { s with inputs := i }) (by decide)).trans (.of_frame f (by decide))

theorem sampled_units (i : Inputs) (s : State) (u : UnitIndex) : (sampled i s).captureUnit u = s.captureUnit u := by
  have f := (emergencySample_moves (watchOwned { s with inputs := i })).frame
    (bs := [.cab, .line, .alarms, .table, .ring, .drive, .walk, .share, .rope]) (by decide)
  exact (captureUnit_of_frame f (by decide) (by decide) u).trans
    (captureUnit_of_frame (watchOwned_frame { s with inputs := i }) (by decide) (by decide) u)

theorem sampleAfter_inputs (before : Byte) (index : Option Bool) (i : Inputs) (s : State) :
    (sampleAfter before index i s).inputs = i := by
  rw [sampleAfter_eq, (captureEdges_frame' _ _ _).1 .inputs (by decide)]
  exact (sampled_same i s).inputs

/-- A sample that shows no edge. -/
theorem sampleAfter_quiet {before : Byte} {index : Option Bool} {i : Inputs} {s : State}
    (h : ∀ u, showsSlave (captureSel u s.params) before i.din index = false
      ∧ showsMaster (captureSel u s.params) before i.din = false) : sampleAfter before index i s = sampled i s := by
  have same := sampled_same i s
  rw [sampleAfter_eq, captureEdges_quiet]
  rw [params_of_startup same.startup, same.inputs]
  exact h

/-- A joined station's capture unit after a sample. -/
theorem sampleAfter_unit {s : State} (hj : s.joined = true) (before : Byte) (index : Option Bool) (i : Inputs)
    (u : UnitIndex) : (sampleAfter before index i s).captureUnit u = edgesTaken u before index { s with inputs := i } := by
  have same := sampled_same i s
  rw [sampleAfter_eq, captureEdges_unit ((joined_of_startup same.startup).trans hj)]
  exact edgesTaken_congr same (sampled_units i s u) before index

/-! ### The owned hook lost at a sample (R88) -/

theorem watchOwned_drive_lost {s : State} (hj : s.joined = true) (ha : s.role.isAxis = true)
    (hs : s.drive.ownedSeen = true) (hk : s.ownedHook = false) : (watchOwned s).drive =
      { s.drive with f := 0, fieldWord := 0, enable := false, frameWord := 0, frameEnable := false,
                     awaiting := s.drive.ran, ownedSeen := false } := by
  simp only [watchOwned, hj, ha, hs, hk, Bool.not_false, Bool.and_self, Bool.and_false, if_true]
  rfl

end Sys2Proof.Machine

open Sys2Proof Sys2Proof.Machine

/-- Settles O44: the hook is watched before the captured edges, which leave it and the drive chain. -/
theorem ownedHookLossStopsDrive : Obligations.OwnedHookLossStopsDrive := by
  intro din s hj ha ho
  have other : ¬ ((begin s).role = .cab ∧ (begin s).joined = true) := fun hc => by
    have axis : (begin s).role.isAxis = true := ha
    rw [hc.1] at axis
    cases axis
  have watched := sampled_other (i := { s.inputs with din }) other
  have seen : Seen (sampled { s.inputs with din } (begin s)) := by
    rw [watched, Seen, watchOwned_ownedSeen, watchOwned_ownedHook,
      joined_of_startup ((watchOwned_frame _).1 .startup (by decide))]
  have edges := (captureEdges_moves s.inputs.din none (sampled { s.inputs with din } (begin s))).captured seen
  refine ⟨_, rfl, sampleAfter_inputs _ _ _ _, fun hn => ?quiet,
    (sampled_frame other).comp (captureEdges_frame' _ _ _) (by decide) (by decide), fun hk hl => ?lost, fun hk => ?stands⟩
  case quiet =>
    have quiet : sampleDiscrete din (begin s) = sampled { s.inputs with din } (begin s) := sampleAfter_quiet hn
    rw [quiet]
    exact (sampled_frame other).mono (by decide)
  case lost =>
    have hook : (sampled { s.inputs with din } (begin s)).ownedHook = false := edges.2.symm.trans hl
    rw [watched, watchOwned_ownedHook] at hook
    refine edges.1.trans ?_
    have drive := watchOwned_drive_lost (s := { begin s with inputs := { s.inputs with din } })
      hj ha ((ho.seen hj).trans hk) hook
    rw [watched, drive]
    rfl
  case stands =>
    have hook : (sampled { s.inputs with din } (begin s)).ownedHook = s.ownedHook := edges.2.symm.trans hk
    rw [watched, watchOwned_ownedHook] at hook
    refine edges.1.trans ?_
    rw [watched, watchOwned_stands]
    · rfl
    · rw [hook]
      show s.drive.ownedSeen = (s.joined && s.ownedHook)
      rw [hj, Bool.true_and]
      exact ho.seen hj

end

section
/-! PROOFS. The edge commands: one sample with one line changed (R31 to R34). -/

namespace Sys2Proof.Machine

/-! ### One discrete input changed -/

theorem getLsbD_withInput (din : Byte) (k j : Fin 8) (level : Bool) :
    (withInput din k level).getLsbD j = if j = k then level else din.getLsbD j := by
  have same : (1#8 <<< k.val).getLsbD j.val = decide (j = k) := by
    revert j k; decide
  unfold withInput
  cases level
  · rw [if_neg (by decide), BitVec.getLsbD_and, BitVec.getLsbD_not, same]
    by_cases h : j = k <;> simp [h]
  · rw [if_pos rfl, BitVec.getLsbD_or, same]
    by_cases h : j = k <;> simp [h]

/-- A change of one input is an edge of that input, in that direction, and of no other. -/
theorem isEdge_inputChange (din : Byte) (k j : Fin 8) (level rising : Bool) :
    isEdge rising ((withInput din k !level).getLsbD j) ((withInput din k level).getLsbD j) = true
      ↔ j = k ∧ rising = level := by
  rw [getLsbD_withInput, getLsbD_withInput, isEdge]
  by_cases h : j = k
  · cases level <;> cases rising <;> simp [h]
  · simp [h]

theorem showsSlave_inputChange (sel : CaptureSel) (din : Byte) (k : Fin 8) (level : Bool) :
    showsSlave sel (withInput din k !level) (withInput din k level) none = true
      ↔ sel.slaveSource = 1 ∧ sel.slaveInput = k ∧ sel.slaveRising = level := by
  unfold showsSlave
  by_cases h0 : sel.slaveSource = 0
  · simp [h0]
  · by_cases h1 : sel.slaveSource = 1
    · rw [if_neg h0, if_pos h1, isEdge_inputChange]
      exact ⟨fun h => ⟨h1, h⟩, fun h => h.2⟩
    · simp [h0, h1]

theorem showsMaster_inputChange (sel : CaptureSel) (din : Byte) (k : Fin 8) (level : Bool) :
    showsMaster sel (withInput din k !level) (withInput din k level) = true
      ↔ sel.masterInput = k ∧ sel.masterRising = level := isEdge_inputChange din k _ level _

/-- With the discrete inputs standing only the encoder index shows an edge. -/
theorem showsSlave_still (sel : CaptureSel) (din : Byte) (rising : Bool) :
    showsSlave sel din din (some rising) = true ↔ 2 ≤ sel.slaveSource ∧ sel.slaveRising = rising := by
  unfold showsSlave
  by_cases h0 : sel.slaveSource = 0
  · simp [h0]
  · by_cases h1 : sel.slaveSource = 1
    · simp [h1, isEdge]
    · have source : 2 ≤ sel.slaveSource := by omega
      rw [if_neg h0, if_neg h1, beq_iff_eq, Option.some_inj]
      exact ⟨fun h => ⟨source, h.symm⟩, fun h => h.2.symm⟩

theorem showsMaster_still (sel : CaptureSel) (din : Byte) : showsMaster sel din din = false := by
  simp [showsMaster, isEdge]

/-! ### What a sample changes beside the units -/

/-- What the emergency input shows the cab already: no raise, no clear (R184). -/
theorem emergencySample_same {s : State} (h : s.cab.emergency = some (s.inputActive s.params.cab.emergencyInput)) :
    emergencySample s = s := by
  have kept : (s.onCab fun c => { c with emergency := some (s.inputActive s.params.cab.emergencyInput) }) = s := by
    rw [← h]
    rfl
  unfold emergencySample
  dsimp only
  rw [h, kept]
  split
  · cases s.inputActive s.params.cab.emergencyInput <;> rfl
  · rfl

/-- The sample but for its edges, where the emergency input has nothing new. -/
theorem sampled_calm {i : Inputs} {s : State}
    (h : s.role ≠ .cab ∨ s.cab.emergency = some (State.inputActive { s with inputs := i } s.params.cab.emergencyInput)) :
    Frame [.inputs, .drive] s (sampled i s) := by
  rcases h with h | h
  · exact sampled_frame fun hc => h hc.1
  · have watched := watchOwned_frame { s with inputs := i }
    have startup : (watchOwned { s with inputs := i }).startup = s.startup := watched.1 .startup (by decide)
    have calm : sampled i s = watchOwned { s with inputs := i } := emergencySample_same (by
      have active : ∀ t : State, t.inputs = i → t.startup = s.startup →
          t.inputActive t.params.cab.emergencyInput
            = State.inputActive { s with inputs := i } s.params.cab.emergencyInput := fun t hi hs => by
        rw [State.inputActive, State.inputActive, params_of_startup hs, hi]
      rw [active _ (watched.1 .inputs (by decide)) startup, watched.1 .cab (by decide)]
      exact h)
    rw [calm]
    exact ((inputs_frame i s).mono (by decide)).trans (watched.mono (by decide))

/-- The edges leave ring and picture alone. -/
theorem sampleAfter_tight (before : Byte) (index : Option Bool) (i : Inputs) (s : State) :
    Frame [.line, .unit0, .unit1, .inputs, .cab, .drive, .share, .rope, .swing, .walk, .alarms, .table] s
      (sampleAfter before index i s) := by
  have edges := (captureEdges_frame' before index (sampled i s)).mono
    (cs := [.line, .unit0, .unit1, .inputs, .cab, .drive, .share, .rope, .swing, .walk, .alarms, .table]) (by decide)
  by_cases hc : s.role = .cab
  · have watched : Frame [.inputs, .drive] s (watchOwned { s with inputs := i }) :=
      ((inputs_frame i s).mono (by decide)).trans ((watchOwned_frame _).mono (by decide))
    have m := emergencySample_moves (watchOwned { s with inputs := i })
    have axis : (watchOwned { s with inputs := i }).role.isAxis = false := by
      rw [role_of_startup (watched.1 .startup (by decide)), hc]
      rfl
    have f := m.frame (bs := [.cab, .line, .alarms, .table, .ring, .drive, .walk, .share, .rope]) (by decide)
    have ring : (sampled i s).ring = s.ring := (m.ring_noAxis axis).trans (watched.1 .ring (by decide))
    refine Frame.trans ?_ edges
    refine ⟨fun b hb => ?_, f.2.trans watched.2⟩
    by_cases hr : b = .ring
    · rw [hr]
      exact ring
    · exact (watched.comp f (by decide)
        (ds := [.ring, .line, .unit0, .unit1, .inputs, .cab, .drive, .share, .rope, .swing, .walk, .alarms, .table])
        (by decide)).1 b (by simpa [hr] using hb)
  · exact ((sampled_calm (.inl hc)).mono (by decide)).trans edges

/-- Where no master edge is shown the edges change only the units. -/
theorem captureEdges_slave {before : Byte} {index : Option Bool} {s : State}
    (h : ∀ u, showsMaster (captureSel u s.params) before s.inputs.din = false) :
    Frame [.unit0, .unit1] s (captureEdges before index s) := by
  have one : ∀ (u : UnitIndex) (t : State), SameInstant s t → Frame [.unit0, .unit1] t (captureAt u before index t) := by
    intro u t same
    rw [captureAt_eq, if_neg]
    · exact slaveShown_frame u before index t
    · rw [params_of_startup same.startup, same.inputs, h]
      decide
  exact (one .unit0 s ⟨rfl, rfl, rfl, rfl⟩).trans (one .unit1 _ (captureAt_same .unit0 before index s))

/-- Away from the axis roles no result is delivered (R35). -/
theorem captureEdges_noAxis {before : Byte} {index : Option Bool} {s : State} (h : s.role = .none ∨ s.role = .cab) :
    Frame [.unit0, .unit1] s (captureEdges before index s) := by
  have one : ∀ (u : UnitIndex) (t : State), (t.role = .none ∨ t.role = .cab) →
      Frame [.unit0, .unit1] t (captureAt u before index t) := by
    intro u t role
    have shown := slaveShown_frame u before index t
    rw [captureAt_eq]
    refine .ite (shown.trans ?_) shown
    unfold masterEdgeAt
    refine .ite ?_ (.refl _ _)
    dsimp only
    have none : ∀ (r : CaptureResult) (w : State), w.startup = t.startup → deliverResult u r w = w := by
      intro r w hw
      have hrole : w.role = t.role := role_of_startup hw
      unfold deliverResult
      rw [hrole]
      rcases role with role | role <;> rw [role] <;> cases u <;> rfl
    rw [none _ _ (((onUnit_frame u _ _).1 .startup (by decide)).trans (shown.1 .startup (by decide)))]
    exact onUnit_frame u _ _
  have same := captureAt_same .unit0 before index s
  exact (one .unit0 s h).trans (one .unit1 _ (by rwa [role_of_startup same.startup]))

/-! ### The edge commands -/

section
variable {u : UnitIndex} {s : State}

theorem inputChange_input (k j : Fin 8) (level : Bool) (s : State) :
    (inputChange k level s).inputs.din.getLsbD j = if j = k then level else s.inputs.din.getLsbD j := by
  rw [inputChange, sampleAfter_inputs]
  exact getLsbD_withInput _ _ _ _

theorem inputChange_others (k : Fin 8) (level : Bool) (s : State) :
    ∀ j < 8, j ≠ k.val → (inputChange k level s).inputs.din.getLsbD j = s.inputs.din.getLsbD j := by
  intro j hj hne
  have h := inputChange_input k ⟨j, hj⟩ level s
  rwa [if_neg fun h => hne (congrArg Fin.val h)] at h

/-- A unit after the change of one input that it selects as its slave edge, its master edge, or both (R31). -/
theorem inputChange_unit (hj : s.joined = true) (v : UnitIndex) (k : Fin 8) (level : Bool) :
    (inputChange k level s).captureUnit v =
      edgesTaken v (withInput s.inputs.din k !level) none
        { s with inputs := { s.inputs with din := withInput s.inputs.din k level } } :=
  sampleAfter_unit hj _ _ _ v

theorem edgesTaken_none {before : Byte} {index : Option Bool} {v : UnitIndex}
    (hs : ¬ showsSlave (captureSel v s.params) before s.inputs.din index = true)
    (hm : ¬ showsMaster (captureSel v s.params) before s.inputs.din = true) :
    edgesTaken v before index s = s.captureUnit v := by
  rw [edgesTaken, if_neg hm, slaveTaken, if_neg hs]

theorem edgesTaken_slave {before : Byte} {index : Option Bool} {v : UnitIndex}
    (hs : showsSlave (captureSel v s.params) before s.inputs.din index = true) :
    (edgesTaken v before index s).slaveQueue = (⟨s.now, s.encoder⟩ :: (s.captureUnit v).slaveQueue).take 8
    ∧ (edgesTaken v before index s).slaveCount = ((s.captureUnit v).slaveCount + 1) % 65536
    ∧ (¬ showsMaster (captureSel v s.params) before s.inputs.din = true →
        edgesTaken v before index s = withSlave ⟨s.now, s.encoder⟩ (s.captureUnit v)) := by
  unfold edgesTaken
  rw [slaveTaken, if_pos hs]
  refine ⟨?_, ?_, fun hm => if_neg hm⟩ <;> split <;> rfl

theorem edgesTaken_master {before : Byte} {index : Option Bool} {v : UnitIndex} {c : CaptureUnit}
    (hm : showsMaster (captureSel v s.params) before s.inputs.din = true) (hc : slaveTaken v before index s = c) :
    edgesTaken v before index s =
      recordResult (captureResult (captureSel v s.params) c s.now s.encoder s.units) c := by
  rw [edgesTaken, if_pos hm, hc]

theorem inputChange_unit_stands (hj : s.joined = true) {v : UnitIndex} {k : Fin 8} {level : Bool}
    (h : ¬ selects (captureSel v s.params) k level) : (inputChange k level s).captureUnit v = s.captureUnit v := by
  rw [inputChange_unit hj, edgesTaken_none]
  · cases v <;> rfl
  · exact fun hs => h (.inl ((showsSlave_inputChange (captureSel v s.params) s.inputs.din k level).1 hs))
  · exact fun hm => h (.inr ((showsMaster_inputChange (captureSel v s.params) s.inputs.din k level).1 hm))

/-- The emergency input has nothing new for the cab at a sample that leaves the inputs `i`. -/
theorem sampleAfter_calm {before : Byte} {index : Option Bool} {i : Inputs}
    (h : s.role ≠ .cab ∨ s.cab.emergency =
      some ((sampleAfter before index i s).inputActive s.params.cab.emergencyInput)) :
    Frame [.inputs, .drive] s (sampled i s) :=
  sampled_calm (h.imp_right fun h => by rw [h, State.inputActive, sampleAfter_inputs]; rfl)

theorem sampleAfter_slave {before : Byte} {index : Option Bool} {i : Inputs}
    (hc : s.role ≠ .cab ∨ s.cab.emergency =
      some ((sampleAfter before index i s).inputActive s.params.cab.emergencyInput))
    (hm : ∀ v, ¬ showsMaster (captureSel v s.params) before i.din = true) :
    Frame [.unit0, .unit1, .inputs, .drive] s (sampleAfter before index i s) := by
  have same := sampled_same i s
  refine (sampleAfter_calm hc).comp (captureEdges_slave fun v => ?_) (by decide) (by decide)
  rw [params_of_startup same.startup, same.inputs]
  exact Bool.eq_false_iff.2 (hm v)

/-- Away from the axis roles a changed input changes only the units. -/
theorem inputChange_noAxis {k : Fin 8} {level : Bool} (hr : s.role = .none ∨ s.role = .cab)
    (hc : s.role ≠ .cab ∨ s.cab.emergency = some ((inputChange k level s).inputActive s.params.cab.emergencyInput)) :
    Frame [.unit0, .unit1, .inputs, .drive] s (inputChange k level s) := by
  refine (sampleAfter_calm hc).comp (captureEdges_noAxis ?_) (by decide) (by decide)
  rw [role_of_startup (sampled_same _ _).startup]
  exact hr

theorem otherUnit_or (u v : UnitIndex) : v = u ∨ v = otherUnit u := by
  cases u <;> cases v <;> decide

/-- The slave edge of a unit that captures (R32). -/
theorem slaveEdge_input (hj : s.joined = true) (h1 : (captureSel u s.params).slaveSource = 1) :
    slaveEdge u s = inputChange (captureSel u s.params).slaveInput (captureSel u s.params).slaveRising s := by
  unfold slaveEdge; dsimp only
  rw [if_neg (by rw [hj, h1]; decide), if_pos h1]

theorem slaveEdge_index (hj : s.joined = true) (h2 : 2 ≤ (captureSel u s.params).slaveSource) :
    slaveEdge u s = sampleAfter s.inputs.din (some (captureSel u s.params).slaveRising) s.inputs s := by
  unfold slaveEdge; dsimp only
  have h0 : ((captureSel u s.params).slaveSource == 0) = false := by simp; omega
  rw [if_neg (by rw [hj, h0]; decide), if_neg (by omega)]

theorem masterEdge_joined (hj : s.joined = true) :
    masterEdge u s = inputChange (captureSel u s.params).masterInput (captureSel u s.params).masterRising s :=
  if_pos hj

end

/-- The difference of two stamps with its bounds written out (R34). -/
theorem matchSlave_some {sel : CaptureSel} {c : CaptureUnit} {t : Stamp} {n : Nat} {e : SlaveEdge}
    (h0 : sel.slaveSource ≠ 0) (he : c.slaveQueue[sel.lead]? = some e) : matchSlave sel c t n =
      some ⟨e.time, e.snapshot, max (-2147483647) (min 2147483647
        ((t.cycle - e.time.cycle).toInt * n + (t.offset - e.time.offset : Int)))⟩ := by
  have clamp : ∀ x : Int, clampInt (-2147483647) 2147483647 x = max (-2147483647) (min 2147483647 x) := by
    intro x
    unfold clampInt
    split
    · omega
    · split <;> omega
  rw [matchSlave, if_neg h0, he, ← clamp]
  rfl

theorem matchSlave_none {sel : CaptureSel} {c : CaptureUnit} {t : Stamp} {n : Nat}
    (h : sel.slaveSource = 0 ∨ c.slaveQueue.length ≤ sel.lead) : matchSlave sel c t n = none := by
  unfold matchSlave
  split
  · rfl
  · next h0 => rw [List.getElem?_eq_none (h.resolve_left h0)]; rfl

end Sys2Proof.Machine

open Sys2Proof Sys2Proof.Machine

/-- Settles O41: an edge command is a sample with one line changed, and each unit is what the edges it selects
make of it. -/
theorem edgesCaptured : Obligations.EdgesCaptured := by
  intro u s sel c o edge otherStands otherSelects noEmergency atMost
  have here : (begin s).captureUnit u = c := by cases u <;> rfl
  have there : (begin s).captureUnit (otherUnit u) = s.captureUnit (otherUnit u) := by cases u <;> rfl
  refine ⟨fun hj => ?outside, fun hj h0 => ?off, fun hj h0 => ?slave, fun hj => ?master⟩
  case outside =>
    have slave : slaveEdge u (begin s) = begin s := if_pos (by rw [show (begin s).joined = false from hj]; rfl)
    have master : masterEdge u (begin s) = begin s := if_neg (by rw [show (begin s).joined = false from hj]; decide)
    exact ⟨congrArg Host.Outcome.next slave, congrArg Host.Outcome.next master⟩
  case off =>
    have slave : slaveEdge u (begin s) = begin s :=
      if_pos (by rw [show (captureSel u (begin s).params).slaveSource = 0 from h0]; simp)
    exact congrArg Host.Outcome.next slave
  case slave =>
    refine ⟨slaveEdge u (begin s), rfl, ?_⟩
    rcases (by omega : sel.slaveSource = 1 ∨ 2 ≤ sel.slaveSource) with h1 | h2
    · rw [slaveEdge_input (s := begin s) hj h1]
      have unit := inputChange_unit (s := begin s) hj u sel.slaveInput sel.slaveRising
      have master : ∀ v, showsMaster (captureSel v s.params) (withInput s.inputs.din sel.slaveInput !sel.slaveRising)
          (withInput s.inputs.din sel.slaveInput sel.slaveRising) = true
            ↔ (captureSel v s.params).masterInput = sel.slaveInput ∧ (captureSel v s.params).masterRising = sel.slaveRising :=
        fun v => showsMaster_inputChange _ _ _ _
      have both : showsMaster sel (withInput s.inputs.din sel.slaveInput !sel.slaveRising)
          (withInput s.inputs.din sel.slaveInput sel.slaveRising) = true → bothEdges sel := fun h =>
        have := (master u).1 h
        ⟨h1, this.1.symm, this.2.symm⟩
      obtain ⟨queue, count, alone⟩ := edgesTaken_slave (v := u) (index := none)
        (s := { begin s with inputs := { s.inputs with din := withInput s.inputs.din sel.slaveInput sel.slaveRising } })
        ((showsSlave_inputChange sel s.inputs.din sel.slaveInput sel.slaveRising).2 ⟨h1, rfl, rfl⟩)
      have unitHere : State.captureUnit u { begin s with
          inputs := { s.inputs with din := withInput s.inputs.din sel.slaveInput sel.slaveRising } } = c := by
        cases u <;> rfl
      refine ⟨(congrArg _ unit).trans (queue.trans (by rw [unitHere]; rfl)),
        (congrArg _ unit).trans (count.trans (by rw [unitHere])),
        fun hb => unit.trans ((alone fun h => hb (both h)).trans (by rw [unitHere]; rfl)), fun ho => ?_,
        fun hb ho hc => ?_, fun h2 => by omega, fun _ => ⟨?_, inputChange_others _ _ _⟩, sampleAfter_tight _ _ _ _⟩
      · exact (inputChange_unit_stands (s := begin s) hj fun h => ho (.inl ⟨h1, h⟩)).trans there
      · refine sampleAfter_slave hc fun v hv => ?_
        rcases otherUnit_or u v with rfl | rfl
        · exact hb (both hv)
        · exact ho (.inl ⟨h1, .inr ((master _).1 hv)⟩)
      · exact (inputChange_input _ _ _ _).trans (if_pos rfl)
    · rw [slaveEdge_index (s := begin s) hj h2]
      have unit := fun v => sampleAfter_unit (s := begin s) hj s.inputs.din (some sel.slaveRising) s.inputs v
      have master : ∀ v, ¬ showsMaster (captureSel v s.params) s.inputs.din s.inputs.din = true := fun v => by
        rw [showsMaster_still]
        decide
      obtain ⟨queue, count, alone⟩ := edgesTaken_slave (v := u) (s := { begin s with inputs := s.inputs })
        ((showsSlave_still sel s.inputs.din sel.slaveRising).2 ⟨h2, rfl⟩)
      refine ⟨(congrArg _ (unit u)).trans (queue.trans (by rw [← here]; rfl)),
        (congrArg _ (unit u)).trans (count.trans (by rw [← here]; rfl)),
        fun _ => (unit u).trans ((alone (master u)).trans (by rw [← here]; rfl)), fun ho => ?_,
        fun _ _ hc => sampleAfter_slave hc master, fun _ => sampleAfter_inputs _ _ _ _, fun h1 => by omega,
        sampleAfter_tight _ _ _ _⟩
      refine (unit _).trans ((edgesTaken_none (fun hs => ?_) (master _)).trans there)
      exact ho (.inr ⟨h2, (showsSlave_still o s.inputs.din sel.slaveRising).1 hs⟩)
  case master =>
    refine ⟨masterEdge u (begin s), rfl, ?_⟩
    rw [masterEdge_joined (s := begin s) hj]
    have unit := inputChange_unit (s := begin s) hj u sel.masterInput sel.masterRising
    have slave := showsSlave_inputChange sel s.inputs.din sel.masterInput sel.masterRising
    have shown : showsMaster sel (withInput s.inputs.din sel.masterInput !sel.masterRising)
        (withInput s.inputs.din sel.masterInput sel.masterRising) = true :=
      (showsMaster_inputChange sel s.inputs.din sel.masterInput sel.masterRising).2 ⟨rfl, rfl⟩
    refine ⟨fun ho => (inputChange_unit_stands (s := begin s) hj ho).trans there,
      (inputChange_input _ _ _ _).trans (if_pos rfl), inputChange_others _ _ _, fun c' hb hn => ?_,
      fun hr hc => inputChange_noAxis (s := begin s) hr hc, sampleAfter_tight _ _ _ _⟩
    · have before : slaveTaken u (withInput s.inputs.din sel.masterInput !sel.masterRising) none { begin s with
          inputs := { s.inputs with din := withInput s.inputs.din sel.masterInput sel.masterRising } } = c' := by
        unfold slaveTaken
        by_cases hs : bothEdges sel
        · rw [hb hs]
          refine (if_pos (slave.2 hs)).trans ?_
          rw [← here]
          cases u <;> rfl
        · rw [hn hs, ← here]
          refine (if_neg fun h => hs (slave.1 h)).trans ?_
          cases u <;> rfl
      have count : c'.masterCount = c.masterCount ∧ c'.recordedSlave = c.recordedSlave := by
        by_cases hs : bothEdges sel
        · rw [hb hs]
          exact ⟨rfl, rfl⟩
        · rw [hn hs]
          exact ⟨rfl, rfl⟩
      refine ⟨captureResult sel c' s.now s.encoder s.units, ?_, rfl, rfl, ?_, ?_, fun h => matchSlave_none h,
        fun e h0 he => matchSlave_some h0 he⟩
      · refine unit.trans ((edgesTaken_master shown before).trans ?_)
        unfold recordResult captureResult
        rw [← count.1]
        rfl
      · rw [← count.1]
        rfl
      · rw [← count.2]
        rfl

end

section
/-! PROOFS. The cab's emergency input (R173, R184). -/

namespace Sys2Proof.Machine

/-! ### A TRIP sent that evicts nothing (R16, R173) -/

section
variable {s : State}

/-- Neither a reserved entry in the queue nor a full one: a TRIP placed evicts nothing. -/
def TripFits (s : State) : Prop :=
  s.line.state ≠ .active ∨ (∀ e ∈ s.line.queue, e.reserved = false) ∨ (generalEntries s.line.queue).length < 8

theorem placeTrip_fits (h : TripFits s) (c : AlarmCode) (d : Option Nat) (t : Stamp) :
    Frame [.line] s (placeTrip c d t s) := by
  let e : Entry := { kind := .trip, target := Config.broadcast, words := tripWords c d t }
  have kept : ∀ x, (enqueue e s).2 ≠ .evicted x := by
    intro x hx
    by_cases ha : s.line.state = .active
    · by_cases hr : ∀ e ∈ s.line.queue, e.reserved = false
      · rw [enqueue_reserved ha rfl hr] at hx
        cases hx
      · have full := (h.resolve_left (not_not_intro ha)).resolve_left hr
        have reserved : ∃ y ∈ s.line.queue, y.reserved = true := by simpa using hr
        rw [(enqueue_space (e := e) ha (.inr reserved) full).1] at hx
        cases hx
    · rw [enqueue_refused ha] at hx
      cases hx
  have f := enqueue_frame e s
  have form : placeTrip c d t s = (enqueue e s).1 := by
    unfold placeTrip
    cases he : enqueue e s with
    | mk u a =>
      cases a with
      | evicted x => exact absurd (congrArg Prod.snd he) (kept x)
      | admitted | refused => rfl
  rw [form]
  exact f

/-- A TRIP takes the free reserved entry (R16, step 2). -/
theorem placeTrip_reserved (ha : s.line.state = .active) (hr : ∀ e ∈ s.line.queue, e.reserved = false)
    (c : AlarmCode) (d : Option Nat) (t : Stamp) : ∃ e ∈ (placeTrip c d t s).line.queue,
      e.kind = .trip ∧ e.reserved = true ∧ e.words = tripWords c d t := by
  unfold placeTrip
  rw [enqueue_reserved ha rfl hr]
  exact ⟨_, mem_standIn.2 (.inl rfl), rfl, rfl, rfl⟩

/-- An ALARM placed takes no reserved entry and one general entry at most. -/
theorem enqueue_alarm {e : Entry} (hk : e.kind = .alarm) (hr : e.reserved = false) :
    ((∀ x ∈ s.line.queue, x.reserved = false) → ∀ x ∈ (enqueue e s).1.line.queue, x.reserved = false)
      ∧ ((generalEntries s.line.queue).length < 7 → (generalEntries (enqueue e s).1.line.queue).length < 8) := by
  have ranked : e.ranked.reserved = false := hr
  have one : ∀ q, (generalEntries (standIn e.ranked q)).length = (generalEntries q).length + 1 := fun q => by
    unfold generalEntries
    rw [length_filter_standIn, if_pos (by simp [ranked])]
    omega
  by_cases ha : s.line.state = .active
  · have plain : replaceElders e.kind s = s := by
      unfold replaceElders
      rw [hk]
      rfl
    rw [enqueue_general ha (.inl (by rw [hk]; decide)), plain]
    rcases admitGeneral_cases e.ranked s with ⟨-, h⟩ | ⟨full, k, x, -, h⟩ | ⟨-, h⟩ <;> rw [h]
    · refine ⟨fun hq x hx => ?_, fun hl => ?_⟩
      · rcases mem_standIn.1 hx with rfl | hx
        · exact ranked
        · exact hq x hx
      · have := one s.line.queue
        exact lt_of_eq_of_lt this (by omega)
    · refine ⟨fun hq x hx => ?_, fun hl => absurd (lt_trans hl (by decide)) full⟩
      rcases mem_standIn.1 hx with rfl | hx
      · exact ranked
      · exact hq x ((List.eraseIdx_sublist _ _).subset hx)
    · exact ⟨id, fun hl => lt_trans hl (by decide)⟩
  · rw [enqueue_refused ha]
    exact ⟨id, fun hl => lt_trans hl (by decide)⟩

theorem reportAlarm_line (r : AlarmRecord) (a b : Bool) (s : State) : (reportAlarm r a b s).line =
    (enqueue { kind := .alarm, target := Config.broadcast, words := alarmWords r a b } s).1.line := by
  unfold reportAlarm; dsimp only
  split <;> rfl

theorem enqueue_line_state (e : Entry) (s : State) : (enqueue e s).1.line.state = s.line.state := by
  obtain ⟨q, c, h⟩ := queueOnly_enqueue e s
  rw [h]
  rfl

end

/-! ### The emergency input at the cab (R184) -/

section
variable {s : State}

/-- The reading kept for the next sample. -/
def emergencyKept (s : State) : State :=
  s.onCab fun c => { c with emergency := some (s.inputActive s.params.cab.emergencyInput) }

theorem emergencySample_cab (hr : s.role = .cab) (hj : s.joined = true) :
    (s.inputActive s.params.cab.emergencyInput = true → s.cab.emergency ≠ some true →
      emergencySample s = raise .operatorStop none (emergencyKept s))
    ∧ (s.inputActive s.params.cab.emergencyInput = false → s.cab.emergency = some true →
      emergencySample s = clearAlarm .operatorStop none (emergencyKept s)) := by
  have form : emergencySample s =
      (if s.inputActive s.params.cab.emergencyInput = true ∧ s.cab.emergency ≠ some true then
        raise .operatorStop none (emergencyKept s)
      else if (!s.inputActive s.params.cab.emergencyInput) = true ∧ s.cab.emergency = some true then
        clearAlarm .operatorStop none (emergencyKept s)
      else emergencyKept s) := if_pos ⟨hr, hj⟩
  rw [form]
  refine ⟨fun ha hp => if_pos ⟨ha, hp⟩, fun ha hp => ?_⟩
  rw [if_neg (fun hc => absurd (ha.symm.trans hc.1) (by decide)), if_pos ⟨by rw [ha]; rfl, hp⟩]

theorem emergencySample_kept (hr : s.role = .cab) (hj : s.joined = true) :
    (emergencySample s).cab.emergency = some (s.inputActive s.params.cab.emergencyInput) := by
  have raised := (raise_frame .operatorStop none (emergencyKept s)).1 .cab (by decide)
  have cleared := (clearAlarm_frame .operatorStop none (emergencyKept s)).1 .cab (by decide)
  unfold emergencySample
  rw [if_pos ⟨hr, hj⟩]
  dsimp only
  split
  · exact congrArg Cab.emergency raised
  · split
    · exact congrArg Cab.emergency cleared
    · rfl

/-- The ALARM bulletin of a new record. -/
def alarmEntry (r : AlarmRecord) : Entry :=
  { kind := .alarm, target := Config.broadcast, words := alarmWords r false false }

/-- The first raise of OPERATOR STOP at the cab (R166, R173). -/
theorem raise_operatorStop (hr : s.role = .cab) (hj : s.joined = true) (room : s.alarms.list.length < 24)
    (habs : ∀ r ∈ s.alarms.list, r.code ≠ .operatorStop) :
    (raise .operatorStop none s).alarms.mode = .tripped
    ∧ freshRecord .operatorStop none s.now ∈ (raise .operatorStop none s).alarms.list
    ∧ (s.line.state ≠ .active ∨ (∀ e ∈ s.line.queue, e.reserved = false) ∨ (generalEntries s.line.queue).length < 7 →
        (raise .operatorStop none s).alarms.list = alarmInsert (freshRecord .operatorStop none s.now) s.alarms.list)
    ∧ (s.line.state = .active → (∀ e ∈ s.line.queue, e.reserved = false) →
        ∃ e ∈ (raise .operatorStop none s).line.queue, e.kind = .trip ∧ e.reserved = true
          ∧ e.words = tripWords .operatorStop none s.now) := by
  let r := freshRecord .operatorStop none s.now
  let v := reportAlarm r false false (setAlarmList (alarmInsert r s.alarms.list) s)
  have record : raiseRecord .operatorStop none s = (v, .fresh) := by
    rw [raiseRecord_absent hj (find?_absent fun x hx hk => habs x hx (congrArg Prod.fst hk)), enterRecord_room room]
  have form : raise .operatorStop none s = placeTrip .operatorStop none s.now (enterTripped v) := by
    unfold raise; dsimp only
    rw [record]
    dsimp only
    rw [if_pos ⟨by decide, by decide⟩, if_neg (by decide)]
  have other : ∀ g ∈ tripTags, g.touches .operatorStop = false := by decide
  have severity : AlarmCode.operatorStop.severity ≠ .warn := by decide
  have sole := sole_raiseRecord hj room habs none
  have beside := raise_beside .operatorStop none s
  have role : v.role = .cab := (role_of_startup ((reportAlarm_frame _ _ _ _).1 .startup (by decide))).trans hr
  have rest : Frame [.alarms, .drive, .table] v (enterTripped v) := by
    rw [enterTripped_other (by rw [role]; decide)]
    exact (tripping_frame v).comp (openEpisode_frame _ _) (by decide) (by decide)
  have list : (enterTripped v).alarms.list = alarmInsert r s.alarms.list := by
    rw [enterTripped_other (by rw [role]; decide), (openEpisode_frame _ _).1 .alarms (by decide), tripping,
      (driveTripped_frame _).1 .alarms (by decide)]
    exact report_list _ _ _ _ _
  have line : (enterTripped v).line = (enqueue (alarmEntry r) (setAlarmList (alarmInsert r s.alarms.list) s)).1.line :=
    (rest.1 .line (by decide)).trans (reportAlarm_line r false false _)
  have state : (enterTripped v).line.state = s.line.state := by
    rw [line, enqueue_line_state]
    rfl
  obtain ⟨free, space⟩ := enqueue_alarm (s := setAlarmList (alarmInsert r s.alarms.list) s) (e := alarmEntry r) rfl rfl
  rw [← line] at free space
  refine ⟨?_, (beside.sole (r := r) other ⟨rfl, severity⟩ sole).1, fun hq => ?_, fun ha hq => ?_⟩
  · rw [form]
    have m := placeTrip_moves .operatorStop none s.now (enterTripped v)
    exact m.tripped (enterTripped_mode v)
  · have fits : TripFits (enterTripped v) := by
      rcases hq with ha | hq | hq
      · exact .inl (by rw [state]; exact ha)
      · exact .inr (.inl (free hq))
      · exact .inr (.inr (space hq))
    rw [form, (placeTrip_fits fits _ _ _).1 .alarms (by decide), list]
  · rw [form]
    exact placeTrip_reserved (by rw [state]; exact ha) (free hq) _ _ _

/-- A sample at a cab changes, beyond what its emergency input does, the capture units alone. -/
theorem sampleAfter_cab (hr : s.role = .cab) (before : Byte) (index : Option Bool) (i : Inputs) :
    Frame [.unit0, .unit1] (sampled i s) (sampleAfter before index i s) :=
  captureEdges_noAxis (.inr ((role_of_startup (sampled_same i s).startup).trans hr))

end

end Sys2Proof.Machine

open Sys2Proof Sys2Proof.Machine

/-- Settles O45: away from a joined cab the sample is plain; at one the emergency input raises and clears before the
captured edges, which change only the units there. -/
theorem emergencyInputTrips : Obligations.EmergencyInputTrips := by
  refine ⟨fun din s => ⟨_, rfl, sampleAfter_inputs _ _ _ _, fun hn => ?plain⟩, fun din s hj hr => ?cab⟩
  case plain =>
    have other : ¬ ((begin s).role = .cab ∧ (begin s).joined = true) := fun ⟨hr, hj⟩ => by
      rcases hn with hn | hn
      · exact absurd (hn.symm.trans hj) (by decide)
      · exact hn hr
    have watched := sampled_frame (i := { s.inputs with din }) other
    have edges := captureEdges_frame' s.inputs.din none (sampled { s.inputs with din } (begin s))
    have mode := (captureEdges_moves s.inputs.din none (sampled { s.inputs with din } (begin s))).mode (by decide)
    refine ⟨(edges.1 .cab (by decide)).trans (watched.1 .cab (by decide)),
      mode.trans (congrArg Alarms.mode (watched.1 .alarms (by decide))), fun hq => ?_⟩
    have quiet : sampleDiscrete din (begin s) = sampled { s.inputs with din } (begin s) := sampleAfter_quiet hq
    rw [quiet]
    exact watched.mono (by decide)
  case cab =>
    let w := watchOwned { begin s with inputs := { s.inputs with din } }
    have watched : Frame [.inputs, .drive] (begin s) w :=
      ((inputs_frame { s.inputs with din } (begin s)).mono (by decide)).trans ((watchOwned_frame _).mono (by decide))
    have units := sampleAfter_cab (s := begin s) hr s.inputs.din none { s.inputs with din }
    have startup : w.startup = s.startup := watched.1 .startup (by decide)
    have role : w.role = .cab := (role_of_startup startup).trans hr
    have joined : w.joined = true := (joined_of_startup startup).trans hj
    have cab : w.cab = s.cab := watched.1 .cab (by decide)
    have alarms : w.alarms = s.alarms := watched.1 .alarms (by decide)
    have line : w.line = (begin s).line := watched.1 .line (by decide)
    have now : w.now = s.now := by
      rw [State.now, watched.1 .time (by decide)]
      rfl
    have queue : ∀ p : Entry → Prop, (∀ e, p e → p { e with rank := 0 }) → (∀ e ∈ s.line.queue, p e) →
        ∀ e ∈ w.line.queue, p e := fun p hp h e he => by
      rw [line] at he
      obtain ⟨x, hx, rfl⟩ := List.mem_map.1 he
      exact hp x (h x hx)
    have general : (generalEntries w.line.queue).length = (generalEntries s.line.queue).length := by
      rw [line]
      unfold generalEntries begin
      dsimp only [State.onLine]
      rw [List.filter_map, List.length_map]
      rfl
    have active : (sampleDiscrete din (begin s)).inputActive s.params.cab.emergencyInput
        = w.inputActive w.params.cab.emergencyInput := by
      have inputs : (sampleDiscrete din (begin s)).inputs = w.inputs :=
        (sampleAfter_inputs _ _ _ _).trans ((watchOwned_frame _).1 .inputs (by decide) : w.inputs = _).symm
      rw [State.inputActive, State.inputActive, inputs, params_of_startup startup]
    obtain ⟨fresh, gone⟩ := emergencySample_cab role joined
    refine ⟨_, rfl, sampleAfter_inputs _ _ _ _, ?kept, fun ha hp room habs => ?raised, fun ha hp ho => ?cleared,
      fun he => ?same⟩
    case kept =>
      rw [active]
      exact (congrArg Cab.emergency (units.1 .cab (by decide))).trans (emergencySample_kept role joined)
    case raised =>
      have form := fresh (active.symm.trans ha) (by rw [cab]; exact hp)
      obtain ⟨mode, record, list, trip⟩ := raise_operatorStop (s := emergencyKept w) role joined
        (by rw [show (emergencyKept w).alarms = s.alarms from alarms]; exact room)
        (by rw [show (emergencyKept w).alarms = s.alarms from alarms]; exact habs)
      rw [← form, show (emergencyKept w).now = s.now from now] at record list trip
      rw [← form] at mode
      have listEq := congrArg Alarms.list (units.1 .alarms (by decide))
      refine ⟨(congrArg Alarms.mode (units.1 .alarms (by decide))).trans mode,
        ⟨_, listEq ▸ record, rfl, rfl, rfl, rfl⟩, fun hq => listEq.trans ?_, fun hl hq => ?_⟩
      · rw [← show (emergencyKept w).alarms = s.alarms from alarms]
        refine list ?_
        rcases hq with hl | hq | hq
        · exact .inl (by rw [show (emergencyKept w).line = (begin s).line from line]; exact hl)
        · exact .inr (.inl (queue (fun e => e.reserved = false) (fun _ => id) hq))
        · exact .inr (.inr (lt_of_eq_of_lt general hq))
      · obtain ⟨e, he, hk⟩ := trip (by rw [show (emergencyKept w).line = (begin s).line from line]; exact hl)
          (queue (fun e => e.reserved = false) (fun _ => id) hq)
        exact ⟨e, (congrArg (fun l : LineUnit => l.queue) (units.1 .line (by decide))) ▸ he, hk⟩
    case cleared =>
      have form := gone (active.symm.trans ha) (by rw [cab]; exact hp)
      have same : (emergencyKept w).alarms = s.alarms := alarms
      have alarmsEq := units.1 .alarms (by decide)
      refine ⟨(congrArg Alarms.mode alarmsEq).trans ?_, fun r hm hc hd => ?_⟩
      · refine (congrArg (fun u : State => u.alarms.mode) form).trans ?_
        rw [clearAlarm_mode, same]
      · have hm' : r ∈ (clearAlarm .operatorStop none (emergencyKept w)).alarms.list := by
          rw [← form]
          exact (congrArg Alarms.list alarmsEq) ▸ hm
        refine clearAlarm_state (s := emergencyKept w) joined ?_ hm' hc hd
        rw [same]
        exact ho.listKeys
    case same =>
      have calm : Frame [.inputs, .drive] (begin s) (sampled { s.inputs with din } (begin s)) :=
        sampleAfter_calm (s := begin s) (.inr he)
      have all := calm.comp units (ds := [.inputs, .drive, .unit0, .unit1]) (by decide) (by decide)
      exact ⟨all.1 .alarms (by decide), all.1 .cab (by decide), all⟩

end

section
/-! PROOFS. The events that a chain of moves notes, and the stages of a cycle start (R23, TABLE 2-6a). -/

namespace Sys2Proof.Machine

/-! ### The events noted -/

section
variable {s t : State}

theorem enqueue_events {e : Entry} {a : Admission} (h : enqueue e s = (t, a)) : t.events = s.events := by
  obtain ⟨q, c, rfl⟩ := queueOnly_of_enqueue h
  rfl

theorem reportAlarm_events (r : AlarmRecord) (a b : Bool) (s : State) : (reportAlarm r a b s).events = s.events := by
  have placed : (place { kind := .alarm, target := Config.broadcast, words := alarmWords r a b } s).events = s.events :=
    enqueue_events (a := (enqueue _ s).2) rfl
  unfold reportAlarm; dsimp only
  split <;> exact placed

theorem report_events (r : AlarmRecord) (a b : Bool) (l : List AlarmRecord) (s : State) :
    (reportAlarm r a b (setAlarmList l s)).events = s.events := reportAlarm_events r a b _

theorem enterRecord_events (r : AlarmRecord) (s : State) : (enterRecord r s).1.events = s.events := by
  unfold enterRecord; dsimp only
  split
  · exact report_events _ _ _ _ s
  · split
    · rfl
    · exact (report_events _ _ _ _ _).trans (report_events _ _ _ _ s)

theorem raiseQuiet_events (c : AlarmCode) (d : Option Nat) (s : State) : (raiseQuiet c d s).events = s.events := by
  unfold raiseQuiet raiseRecord; dsimp only
  split
  · rfl
  · split
    · exact enterRecord_events _ s
    · split <;> exact report_events _ _ _ _ s

theorem setRearm_events (s : State) : (setRearm s).events = s.events := by
  unfold setRearm
  split <;> rfl

theorem clearAlarm_events (c : AlarmCode) (d : Option Nat) (s : State) : (clearAlarm c d s).events = s.events := by
  have rearmed : ∀ (p : Bool) (u : State), u.events = s.events → (if p then setRearm u else u).events = s.events := by
    intro p u hu
    split
    · rw [setRearm_events, hu]
    · exact hu
  unfold clearAlarm; dsimp only
  split
  · rfl
  · split
    · rfl
    · refine rearmed _ _ ?_
      split
      · rfl
      · exact report_events _ _ _ _ s
      · exact report_events _ _ _ _ s

theorem watchOwned_events (s : State) : (watchOwned s).events = s.events := by
  unfold watchOwned; dsimp only
  split <;> rfl

theorem setWalkState_events (w : WalkState) (s : State) : (setWalkState w s).events = s.events := by
  unfold setWalkState; dsimp only
  rw [watchOwned_events]
  split <;> rfl

theorem placeTold_events (e : Entry) (s : State) : (placeTold e s).events = s.events := by
  unfold placeTold
  split
  · next he =>
    have told : ∀ x u, (tellLender x u).events = u.events := fun x u => by
      unfold tellLender
      split <;> rfl
    rw [told]
    exact enqueue_events he
  · next he => exact enqueue_events he

theorem placeGrant_events (peer k : Nat) (s : State) : (placeGrant peer k s).1.events = s.events := by
  unfold placeGrant; dsimp only
  split
  · next he => exact (enqueue_events he).trans rfl
  · next he => exact (enqueue_events he).trans rfl

theorem driveTripped_events (s : State) : (driveTripped s).events = s.events := by
  unfold driveTripped
  split <;> rfl

/-- Only the move that notes an event adds one. -/
theorem Move.events {g : Tag} (m : Move g s t) : t.events = s.events ∨ ∃ e, g = .note e ∧ t.events = e :: s.events := by
  cases m with
  | place e => exact .inl (placeTold_events e s)
  | tell e =>
    refine .inl ?_
    unfold tellLender
    split <;> rfl
  | rearm => exact .inl (setRearm_events s)
  | inputs i => exact .inl (watchOwned_events _)
  | unit u => cases u <;> exact .inl rfl
  | trip => exact .inl (driveTripped_events _)
  | own w => exact .inl (watchOwned_events _)
  | reclaim => exact .inl ((watchOwned_events _).trans (setRearm_events _))
  | walkTo w => exact .inl (setWalkState_events w s)
  | grant peer k => exact .inl (placeGrant_events peer k s)
  | raised c d => exact .inl (raiseQuiet_events c d s)
  | cleared c d => exact .inl (clearAlarm_events c d s)
  | dropped n => exact .inl ((clearAlarm_events _ _ _).trans (raiseQuiet_events _ _ s))
  | report r => exact .inl (reportAlarm_events r false true s)
  | note e => exact .inr ⟨e, rfl, rfl⟩
  | _ => exact .inl rfl

theorem Moves.events_mono {gs : List Tag} (m : Moves gs s t) {e : Event} (h : e ∈ s.events) : e ∈ t.events := by
  induction m with
  | refl => exact h
  | tail _ hlast ih =>
    obtain ⟨g, -, m⟩ := hlast
    rcases m.events with he | ⟨e', -, he⟩ <;> rw [he]
    · exact ih
    · exact List.mem_cons_of_mem _ ih

/-- An event found after a chain of moves was there before, or the chain can note it. -/
theorem Moves.events_sub {gs : List Tag} (m : Moves gs s t) {e : Event} (h : e ∈ t.events) :
    e ∈ s.events ∨ Tag.note e ∈ gs := by
  induction m with
  | refl => exact .inl h
  | tail _ hlast ih =>
    obtain ⟨g, hg, m⟩ := hlast
    rcases m.events with he | ⟨e', rfl, he⟩ <;> rw [he] at h
    · exact ih h
    · rcases List.mem_cons.1 h with rfl | h
      · exact .inr hg
      · exact ih h

theorem Moves.events_none {gs : List Tag} (m : Moves gs s t) {e : Event} (hg : Tag.note e ∉ gs) :
    e ∈ t.events ↔ e ∈ s.events := ⟨fun h => (m.events_sub h).resolve_right hg, m.events_mono⟩

end

/-! ### Blocks that stand -/

/-- The moves of a tag leave a block. -/
def Tag.leaves (b : Block) (g : Tag) : Bool := g.blocks.all (· != b)

/-- A block that none of the tags changes stands. -/
theorem Moves.block {gs : List Tag} {s t : State} (m : Moves gs s t) (b : Block) (h : gs.all (Tag.leaves b) = true) :
    b.same s t := by
  have all : ∀ c : Block, c ∈ [Block.line, .time, .unit0, .unit1, .picture, .ring, .cab, .drive, .share, .rope, .swing,
      .walk, .contactor, .alarms, .table, .startup, .encoder, .inputs] := by
    intro c
    cases c <;> decide
  have f := m.frame (bs := [Block.line, .time, .unit0, .unit1, .picture, .ring, .cab, .drive, .share, .rope, .swing,
      .walk, .contactor, .alarms, .table, .startup, .encoder, .inputs].filter fun c => c != b) fun g hg c hc => by
    refine List.mem_filter.2 ⟨all c, List.all_eq_true.1 (List.all_eq_true.1 h g hg) c hc⟩
  exact f.1 b fun hb => by simp at hb

/-- A field of a block that only moves of other tags could change. -/
theorem Moves.stands {gs : List Tag} {s t : State} {α : Type} (m : Moves gs s t) (f : State → α)
    (h : ∀ g ∈ gs, ∀ u v, Move g u v → f v = f u) : f t = f s := m.same (f := f) h

/-! ### The stages of a cycle start -/

/-- The line time and the line unit as the timer expires. -/
def ticked (s : State) : State := expiredTime (begin s)

/-- The state in which the work of the expiring timer's cycle start begins: its PACE placed, its inputs sampled. -/
def fallen (i : Inputs) (s : State) : State := sampleInputs i (placePace (ticked s))

section
variable {s : State}

/-- The first part of a cycle start, and the ring. -/
def ringed (s : State) : State := ringCycle (cycleCounts s)

/-- A cycle start up to the drive chain. -/
def cabbed (s : State) : State := cabCycle (annunciatorCycle (ringed s))

/-- A cycle start up to the share unit. -/
def chained (s : State) : State := chainCycle (cabbed s)

/-- A cycle start up to the REPLY. -/
def shared (s : State) : State := shareCycle (chained s)

/-- A cycle start up to its status point. -/
def answered (s : State) : State := answerQuery (shared s)

theorem cycleWork_eq (s : State) : cycleWork s = statusPointAtStart (answered s) := rfl

/-- The moves of each part of a cycle start, up to the drive chain. -/
def earlyTags : List Tag := countsTags ++ ringTags ++ annunciatorTags ++ cabTags

theorem ringed_moves (s : State) : Moves (countsTags ++ ringTags) s (ringed s) :=
  ((cycleCounts_moves s).mono fun _ h => by simp [h]).trans ((ringCycle_moves _).mono fun _ h => by simp [h])

theorem fromRing_moves (s : State) : Moves (annunciatorTags ++ cabTags) (ringed s) (cabbed s) :=
  ((annunciatorCycle_moves _).mono fun _ h => by simp [h]).trans ((cabCycle_moves _).mono fun _ h => by simp [h])

theorem cabbed_moves (s : State) : Moves earlyTags s (cabbed s) :=
  ((ringed_moves s).mono fun _ h => by simp only [earlyTags, List.append_assoc]; simp only [List.mem_append] at h ⊢; tauto).trans
    ((fromRing_moves s).mono fun _ h => by simp only [earlyTags]; simp only [List.mem_append] at h ⊢; tauto)

/-- The moves after the drive chain. -/
def lateTags : List Tag := shareTags ++ statusTags

theorem fromShare_moves (s : State) : Moves statusTags (shared s) (cycleWork s) :=
  ((answerQuery_moves _).mono (by decide)).trans (statusPointAtStart_moves _)

theorem fromChain_moves (s : State) : Moves lateTags (chained s) (cycleWork s) :=
  ((shareCycle_moves _).mono fun _ h => by simp [lateTags, h]).trans
    ((fromShare_moves s).mono fun _ h => by simp [lateTags, h])

/-- The moves from the drive chain on. -/
def chainOnTags : List Tag := chainTags ++ lateTags

theorem fromCab_moves (s : State) : Moves chainOnTags (cabbed s) (cycleWork s) :=
  ((chainCycle_moves _).mono fun _ h => by simp [chainOnTags, h]).trans
    ((fromChain_moves s).mono fun _ h => by simp [chainOnTags, h])

/-- The moves from the ring on. -/
def ringOnTags : List Tag := (annunciatorTags ++ cabTags) ++ chainOnTags

theorem afterRing_moves (s : State) : Moves ringOnTags (ringed s) (cycleWork s) :=
  ((fromRing_moves s).mono fun _ h => List.mem_append_left _ h).trans
    ((fromCab_moves s).mono fun _ h => List.mem_append_right _ h)

/-- The moves after the first part of a cycle start. -/
def countsOnTags : List Tag := ringTags ++ ringOnTags

theorem afterCounts_moves (s : State) : Moves countsOnTags (cycleCounts s) (cycleWork s) :=
  ((ringCycle_moves _).mono fun _ h => List.mem_append_left _ h).trans
    ((afterRing_moves s).mono fun _ h => List.mem_append_right _ h)

/-- The moves of the PACE and of the sample. -/
def fallTags : List Tag := .place .pace :: .settle :: sampleTags

theorem placePace_time (hr : s.time.running = true) : (placePace (expiredTime s)).onTime (fun t =>
    { t with cycle := s.time.cycle + 1, offset := 0, running := true, statusDone := false }) = placePace (expiredTime s) := by
  have time : (placePace (expiredTime s)).time = (expiredTime s).time := (placePace_frame _).1 .time (by decide)
  have same : ({ (expiredTime s).time with cycle := s.time.cycle + 1, offset := 0, running := true, statusDone := false } :
      LineTime) = (expiredTime s).time := by
    rw [← hr]
    rfl
  have set : ∀ u : State, u.time = (expiredTime s).time → (u.onTime fun t =>
      { t with cycle := s.time.cycle + 1, offset := 0, running := true, statusDone := false }) = u := fun u hu => by
    unfold State.onTime; dsimp only
    rw [hu]
    refine Eq.trans (congrArg (fun t => { u with time := t }) same) ?_
    rw [← hu]
  exact set _ time

/-- The cycle start of an expiring timer. -/
theorem timerExpiry_started {i : Inputs} (hr : s.time.running = true) :
    timerExpiry i s = cycleWork (sampleInputs i (placePace (expiredTime s))) := by
  rw [timerExpiry_eq hr, cycleStartFor]
  exact congrArg (fun u => cycleWork (sampleInputs i u)) (placePace_time hr)

theorem timerExpiry_work {i : Inputs} (hr : s.time.running = true) :
    timerExpiry i (begin s) = cycleWork (fallen i s) := timerExpiry_started (s := begin s) hr

theorem fallen_moves (i : Inputs) (s : State) : Moves fallTags (ticked s) (fallen i s) :=
  ((placePace_moves _).mono (by decide)).trans ((sampleInputs_moves i _).mono (by decide))

theorem ticked_frame (s : State) : Frame [.line, .time] (begin s) (ticked s) :=
  (onLine_frame (begin s) _).comp (onTime_frame _ _) (by decide) (by decide)

theorem fallen_startup (i : Inputs) (s : State) : (fallen i s).startup = s.startup := (fallen_moves i s).startup

theorem fallen_time (i : Inputs) (s : State) : (fallen i s).time =
    { s.time with cycle := s.time.cycle + 1, offset := 0, statusDone := false } :=
  (fallen_moves i s).block .time (by decide)

theorem fallen_inputs (i : Inputs) (s : State) : (fallen i s).inputs = i := sampleAfter_inputs _ _ _ _

end

/-! ### The line time and the picture after a cycle start -/

section
variable {s : State}

theorem cycleCounts_time (s : State) : (cycleCounts s).time = { s.time with
    longCount := if s.globals.longLength ≤ s.time.longCount + 1 then 0 else s.time.longCount + 1 } := by
  have line : (lineCycle s).time = s.time := (lineCycle_moves s).block .time (by decide)
  have long : isLongCycle (lineCycle s) = decide (s.globals.longLength ≤ s.time.longCount + 1) := by
    unfold isLongCycle
    rw [(lineCycle_moves s).globals, line]
  have short : (shortCounts s).time = { s.time with
      longCount := if s.globals.longLength ≤ s.time.longCount + 1 then 0 else s.time.longCount + 1 } := by
    rw [shortCounts, show (pictureCycle (countLong (lineCycle s))).time = _ from
      (pictureCycle_moves _).block .time (by decide), countLong, State.onTime_time, line, long]
    by_cases h : s.globals.longLength ≤ s.time.longCount + 1
    · rw [if_pos h, if_pos (by exact decide_eq_true h)]
    · rw [if_neg h, if_neg (by simpa using h)]
  rw [cycleCounts_eq]
  split
  · exact ((longCycleWork_moves _).block .time (by decide)).trans short
  · exact short

theorem answered_time (s : State) : (answered s).time = (cycleCounts s).time := by
  have control : (shared s).time = (cycleCounts s).time := (cycleControl_moves _).block .time (by
    simp only [controlTags, chainTags, List.all_append]
    decide)
  have reply : (answered s).time = (shared s).time := by
    unfold answered answerQuery
    split
    · rfl
    · split
      · next he => exact (enqueue_eq_frame he).1 .time (by decide)
      · next he => exact (enqueue_eq_frame he).1 .time (by decide)
  exact reply.trans control

/-- The status point of a cycle start leaves the clock. -/
theorem statusPointAtStart_clock (h : s.time.offset = 0) :
    ∃ d, (statusPointAtStart s).time = { s.time with statusDone := d } := by
  have composed : ∀ u : State, (composeStatus u).time = u.time := fun u => (composeStatus_frame u).1 .time (by decide)
  have same : ({ s.time with statusDone := s.time.statusDone } : LineTime) = s.time := rfl
  unfold statusPointAtStart
  split
  · next hO =>
    unfold statusPointNow
    split
    · refine ⟨true, (composed _).trans ?_⟩
      have offset : (settle s).statusOffset = s.time.offset := Eq.trans hO h.symm
      rw [offset]
      rfl
    · exact ⟨_, rfl⟩
  · exact ⟨_, rfl⟩

/-- The clock after a cycle start whose offset stands at 0. -/
theorem cycleWork_time (h : s.time.offset = 0) : ∃ d, (cycleWork s).time = { s.time with
    statusDone := d, longCount := if s.globals.longLength ≤ s.time.longCount + 1 then 0 else s.time.longCount + 1 } := by
  have before := (answered_time s).trans (cycleCounts_time s)
  obtain ⟨d, hd⟩ := statusPointAtStart_clock (s := answered s) (by rw [before]; exact h)
  refine ⟨d, ?_⟩
  rw [cycleWork_eq, hd, before]

theorem ageRecord_peers (l : List PeerRecord) : l.map ageRecord =
    l.map fun p => if p.heard then { p with age := min 255 (p.age + 1) } else p :=
  List.map_congr_left fun p _ => by
    unfold ageRecord bump8 satAdd
    rfl

/-- No move but the ageing changes the peer records. -/
theorem Move.peers {g : Tag} {s t : State} (m : Move g s t) (h : g ≠ .ageing) : t.picture.peers = s.picture.peers := by
  by_cases hb : Block.picture ∈ g.blocks
  · cases m with
    | ageing => exact absurd rfl h
    | sequence => rfl
    | _ => exact absurd hb (by simp [Tag.blocks])
  · exact congrArg Picture.peers (m.frame.1 .picture hb)

theorem Moves.peers {gs : List Tag} {s t : State} (m : Moves gs s t) (h : Tag.ageing ∉ gs) :
    t.picture.peers = s.picture.peers :=
  m.same (f := fun u => u.picture.peers) fun _ hg _ _ m => m.peers fun he => h (he ▸ hg)

theorem pictureCycle_peers (s : State) : (pictureCycle s).picture.peers = s.picture.peers.map ageRecord := by
  have aged := fun u : State => (Moves.foldl (gs := [.raised .peerSilent])
    (f := fun s n => raiseQuiet .peerSilent (some n) s) (goingStale s)
    (fun t n _ => (Move.raised .peerSilent (some n) t (by decide)).moves (by decide)) u).peers (by decide)
  unfold pictureCycle; dsimp only
  split
  · exact aged _
  · exact aged _

theorem cycleCounts_peers (s : State) : (cycleCounts s).picture.peers = s.picture.peers.map ageRecord := by
  have short : (shortCounts s).picture.peers = s.picture.peers.map ageRecord := by
    rw [shortCounts, pictureCycle_peers, (countLong_moves _).peers (by decide), (lineCycle_moves _).peers (by decide)]
  rw [cycleCounts_eq]
  split
  · exact ((longCycleWork_moves _).peers (by decide)).trans short
  · exact short

theorem cycleWork_peers (s : State) : (cycleWork s).picture.peers = s.picture.peers.map ageRecord :=
  ((afterCounts_moves s).peers (by decide)).trans (cycleCounts_peers s)

/-- The clock, the inputs and the picture after a cycle start (R23, R29, R44). -/
theorem cycleStartFor_time (c : DWord) (i : Inputs) (s : State) : ∃ d, (cycleStartFor c i s).time = { s.time with
    cycle := c, offset := 0, running := true, statusDone := d,
    longCount := if s.globals.longLength ≤ s.time.longCount + 1 then 0 else s.time.longCount + 1 } := by
  have m := sampleInputs_moves i (s.onTime fun t => { t with cycle := c, offset := 0, running := true, statusDone := false })
  have time : _ = LineTime.mk _ _ _ _ _ _ _ _ := m.block .time (by decide)
  obtain ⟨d, after⟩ := cycleWork_time (congrArg LineTime.offset time)
  refine ⟨d, ?_⟩
  rw [cycleStartFor, after, time, m.globals]
  rfl

theorem cycleWork_inputs (s : State) : (cycleWork s).inputs = s.inputs :=
  (cycleWork_moves s).block .inputs (by
    simp only [workTags, controlTags, chainTags, List.all_append]
    decide)

theorem cycleStartFor_inputs (c : DWord) (i : Inputs) (s : State) : (cycleStartFor c i s).inputs = i :=
  (cycleWork_inputs _).trans (sampleAfter_inputs _ _ _ _)

theorem cycleStartFor_came (c : DWord) (i : Inputs) (s : State) : cycleCame s (cycleStartFor c i s) := by
  obtain ⟨d, time⟩ := cycleStartFor_time c i s
  refine ⟨by rw [time], ?_⟩
  have picture := (sampleInputs_moves i (s.onTime fun t =>
    { t with cycle := c, offset := 0, running := true, statusDone := false })).block .picture (by decide)
  rw [cycleStartFor, cycleWork_peers, ageRecord_peers]
  exact congrArg (fun p : Picture => p.peers.map _) picture

/-- The clock after an expiry (R23, R29). -/
theorem work_time (i : Inputs) (s : State) : ∃ d, (cycleWork (fallen i s)).time = { s.time with
    cycle := s.time.cycle + 1, offset := 0, statusDone := d,
    longCount := if s.globals.longLength ≤ s.time.longCount + 1 then 0 else s.time.longCount + 1 } := by
  have time := fallen_time i s
  obtain ⟨d, after⟩ := cycleWork_time (s := fallen i s) (by rw [time])
  refine ⟨d, ?_⟩
  rw [after, globals_of_startup (fallen_startup i s), time]

/-- A cycle start has come (R29, R44). -/
theorem cycleCame_work (i : Inputs) (s : State) : cycleCame s (cycleWork (fallen i s)) := by
  obtain ⟨d, time⟩ := work_time i s
  refine ⟨by rw [time], ?_⟩
  · have picture : (fallen i s).picture = (ticked s).picture := (fallen_moves i s).block .picture (by decide)
    rw [cycleWork_peers, ageRecord_peers, picture]
    rfl

end

/-! ### The events of an expiry -/

section
variable {i : Inputs} {s : State} {e : Event}

theorem exec_cycleStart (hr : s.time.running = true) : exec (.cycleStart i) s = .next (cycleWork (fallen i s)) :=
  congrArg Host.Outcome.next (timerExpiry_work hr)

theorem exec_event (e : Event) (i : Inputs) (s : State) : exec (e.command i) s = .next (eventCycle e i s) := by
  cases e <;> rfl

theorem fallen_events (i : Inputs) (s : State) (e : Event) : e ∉ (fallen i s).events := fun h => by
  have none : e ∈ (ticked s).events ∨ Tag.note e ∈ fallTags := (fallen_moves i s).events_sub h
  rcases none with h | h
  · cases h
  · revert h
    cases e <;> decide

theorem fallsDue_iff : fallsDue e i s = true ↔ s.time.running = true ∧ e ∈ (cycleWork (fallen i s)).events := by
  by_cases hr : s.time.running = true
  · unfold fallsDue
    rw [timerExpiry_work hr]
    simp [hr]
  · unfold fallsDue
    rw [timerExpiry, if_neg (by exact hr)]
    simp [begin, hr]

theorem exec_due (h : fallsDue e i s = true) : exec (e.command i) s = .next (cycleWork (fallen i s)) := by
  rw [exec_event, eventCycle, if_pos h, timerExpiry_work (fallsDue_iff.1 h).1]

theorem exec_falls (hr : s.time.running = true) (he : e ∈ (cycleWork (fallen i s)).events) :
    exec (e.command i) s = .next (cycleWork (fallen i s)) := exec_due (fallsDue_iff.2 ⟨hr, he⟩)

end

end Sys2Proof.Machine

open Sys2Proof Sys2Proof.Machine

/-- Settles O46: an event's row is the expiry at which the event is noted. -/
theorem eventRowsAreCycleStarts : Obligations.EventRowsAreCycleStarts := by
  intro e i s
  refine ⟨fun h => ?_, fun h => ⟨_, exec_due h, ?_⟩⟩
  · rw [exec_event, eventCycle, if_neg (by rw [h]; decide)]
  · obtain ⟨hr, he⟩ := fallsDue_iff.1 h
    obtain ⟨d, time⟩ := work_time i s
    rw [time]
    exact ⟨exec_cycleStart hr, he, rfl, rfl⟩

end

section
/-! PROOFS. A bulletin placed early in a cycle start stands to its end, or an eviction is counted (R15 to R17). -/

namespace Sys2Proof.Machine

/-! ### An entry of the queue through a placement -/

section
variable {s t : State} {e x : Entry}

/-- A placement of another kind leaves an entry, or an eviction is counted. -/
theorem enqueue_stays (hx : x ∈ s.line.queue) (hk : x.kind ≠ e.kind) :
    x ∈ (enqueue e s).1.line.queue ∨ (enqueue e s).1.line.counters.evicted = bump s.line.counters.evicted := by
  have elders : x ∈ (replaceElders e.kind s).line.queue := by
    rw [replaceElders_queue]
    split
    · have other : (x.kind == e.kind) = false := beq_false_of_ne hk
      exact List.mem_map.2 ⟨x, List.mem_filter.2 ⟨hx, by rw [other]; rfl⟩, by rw [other]; rfl⟩
    · exact hx
  rcases enqueue_cases e s with ⟨-, he⟩ | ⟨-, -, -, he⟩ | ⟨-, he⟩ <;> rw [he]
  · exact .inl hx
  · exact .inl (mem_standIn.2 (.inr hx))
  · rcases admitGeneral_cases e.ranked (replaceElders e.kind s) with ⟨-, ha⟩ | ⟨-, k, y, -, ha⟩ | ⟨-, ha⟩ <;> rw [ha]
    · exact .inl (mem_standIn.2 (.inr elders))
    · refine .inr ?_
      rw [← (replaceElders_evicted e.kind s).1]
      rfl
    · exact .inl elders

end

/-! ### An entry of the queue through a chain of moves -/

/-- A property of entries that muting and settling leave. -/
structure Lasting (p : Entry → Prop) : Prop where
  muted : ∀ e, p e → p { e with muted := true }
  settled : ∀ e, p e → p { e with rank := min e.rank 1 }

/-- Some entry has the property, or since the count `n` an eviction has been counted. -/
structure Stays (p : Entry → Prop) (n : Nat) (l : LineUnit) : Prop where
  grown : Grown n l.counters.evicted
  stays : (∃ e ∈ l.queue, p e) ∨ Risen n l.counters.evicted

/-- The kinds of the bulletins that the moves of a tag may place. -/
def Tag.kinds : Tag → List Kind
  | .place k => [k]
  | .grant => [.shareGrant]
  | .raised _ | .cleared _ | .dropped | .report => [.alarm]
  | _ => []

section
variable {p : Entry → Prop} {n : Nat} {s t : State}

theorem Stays.of_line {l l' : LineUnit} (h : Stays p n l) (hq : ∀ e ∈ l.queue, p e → ∃ e' ∈ l'.queue, p e')
    (hc : Grown l.counters.evicted l'.counters.evicted) : Stays p n l' :=
  ⟨h.grown.trans hc, h.stays.imp (fun ⟨e, he, hp⟩ => hq e he hp) fun h => h.then hc⟩

theorem Stays.of_eq {l l' : LineUnit} (h : Stays p n l) (hq : l'.queue = l.queue) (hc : l'.counters = l.counters) :
    Stays p n l' :=
  h.of_line (fun e he hp => ⟨e, hq ▸ he, hp⟩) (by rw [hc]; exact .refl _)

theorem Stays.map {f : Entry → Entry} {l : LineUnit} (h : Stays p n l) (hf : ∀ e, p e → p (f e)) :
    Stays p n { l with queue := l.queue.map f } :=
  h.of_line (fun e he hp => ⟨f e, List.mem_map_of_mem he, hf e hp⟩) (.refl _)

theorem Stays.enqueue {e : Entry} (h : Stays p n s.line) (hk : ∀ x, p x → x.kind ≠ e.kind) :
    Stays p n (enqueue e s).1.line := by
  have grown := (countersGrown_enqueue e s).evicted
  refine ⟨h.grown.trans grown, ?_⟩
  rcases h.stays with ⟨x, hx, hp⟩ | hr
  · refine (enqueue_stays hx (hk x hp)).imp (fun hm => ⟨x, hm, hp⟩) fun hb => ?_
    rw [hb]
    exact h.grown.risen (risen_bump _)
  · exact .inr (hr.then grown)

theorem Lasting.mute (hp : Lasting p) (q : Entry → Bool) (e : Entry) (he : p e) :
    p (if q e then { e with muted := true } else e) := by
  split
  · exact hp.muted e he
  · exact he

/-- A move that places none of its kind leaves an entry, or counts an eviction; ageing apart. -/
theorem Move.stays {g : Tag} (m : Move g s t) (hp : Lasting p) (hk : ∀ x, p x → x.kind ∉ g.kinds)
    (ha : g = .age → ∀ l : LineUnit, Stays p n l → Stays p n { l with queue := queueLeft s.time.cycle l.queue })
    (h : Stays p n s.line) : Stays p n t.line := by
  have alarm : AlarmLine s t → (∀ x, p x → x.kind ≠ .alarm) → Stays p n t.line := fun hl hx =>
    hl.keeps (Q := Stays p n) (fun e u _ he hu => hu.enqueue (e := e) fun x hpx => by rw [he]; exact hx x hpx) h
  by_cases hb : Block.line ∈ g.blocks
  · cases m with
    | count c _ hc => exact h.of_line (fun e he hpe => ⟨e, he, hpe⟩) hc.grown.evicted
    | place e =>
      rw [placeTold_line]
      exact h.enqueue fun x hx => by simpa [Tag.kinds] using hk x hx
    | mute q => exact h.map (hp.mute q)
    | settle q =>
      refine h.map fun e he => ?_
      split
      · exact hp.settled e he
      · exact he
    | age => exact ha rfl _ h
    | line f c _ hc => cases f <;> exact h.of_eq (by rw [State.onLine_line, hc]) (by rw [State.onLine_line, hc])
    | queries => exact h.of_eq rfl rfl
    | rejoin => exact h.of_eq rfl rfl
    | walkTo w =>
      have watched : ∀ u : State, (watchOwned (u.onWalk fun k => { k with state := w, stateCount := 0 })).line = u.line :=
        fun u => (watchOwned_frame _).1 .line (by decide)
      unfold setWalkState; dsimp only
      rw [watched]
      split
      · exact h.map (hp.mute _)
      · exact h
    | grant peer k =>
      obtain ⟨e, -, he, hl⟩ := placeGrant_line peer k s
      rw [hl]
      exact Stays.enqueue (s := s.onShare fun h => { h with grantNumber := h.grantNumber + 1 }) h fun x hx => by
        rw [he]
        simpa [Tag.kinds] using hk x hx
    | raised c d => exact alarm (raiseQuiet_alarmLine c d s) fun x hx => by simpa [Tag.kinds] using hk x hx
    | cleared c d => exact alarm (clearAlarm_alarmLine c d s) fun x hx => by simpa [Tag.kinds] using hk x hx
    | dropped d => exact alarm (loanDropped_alarmLine d s) fun x hx => by simpa [Tag.kinds] using hk x hx
    | report r => exact alarm (reportAlarm_alarmLine r false true s) fun x hx => by simpa [Tag.kinds] using hk x hx
    | _ => exact absurd hb (by simp [Tag.blocks])
  · rw [m.frame.1 .line hb]
    exact h

/-- The tags place no bulletin of a kind. -/
def Tag.spares (k : Kind) (g : Tag) : Bool := !g.kinds.contains k

theorem Moves.stays {gs : List Tag} {k : Kind} (m : Moves gs s t) (hp : Lasting p) (hk : ∀ x, p x → x.kind = k)
    (hg : gs.all (Tag.spares k) = true)
    (ha : Tag.age ∈ gs → ∀ c (l : LineUnit), Stays p n l → Stays p n { l with queue := queueLeft c l.queue })
    (h : Stays p n s.line) : Stays p n t.line :=
  Moves.keeps (P := fun u => Stays p n u.line) (fun g hm u v m hu => m.stays hp (fun x hx hc => by
    have spared := List.all_eq_true.1 hg g hm
    rw [hk x hx] at hc
    simp [Tag.spares, hc] at spared) (fun he => ha (he ▸ hm) _) hu) m h

end

/-! ### The PACE of a cycle start (R15, R16, R23) -/

/-- The PACE of cycle `c`, placed at this instant. -/
def PaceOf (c : DWord) (e : Entry) : Prop :=
  (e.kind = .pace ∧ e.target = 15 ∧ e.words = words32 c ∧ e.inFlight = false ∧ e.waited = 0) ∧ e.rank ≠ 0

theorem lasting_paceOf (c : DWord) : Lasting (PaceOf c) :=
  ⟨fun _ h => h, fun e h => ⟨h.1, fun hr => h.2 (by have : min e.rank 1 = 0 := hr; omega)⟩⟩

/-- A PACE of this instant does not age (R17). -/
theorem stays_age {c d : DWord} {n : Nat} {l : LineUnit} (h : Stays (PaceOf c) n l) :
    Stays (PaceOf c) n { l with queue := queueLeft d l.queue } := by
  refine h.of_line (fun e he hp => ⟨e, ?_, hp⟩) (.refl _)
  obtain ⟨⟨kind, -, -, waits, -⟩, hr⟩ := hp
  have aged : e.aged = e := if_neg hr
  have stands : expiresNow d e = false := by simp [expiresNow, hr]
  refine List.mem_map.2 ⟨e, List.mem_filter.2 ⟨List.mem_map.2 ⟨e, he, aged⟩, by rw [stands]; rfl⟩, ?_⟩
  rw [waits]
  rfl

theorem eldersReplaced_ranks (k : Kind) (q : List Entry) :
    eldersReplaced k (q.map fun e => { e with rank := 0 }) = (eldersReplaced k q).map fun e => { e with rank := 0 } := by
  unfold eldersReplaced
  split
  · rw [List.filter_map, List.map_map, List.map_map]
    refine List.map_congr_left fun e _ => ?_
    simp only [Function.comp_apply]
    split <;> rfl
  · rfl

theorem length_generalEntries_ranks (q : List Entry) :
    (generalEntries (q.map fun e => { e with rank := 0 })).length = (generalEntries q).length := by
  unfold generalEntries
  rw [List.filter_map, List.length_map]
  rfl

section
variable {s : State}

theorem placePace_stays (ha : s.line.state = .active)
    (hs : (generalEntries (eldersReplaced .pace s.line.queue)).length < 8) :
    Stays (PaceOf (s.time.cycle + 1)) s.line.counters.evicted (placePace (ticked s)).line := by
  have space : (generalEntries (eldersReplaced .pace (ticked s).line.queue)).length < 8 := by
    have queue : (ticked s).line.queue = s.line.queue.map fun e => { e with rank := 0 } := rfl
    rw [queue, eldersReplaced_ranks, length_generalEntries_ranks]
    exact hs
  have placed := (enqueue_space (e := { kind := .pace, target := Config.broadcast, words := words32 (ticked s).time.cycle })
    (s := ticked s) ha (.inl (by simp)) space).2
  have grown := countersGrown_enqueue { kind := .pace, target := Config.broadcast, words := words32 (ticked s).time.cycle }
    (ticked s)
  refine ⟨grown.evicted, .inl ?_⟩
  refine ⟨_, List.mem_map_of_mem (f := fun e : Entry => if e.kind == .pace then { e with rank := min e.rank 1 } else e)
    (placed ▸ mem_standIn.2 (.inl rfl)), ⟨rfl, rfl, rfl, rfl, rfl⟩, ?_⟩
  exact one_ne_zero

theorem fallTags_spare : (sampleTags ++ countsTags ++ countsOnTags).all (Tag.spares .pace) = true := by
  simp only [countsOnTags, ringOnTags, chainOnTags, chainTags, List.all_append]
  decide

/-- The PACE of an expiry stands at the end of its cycle start, or an eviction is counted. -/
theorem work_pace (i : Inputs) (ha : s.line.state = .active)
    (hs : (generalEntries (eldersReplaced .pace s.line.queue)).length < 8) :
    Stays (PaceOf (s.time.cycle + 1)) s.line.counters.evicted (cycleWork (fallen i s)).line := by
  have m : Moves (sampleTags ++ countsTags ++ countsOnTags) (placePace (ticked s)) (cycleWork (fallen i s)) :=
    (((sampleInputs_moves i _).mono fun _ h => by simp [h]).trans
      ((cycleCounts_moves _).mono fun _ h => by simp [h])).trans ((afterCounts_moves _).mono fun _ h => by simp [h])
  exact m.stays (lasting_paceOf _) (fun _ h => h.1.1) fallTags_spare (fun _ _ _ h => stays_age h) (placePace_stays ha hs)

/-- Outside ACTIVE the PACE of an expiry is refused, and the refusal counted. -/
theorem work_refused (i : Inputs) (ha : s.line.state ≠ .active) :
    Risen s.line.counters.refused (cycleWork (fallen i s)).line.counters.refused := by
  have m : Moves (sampleTags ++ workTags) (placePace (ticked s)) (cycleWork (fallen i s)) :=
    ((sampleInputs_moves i _).mono fun _ h => by simp [h]).trans ((cycleWork_moves _).mono fun _ h => by simp [h])
  have grown := (m.lineSteps (b := true) fun _ _ _ => rfl).grown.refused
  have refused : (placePace (ticked s)).line.counters.refused = bump s.line.counters.refused := by
    unfold placePace place
    rw [enqueue_refused (s := ticked s) ha]
    rfl
  exact (refused ▸ risen_bump s.line.counters.refused : Risen _ _).then grown

end

/-! ### What an expiry leaves (R23) -/

section
variable {s : State}

theorem workTags_leave_units : workTags.all (Tag.leaves .unit0) = true ∧ workTags.all (Tag.leaves .unit1) = true := by
  simp only [workTags, controlTags, chainTags, List.all_append]
  decide

/-- An expiry whose sample shows no edge samples no more than the inputs and the cab's emergency input. -/
theorem fallen_quiet (i : Inputs) (h : NoEdges s.inputs.din i.din s) : fallen i s = sampled i (placePace (ticked s)) := by
  have pace := (placePace_frame (ticked s)).comp (Frame.refl [] _) (ds := [.line]) (by decide) (by decide)
  have before := (ticked_frame s).comp pace (ds := [.line, .time]) (by decide) (by decide)
  have startup : (placePace (ticked s)).startup = s.startup := before.1 .startup (by decide)
  have inputs : (placePace (ticked s)).inputs = s.inputs := before.1 .inputs (by decide)
  unfold fallen sampleInputs
  refine sampleAfter_quiet fun u => ?_
  rw [params_of_startup startup, inputs]
  exact h u

/-- An expiry whose sample shows no edge leaves the capture units. -/
theorem work_units (i : Inputs) (h : NoEdges s.inputs.din i.din s) :
    (cycleWork (fallen i s)).unit0 = s.unit0 ∧ (cycleWork (fallen i s)).unit1 = s.unit1 := by
  have m := cycleWork_moves (fallen i s)
  have pace := (placePace_frame (ticked s)).comp (Frame.refl [] _) (ds := [.line]) (by decide) (by decide)
  have before := (ticked_frame s).comp pace (ds := [.line, .time]) (by decide) (by decide)
  have unit : ∀ u, (fallen i s).captureUnit u = s.captureUnit u := fun u => by
    rw [fallen_quiet i h, sampled_units, captureUnit_of_frame before (by decide) (by decide)]
    cases u <;> rfl
  exact ⟨(m.block .unit0 workTags_leave_units.1).trans (unit .unit0),
    (m.block .unit1 workTags_leave_units.2).trans (unit .unit1)⟩

theorem execCycleStart_frame (i : Inputs) (s : State) : Frame startBlocks (begin s) (timerExpiry i (begin s)) :=
  timerExpiry_frame i (begin s)

end

/-! ### One 10 µs unit (R22, R189, R191) -/

section
variable {s : State}

theorem units_of_globals {t : State} (h : t.globals = s.globals) : t.units = s.units := by
  rw [State.units, h, State.units]

/-- The join before its blocks' first sample. -/
def joinBegun (i : Inputs) (s : State) : State :=
  beginAxes (settle (heldRaises (settle (raise .stationStarted none (joinEntry i s)))))

theorem joinDone_eq (i : Inputs) (s : State) : joinDone i s = emergencySample (watchOwned (joinBegun i s)) := by
  unfold joinDone joinBegun
  rw [beginBlocks_eq, joinStart_eq]

theorem joinBegun_moves (i : Inputs) (s : State) : Moves joinTags (joinEntry i s) (joinBegun i s) :=
  ((raise_moves (by decide) none (joinEntry i s)).mono (by decide)).trans (joins_of_held
    ((((settle_joins _).trans (heldRaises_moves _)).trans (settle_joins _)).trans (beginAxes_moves _)))

/-- The join up to its own cycle start leaves the inputs sampled and the waiting commands. -/
theorem joinDone_inputs (i : Inputs) (s : State) : (joinDone i s).inputs = i ∧ (joinDone i s).pending = s.pending := by
  have f := (joinBegun_moves i s).frame (bs := [.line, .alarms, .table, .ring, .drive, .walk, .share, .rope]) (by decide)
  have g := watchOwned_frame (joinBegun i s)
  have h := emergencySample_frame (watchOwned (joinBegun i s))
  have entry : (joinEntry i s).inputs = i ∧ (joinEntry i s).pending = s.pending := by
    unfold joinEntry; dsimp only
    split <;> exact ⟨rfl, rfl⟩
  rw [joinDone_eq, h.1 .inputs (by decide), g.1 .inputs (by decide), f.1 .inputs (by decide), h.2, g.2, f.2]
  exact entry

theorem joinDone_startup_eq (i : Inputs) (s : State) : (joinDone i s).startup = { s.startup with state := .joined } := by
  have h := emergencySample_frame (watchOwned (joinBegun i s))
  rw [joinDone_eq, h.1 .startup (by decide), (watchOwned_frame _).1 .startup (by decide), (joinBegun_moves i s).startup,
    joinEntry_startup]

theorem cycleStartFor_startup (c : DWord) (i : Inputs) (s : State) :
    (cycleStartFor c i s).startup = s.startup ∧ (cycleStartFor c i s).pending = s.pending := by
  have f := cycleStartFor_frame c i s
  exact ⟨f.1 .startup (by decide), f.2⟩

/-- The entry to JOINED (R190). -/
theorem join_startup (i : Inputs) (s : State) : (join i s).startup = { s.startup with state := .joined }
    ∧ (join i s).inputs = i ∧ (join i s).pending = s.pending := by
  have startup := joinDone_startup_eq i s
  obtain ⟨inputs, pending⟩ := joinDone_inputs i s
  rw [join_eq]
  split
  · obtain ⟨startup', pending'⟩ := cycleStartFor_startup 0 i (settle (joinDone i s))
    have settled : ∀ u : State, (settle u).startup = u.startup ∧ (settle u).pending = u.pending := fun _ => ⟨rfl, rfl⟩
    obtain ⟨hs, hp⟩ := settled (joinDone i s)
    exact ⟨startup'.trans (hs.trans startup), cycleStartFor_inputs _ _ _, pending'.trans (hp.trans pending)⟩
  · exact ⟨startup, inputs, pending⟩

theorem join_time {i : Inputs} (h : s.time.running = true) : (join i s).time = s.time := by
  rw [join_eq, if_neg (by simp [h]), joinDone_time i h]

/-- One unit of LISTEN or HALTED. -/
theorem startTick_listen (h : s.startup.state = .listen) :
    (s.startup.listenTimer + 1 < 2 * s.units →
      startTick s = s.onStartup fun u => { u with listenTimer := s.startup.listenTimer + 1 })
    ∧ (2 * s.units ≤ s.startup.listenTimer + 1 → startTick s = listenExpires s.inputs s) := by
  unfold startTick
  rw [h]
  exact ⟨fun hn => if_neg (by omega), fun hn => if_pos hn⟩

theorem startTick_halted (h : s.startup.state = .halted) : startTick s = faultTick s := by
  unfold startTick
  rw [h]

theorem startTick_other (hl : s.startup.state ≠ .listen) (hh : s.startup.state ≠ .halted) : startTick s = s := by
  unfold startTick
  split
  · exact absurd ‹_› hl
  · exact absurd ‹_› hh
  all_goals rfl

/-- What every unit of start-up control leaves. -/
theorem startTick_leaves (s : State) : (startTick s).inputs = s.inputs ∧ (startTick s).pending = s.pending
    ∧ (startTick s).globals = s.globals ∧ (s.time.running = true ∨ s.startup.state ≠ .listen →
      (startTick s).time = s.time) := by
  by_cases hl : s.startup.state = .listen
  · by_cases hn : 2 * s.units ≤ s.startup.listenTimer + 1
    · rw [(startTick_listen hl).2 hn, listenExpires]
      obtain ⟨startup, inputs, pending⟩ := join_startup s.inputs (s.onStartup fun u => { u with listenTimer := 2 * s.units })
      refine ⟨inputs, pending, ?_, fun h => ?_⟩
      · unfold State.globals
        rw [startup]
        rfl
      exact join_time (s := s.onStartup fun u => { u with listenTimer := 2 * s.units }) (h.resolve_right (not_not_intro hl))
    · rw [(startTick_listen hl).1 (by omega)]
      exact ⟨rfl, rfl, rfl, fun _ => rfl⟩
  · by_cases hh : s.startup.state = .halted
    · rw [startTick_halted hh]
      exact ⟨rfl, rfl, rfl, fun _ => rfl⟩
    · rw [startTick_other hl hh]
      exact ⟨rfl, rfl, rfl, fun _ => rfl⟩

theorem statusPointNow_clock (h : s.time.offset = s.statusOffset) : (statusPointNow s).time.cycle = s.time.cycle
    ∧ (statusPointNow s).time.offset = s.time.offset := by
  have composed : ∀ u : State, (composeStatus u).time = u.time := fun u => (composeStatus_frame u).1 .time (by decide)
  unfold statusPointNow
  split
  · rw [composed]
    exact ⟨rfl, h.symm⟩
  · exact ⟨rfl, rfl⟩

/-- One unit of a running timer. -/
theorem timeTick_time (hr : s.time.running = true) :
    (s.time.offset + 1 < s.units → (timeTick s).time.cycle = s.time.cycle ∧ (timeTick s).time.offset = s.time.offset + 1)
    ∧ (s.units ≤ s.time.offset + 1 → (timeTick s).time.cycle = s.time.cycle + 1 ∧ (timeTick s).time.offset = 0) := by
  refine ⟨fun hn => ?_, fun hn => ?_⟩
  · unfold timeTick
    rw [if_neg (by omega)]
    dsimp only
    split
    · next h => exact statusPointNow_clock h
    · exact ⟨rfl, rfl⟩
  · unfold timeTick
    rw [if_pos hn, timerExpiry_eq hr]
    obtain ⟨d, time⟩ := cycleStartFor_time (s.time.cycle + 1) s.inputs (placePace (expiredTime s))
    rw [time]
    exact ⟨rfl, rfl⟩

theorem timeTick_leaves (hr : s.time.running = true) : (timeTick s).startup = s.startup
    ∧ (timeTick s).inputs = s.inputs ∧ (timeTick s).pending = s.pending := by
  have status : ∀ u : State, (statusPointNow u).startup = u.startup ∧ (statusPointNow u).inputs = u.inputs
      ∧ (statusPointNow u).pending = u.pending := fun u => by
    have f := statusPointNow_frame u
    exact ⟨f.1 .startup (by decide), f.1 .inputs (by decide), f.2⟩
  unfold timeTick
  split
  · have f := timerExpiry_frame s.inputs s
    rw [timerExpiry_eq hr] at f ⊢
    exact ⟨f.1 .startup (by decide), cycleStartFor_inputs _ _ _, f.2⟩
  · dsimp only
    split
    · exact status _
    · exact ⟨rfl, rfl, rfl⟩

end

end Sys2Proof.Machine

open Sys2Proof Sys2Proof.Machine

/-- Settles O12: the expiry sets line time, and its PACE stands through the moves of its cycle start; on an empty
queue the step is one unit. -/
theorem cycleStartAdvancesLineTime : Obligations.CycleStartAdvancesLineTime := by
  refine ⟨fun i s => ⟨timerExpiry i (begin s), rfl, fun hr => ?stopped, fun hr => ?expires⟩, fun s hp => ?unit⟩
  case stopped => exact if_neg (by rw [show (begin s).time.running = false from hr]; decide)
  case expires =>
    have f := execCycleStart_frame i s
    rw [timerExpiry_work hr] at f ⊢
    obtain ⟨d, time⟩ := work_time i s
    refine ⟨by rw [time], by rw [time], by rw [time]; exact hr, (cycleWork_inputs _).trans (fallen_inputs i s),
      cycleCame_work i s, f.1 .startup (by decide), f.1 .encoder (by decide), f.2, work_units i, fun ha hs => ?_,
      fun ha => (work_refused i ha).imp And.left id⟩
    exact (work_pace i ha hs).stays.imp (fun ⟨e, he, hp, _⟩ => ⟨e, he, hp⟩) fun h => h.imp And.left id
  case unit =>
    have exact : step s = .next (tick s) := by
      unfold step
      rw [hp]
    let u := sampleInputs s.inputs (elapse 1 (begin s))
    have m := sampleInputs_moves s.inputs (elapse 1 (begin s))
    have time : u.time = s.time := m.block .time (by decide)
    have startup : u.startup = s.startup := m.startup
    have inputs : u.inputs = s.inputs := sampleAfter_inputs _ _ _ _
    have pending : u.pending = [] :=
      ((m.frame (bs := [.inputs, .cab, .line, .alarms, .table, .ring, .drive, .walk, .share, .rope, .swing, .unit0, .unit1])
        (by decide)).2).trans hp
    have units : u.units = s.units := units_of_globals (globals_of_startup startup)
    obtain ⟨inputs', pending', globals, stands⟩ := startTick_leaves u
    have units' : (startTick u).units = s.units := (units_of_globals globals).trans units
    have ticked : tick s = if u.time.running then timeTick (startTick u) else startTick u := rfl
    have last : (tick s).startup = (startTick u).startup ∧ (tick s).inputs = (startTick u).inputs
        ∧ (tick s).pending = (startTick u).pending := by
      rw [ticked]
      split
      · next hr => exact timeTick_leaves (startTick_running hr)
      · exact ⟨rfl, rfl, rfl⟩
    have running : s.time.running = true → tick s = timeTick (startTick u) ∧ (startTick u).time = s.time := fun hr => by
      have hu : u.time.running = true := (congrArg LineTime.running time).trans hr
      exact ⟨ticked.trans (if_pos hu), (stands (.inl hu)).trans time⟩
    refine ⟨tick s, exact, last.2.2.trans (pending'.trans pending), last.2.1.trans (inputs'.trans inputs),
      fun hr hn => ?_, fun hr hn => ?_, fun hr hl => ?_, fun hl hn => last.1.trans ?_, fun hl hn => ?_,
      fun hh => last.1.trans ?_, fun hl hh => last.1.trans ?_⟩
    · obtain ⟨form, clock⟩ := running hr
      obtain ⟨next, -⟩ := timeTick_time (s := startTick u) (by rw [clock]; exact hr)
      rw [units', clock] at next
      rw [form]
      exact next hn
    · obtain ⟨form, clock⟩ := running hr
      obtain ⟨-, next⟩ := timeTick_time (s := startTick u) (by rw [clock]; exact hr)
      rw [units', clock] at next
      rw [form]
      exact next hn
    · have hu : u.time.running = false := (congrArg LineTime.running time).trans hr
      rw [ticked, if_neg (by rw [hu]; decide), stands (.inr (by rw [startup]; exact hl)), time]
    · rw [(startTick_listen (by rw [startup]; exact hl)).1 (by rw [startup, units]; exact hn), State.onStartup_startup,
        startup]
    · rw [last.1, (startTick_listen (by rw [startup]; exact hl)).2 (by rw [startup, units]; exact hn)]
      exact congrArg StartUp.state (join_startup _ _).1
    · rw [startTick_halted (by rw [startup]; exact hh), faultTick, State.onStartup_startup, startup]
      rfl
    · rw [startTick_other (by rw [startup]; exact hl) (by rw [startup]; exact hh), startup]

end

section
/-! PROOFS. A PACE at the line time unit (TABLE 2-1, R24, R25). -/

namespace Sys2Proof.Machine

section
variable {s : State}

theorem inStepPace_frame' (s : State) : Frame [.time, .line, .alarms, .table] s (inStepPace s) := by
  unfold inStepPace; dsimp only
  refine .ite ?_ ((onTime_frame s _).mono (by decide))
  exact ((onTime_frame s _).mono (by decide)).trans ((clearAlarm_warn_frame (c := .paceJump) rfl none _).mono (by decide))

theorem inStepPace_time (s : State) : (inStepPace s).time = { s.time with inStep := min 255 (s.time.inStep + 1) } := by
  unfold inStepPace; dsimp only
  split
  · exact (clearAlarm_frame _ _ _).1 .time (by decide)
  · rfl

/-- A PACE in step places ALARM bulletins alone. -/
theorem inStepPace_alarmLine (s : State) : AlarmLine s (inStepPace s) := by
  unfold inStepPace; dsimp only
  have timed : AlarmLine s (s.onTime fun t => { t with inStep := bump8 s.time.inStep }) := alarmLine_of_line rfl
  split
  · exact timed.trans (clearAlarm_alarmLine _ _ _)
  · exact timed

theorem paceJump_frame (c : DWord) (s : State) : Frame [.time, .line, .alarms, .table] s (paceJump c s) :=
  ((onTime_frame s _).mono (by decide)).trans ((raiseQuiet_frame _ _ _).mono (by decide))

theorem paceJump_time (c : DWord) (s : State) : (paceJump c s).time = { s.time with
    cycle := c, offset := 0, paceJumps := min 65535 (s.time.paceJumps + 1), inStep := 0 } :=
  (raiseQuiet_frame _ _ _).1 .time (by decide)

theorem paceJump_alarmLine (c : DWord) (s : State) : AlarmLine s (paceJump c s) :=
  (alarmLine_of_line rfl : AlarmLine s (s.onTime fun t =>
    { t with cycle := c, offset := 0, paceJumps := bump t.paceJumps, inStep := 0 })).trans (raiseQuiet_alarmLine _ _ _)

theorem AlarmLine.ackSlot {t : State} (h : AlarmLine s t) : t.line.ackSlot = s.line.ackSlot :=
  (h.lineSteps (b := true)).held.ackSlot

/-- The state in which the work of cycle `c`'s start begins. -/
def startedAt (c : DWord) (i : Inputs) (s : State) : State :=
  sampleInputs i (s.onTime fun t => { t with cycle := c, offset := 0, running := true, statusDone := false })

theorem cycleStartFor_eq (c : DWord) (i : Inputs) (s : State) : cycleStartFor c i s = cycleWork (startedAt c i s) := rfl

theorem startedAt_moves (c : DWord) (i : Inputs) (s : State) : Moves sampleTags
    (s.onTime fun t => { t with cycle := c, offset := 0, running := true, statusDone := false }) (startedAt c i s) :=
  sampleInputs_moves i _

/-- A cycle start leaves the acknowledge slot. -/
theorem cycleStartFor_ackSlot (c : DWord) (i : Inputs) (s : State) :
    (cycleStartFor c i s).line.ackSlot = s.line.ackSlot := by
  have m := (startedAt_moves c i s).lineSteps (b := true) fun _ _ _ => rfl
  have w := (cycleWork_moves (startedAt c i s)).lineSteps (b := true) fun _ _ _ => rfl
  rw [cycleStartFor_eq, w.held.ackSlot, m.held.ackSlot]
  rfl

/-- A cycle start has come, also where bulletins or the alarm list have changed before it. -/
theorem cycleCame_of {u t : State} (h : cycleCame u t) (hs : u.startup = s.startup) (hp : u.picture = s.picture)
    (hl : u.time.longCount = s.time.longCount) : cycleCame s t := by
  refine ⟨?_, ?_⟩
  · rw [h.1, hl, globals_of_startup hs]
  · rw [h.2, agedPeers, agedPeers, hp]

/-! ### The PACE handed to the line time unit -/

theorem withdrawPace_frame' (s : State) : Frame [.line] s (withdrawPace s) := onLine_frame s _

/-- The state in which a PACE is judged. -/
def paced (s : State) : State := withdrawPace (handed s)

theorem paced_frame (s : State) : Frame [.line] (begin s) (paced s) := (handed_frame s).trans (withdrawPace_frame' _)

theorem paced_startup (s : State) : (paced s).startup = s.startup := (paced_frame s).1 .startup (by decide)
theorem paced_time (s : State) : (paced s).time = s.time := (paced_frame s).1 .time (by decide)
theorem paced_picture (s : State) : (paced s).picture = s.picture := (paced_frame s).1 .picture (by decide)

theorem paced_ackSlot (s : State) : (paced s).line.ackSlot = (s.line.state == .active) := by
  unfold paced handed
  by_cases h : s.line.state = .active
  · rw [if_pos h, h]
    rfl
  · rw [if_neg h, beq_false_of_ne h]
    rfl

/-- A PACE that waits is withdrawn (R17). -/
theorem paced_queue (s : State) : ∀ x ∈ (paced s).line.queue, x.kind = .pace → x.inFlight = true := fun x hx hk => by
  have stays : (!(x.kind == .pace && !x.inFlight)) = true := (List.mem_filter.1 hx).2
  simpa [hk] using stays

theorem AlarmLine.noPace {t : State} (h : AlarmLine s t)
    (hs : ∀ x ∈ s.line.queue, x.kind = .pace → x.inFlight = true) :
    ∀ x ∈ t.line.queue, x.kind = .pace → x.inFlight = true :=
  h.keeps (Q := fun l => ∀ x ∈ l.queue, x.kind = .pace → x.inFlight = true)
    (fun e u _ he hu x hx hk => hu x (mem_enqueue_other hx (by rw [hk, he]; decide)) hk) hs

variable {b : Bulletin} {i : Inputs}

theorem takePace_running (hr : s.time.running = true) {c : DWord}
    (hc : dword (payloadWord b.words 0) (payloadWord b.words 1) = c) : takePace b i (handed s) =
    if stepError c s.time.cycle = -1 then inStepPace ((paced s).onTime fun t => { t with offset := 0 })
    else if stepError c s.time.cycle = 0 ∨ stepError c s.time.cycle = 1 then
      cycleStartFor c i (inStepPace ((paced s).onTime fun t => { t with cycle := c, offset := 0 }))
    else cycleStartFor c i (paceJump c (paced s)) := by
  subst hc
  have running : ¬ (!(paced s).time.running) = true := by rw [paced_time, hr]; decide
  rw [← paced_time s]
  exact if_neg running

theorem takePace_first (hr : s.time.running = false) (hl : s.startup.state = .listen) : takePace b i (handed s) =
    cycleStartFor (dword (payloadWord b.words 0) (payloadWord b.words 1)) i (paced s) := by
  have time : (!(paced s).time.running) = true := by rw [paced_time, hr]; rfl
  have state : (paced s).startup.state = .listen := by rw [paced_startup, hl]
  unfold takePace; dsimp only
  exact (if_pos time).trans (if_pos state)

/-- What the cycle start of a PACE leaves, with `n` in step and `j` jumps. -/
structure PaceStarts (c : DWord) (i : Inputs) (n j : Nat) (s t : State) : Prop where
  running : t.time.running = true
  offset : t.time.offset = 0
  cycle : t.time.cycle = c
  inStep : t.time.inStep = n
  paceJumps : t.time.paceJumps = j
  came : cycleCame s t
  inputs : t.inputs = i
  ackSlot : t.line.ackSlot = (s.line.state == .active)

theorem pace_starts {u : State} (c : DWord) (i : Inputs) (hf : Frame [.time, .line, .alarms, .table] (paced s) u)
    (hl : u.time.longCount = s.time.longCount) (hu : AlarmLine (paced s) u) :
    PaceStarts c i u.time.inStep u.time.paceJumps s (cycleStartFor c i u) := by
  obtain ⟨d, time⟩ := cycleStartFor_time c i u
  have startup : u.startup = s.startup := (hf.1 .startup (by decide) : u.startup = _).trans (paced_startup s)
  have picture : u.picture = s.picture := (hf.1 .picture (by decide) : u.picture = _).trans (paced_picture s)
  refine ⟨by rw [time], by rw [time], by rw [time], by rw [time], by rw [time],
    cycleCame_of (cycleStartFor_came c i u) startup picture hl, cycleStartFor_inputs _ _ _, ?_⟩
  rw [cycleStartFor_ackSlot, hu.ackSlot, paced_ackSlot]

/-- A PACE in step by 0 or 1 (TABLE 2-1). -/
theorem pace_advances (c : DWord) (i : Inputs) (s : State) : PaceStarts c i (min 255 (s.time.inStep + 1))
    s.time.paceJumps s
    (cycleStartFor c i (inStepPace ((paced s).onTime fun t => { t with cycle := c, offset := 0 }))) := by
  have h := pace_starts c i (((onTime_frame (paced s) fun t => { t with cycle := c, offset := 0 }).mono
      (by decide)).trans (inStepPace_frame' _)) (by rw [inStepPace_time, State.onTime_time, paced_time])
    ((alarmLine_of_line rfl : AlarmLine (paced s) ((paced s).onTime fun t =>
      { t with cycle := c, offset := 0 })).trans (inStepPace_alarmLine _))
  rwa [inStepPace_time, State.onTime_time, paced_time] at h

theorem pace_jumps (c : DWord) (i : Inputs) (s : State) :
    PaceStarts c i 0 (min 65535 (s.time.paceJumps + 1)) s (cycleStartFor c i (paceJump c (paced s))) := by
  have h := pace_starts c i (paceJump_frame c (paced s)) (by rw [paceJump_time, paced_time]) (paceJump_alarmLine c _)
  rwa [paceJump_time, paced_time] at h

theorem pace_first (c : DWord) (i : Inputs) (s : State) :
    PaceStarts c i s.time.inStep s.time.paceJumps s (cycleStartFor c i (paced s)) := by
  have h := pace_starts c i (.refl _ (paced s)) (by rw [paced_time]) (alarmLine_of_line rfl)
  rwa [paced_time] at h

/-- A PACE in step by −1 realigns the offset (TABLE 2-1). -/
theorem pace_realigns (s : State) :
    Frame [.time, .line, .alarms, .table] (paced s) (inStepPace ((paced s).onTime fun t => { t with offset := 0 }))
    ∧ AlarmLine (paced s) (inStepPace ((paced s).onTime fun t => { t with offset := 0 })) :=
  ⟨((onTime_frame _ _).mono (by decide)).trans (inStepPace_frame' _),
    (alarmLine_of_line rfl : AlarmLine (paced s) ((paced s).onTime fun t => { t with offset := 0 })).trans
      (inStepPace_alarmLine _)⟩

end

end Sys2Proof.Machine

open Sys2Proof Sys2Proof.Machine

/-- Settles O13: the four rows of TABLE 2-1, and the first PACE in LISTEN. -/
theorem paceSetsLineTime : Obligations.PaceSetsLineTime := by
  refine ⟨fun b i s hb hr => ⟨takePace b i (handed s), congrArg Host.Outcome.next (receive_reaches hb (takePace b i)), ?_⟩,
    fun b i s hb hl hr => ⟨takePace b i (handed s),
      congrArg Host.Outcome.next (receive_reaches (.inr hb) (takePace b i)), ?_⟩⟩
  · intro c e
    rw [takePace_running hr (rfl : _ = c)]
    clear_value c
    by_cases h1 : e = -1
    · obtain ⟨frame, placed⟩ := pace_realigns s
      have drive : (paced s).drive = s.drive := (paced_frame s).1 .drive (by decide)
      rw [if_pos h1, inStepPace_time, State.onTime_time, paced_time]
      exact ⟨hr, rfl, placed.ackSlot.trans (paced_ackSlot s), fun _ => ⟨rfl, rfl, rfl, rfl,
        (frame.1 .picture (by decide)).trans (paced_picture s), (frame.1 .drive (by decide)).trans drive,
        placed.noPace (paced_queue s)⟩, fun h => by omega, fun h => absurd h1 h, fun h => absurd h1 h⟩
    · rw [if_neg h1]
      by_cases h2 : e = 0 ∨ e = 1
      · have h := pace_advances c i s
        rw [if_pos h2]
        exact ⟨h.running, h.offset, h.ackSlot, fun h => absurd h h1, fun _ => ⟨h.cycle, h.inStep, h.paceJumps⟩,
          fun _ h0 h1 => (h2.elim h0 h1).elim, fun _ => ⟨h.came, h.inputs⟩⟩
      · have h := pace_jumps c i s
        rw [if_neg h2]
        exact ⟨h.running, h.offset, h.ackSlot, fun h => absurd h h1, fun h => absurd h h2,
          fun _ _ _ => ⟨h.cycle, h.inStep, h.paceJumps⟩, fun _ => ⟨h.came, h.inputs⟩⟩
  · have outside : (s.line.state == .active) = false := by
      rcases hb.listens with h | h <;> rw [h] <;> rfl
    have h := pace_first (dword (payloadWord b.words 0) (payloadWord b.words 1)) i s
    rw [takePace_first hr hl]
    exact ⟨h.running, h.offset, h.cycle, h.paceJumps, h.inStep, h.ackSlot.trans outside, h.came, h.inputs⟩

end

section
/-! PROOFS. The join: its quarantine and STATION STARTED (R97, R190). -/

namespace Sys2Proof.Machine

/-! ### What a move leaves of the share unit -/

section
variable {s t : State}

theorem enqueue_share {e : Entry} {a : Admission} (h : enqueue e s = (t, a)) : t.share = s.share :=
  (enqueue_eq_frame h).1 .share (by decide)

theorem tellLender_form (e : Entry) (s : State) : ∃ n, (tellLender e s).share = { s.share with promised := n } := by
  unfold tellLender
  split
  · exact ⟨_, rfl⟩
  · exact ⟨s.share.promised, rfl⟩

theorem placeTold_form (e : Entry) (s : State) : ∃ n, (placeTold e s).share = { s.share with promised := n } := by
  unfold placeTold
  split
  · next x he =>
    obtain ⟨n, hn⟩ := tellLender_form _ _
    exact ⟨n, hn.trans (by rw [enqueue_share he])⟩
  · next he => exact ⟨s.share.promised, enqueue_share he⟩

theorem placeGrant_form (peer k : Nat) (s : State) :
    ∃ g n, (placeGrant peer k s).1.share = { s.share with grantNumber := g, promised := n } := by
  unfold placeGrant; dsimp only
  split
  · next he => exact ⟨_, s.share.promised, (enqueue_share he).trans rfl⟩
  · next he =>
    refine ⟨s.share.grantNumber + 1, s.share.promised + k, ?_⟩
    rw [State.onShare_share, enqueue_share he]
    rfl

/-- A fresh station without tokens or loans (R97). -/
structure NoTokens (h : Share) : Prop where
  fresh : h.fresh = true
  own : h.own = 0
  borrowed : h.borrowed = 0
  lent : h.lent = 0
  lentRecords : h.lentRecords = []
  borrowedRecords : h.borrowedRecords = []

/-- A station stays without tokens up to the end of its quarantine. -/
theorem Move.noTokens {g : Tag} (m : Move g s t) (hg : g ≠ .endQuarantine) (h : NoTokens s.share) : NoTokens t.share := by
  have promised : ∀ {u : State}, (∃ n, u.share = { s.share with promised := n }) → NoTokens u.share := fun ⟨_, hu⟩ => by
    rw [hu]
    exact ⟨h.1, h.2, h.3, h.4, h.5, h.6⟩
  by_cases hb : Block.share ∈ g.blocks
  · cases m with
    | place e => exact promised (placeTold_form e s)
    | tell e => exact promised (tellLender_form e s)
    | grant peer k =>
      obtain ⟨g, n, hu⟩ := placeGrant_form peer k s
      rw [hu]
      exact ⟨h.1, h.2, h.3, h.4, h.5, h.6⟩
    | share p f _ hf => cases p <;> rw [State.onShare_share, hf] <;> exact ⟨h.1, h.2, h.3, h.4, h.5, h.6⟩
    | failReturn peer ret =>
      have none : Machine.failReturn peer ret s.share = s.share := by
        unfold Machine.failReturn
        rw [h.borrowedRecords]
        rfl
      rw [State.onShare_share, none]
      exact h
    | markLoans f => exact ⟨h.1, h.2, h.3, h.4, h.5, congrArg (List.map f) h.6⟩
    | termOut r =>
      exact ⟨h.1, h.2, by rw [State.onShare_share, h.3]; exact Nat.zero_sub _, h.4, h.5, congrArg (List.filter _) h.6⟩
    | lentTerms =>
      rw [State.onShare_share]
      unfold Machine.tickLent
      rw [h.lentRecords, h.own, h.lent]
      exact ⟨h.1, rfl, h.3, rfl, rfl, h.6⟩
    | endQuarantine => exact absurd rfl hg
    | _ => exact absurd hb (by simp [Tag.blocks])
  · rw [m.frame.1 .share hb]
    exact h

theorem Moves.noTokens {gs : List Tag} (m : Moves gs s t) (hg : gs.all (· != .endQuarantine) = true)
    (h : NoTokens s.share) : NoTokens t.share :=
  m.keeps (P := fun u => NoTokens u.share) (fun g hm _ _ m h =>
    m.noTokens (bne_iff_ne.1 (List.all_eq_true.1 hg g hm)) h) h

/-- Only the long cycle counts the quarantine. -/
theorem Move.quarantine {g : Tag} (m : Move g s t) (hg : g ≠ .share .quarantine) :
    t.share.quarantine = s.share.quarantine := by
  by_cases hb : Block.share ∈ g.blocks
  · cases m with
    | place e => obtain ⟨n, hu⟩ := placeTold_form e s; rw [hu]
    | tell e => obtain ⟨n, hu⟩ := tellLender_form e s; rw [hu]
    | grant peer k => obtain ⟨g, n, hu⟩ := placeGrant_form peer k s; rw [hu]
    | share p f _ hf =>
      cases p with
      | quarantine => exact absurd rfl hg
      | _ => rw [State.onShare_share, hf]
    | failReturn peer ret =>
      rw [State.onShare_share]
      unfold Machine.failReturn
      split
      · rfl
      · split <;> rfl
    | markLoans | termOut | lentTerms | endQuarantine => rfl
    | _ => exact absurd hb (by simp [Tag.blocks])
  · rw [m.frame.1 .share hb]

theorem Moves.quarantine {gs : List Tag} (m : Moves gs s t) (hg : gs.all (· != .share .quarantine) = true) :
    t.share.quarantine = s.share.quarantine :=
  m.same (f := fun u => u.share.quarantine) fun g hm _ _ m => m.quarantine (bne_iff_ne.1 (List.all_eq_true.1 hg g hm))

/-! ### ACTIVE stays through a cycle start -/

theorem Moves.active {gs : List Tag} (m : Moves gs s t) (h : s.line.state = .active) : t.line.state = .active := by
  refine (m.lineSteps (b := true) fun _ _ _ => rfl).keeps (Q := fun l => l.state = .active) (fun l l' a hl => ?_) h
  cases a with
  | placed e u _ => exact (enqueue_line_state e u).trans hl
  | field p _ _ hp => cases p <;> rw [hp] <;> exact hl
  | rejoin _ _ _ hf => rw [hl] at hf; cases hf
  | counted | requeued | queries => exact hl

/-! ### The quarantine at its first cycle start (R97, R98) -/

theorem quarantineStep_early (h : NoTokens s.share) (hq : s.share.quarantine = 0) :
    NoTokens (quarantineStep s).share := by
  unfold quarantineStep; dsimp only
  rw [if_neg]
  · exact ⟨h.1, h.2, h.3, h.4, h.5, h.6⟩
  · intro hc
    have early : s.globals.loanTerm + 2 ≤ min 257 (s.share.quarantine + 1) := hc.2
    omega

/-- A cycle start at which the quarantine begins leaves the station fresh and without tokens. -/
theorem cycleWork_noTokens (h : NoTokens s.share) (hq : s.share.quarantine = 0) : NoTokens (cycleWork s).share := by
  have short := (shortCounts_moves s).noTokens (by decide) h
  have count : (shortCounts s).share.quarantine = 0 := ((shortCounts_moves s).quarantine (by decide)).trans hq
  have counts : NoTokens (cycleCounts s).share := by
    rw [cycleCounts_eq]
    split
    · have long : NoTokens (shareLongCycle (shortCounts s)).share := by
        have terms : Moves (termTags ++ [.lentTerms, .note .loanGraceEnd]) (shortCounts s)
            (lentTerms (borrowedTerms (shortCounts s))) := by
          refine ((borrowedTerms_moves _).mono (by decide)).trans ?_
          rw [lentTerms_eq]
          have tick := (Move.lentTerms (borrowedTerms (shortCounts s))).moves
            (gs := termTags ++ [.lentTerms, .note .loanGraceEnd]) (by decide)
          exact .ite (fun _ => tick.trans ((Move.note _ _).moves (by decide))) fun _ => tick
        unfold shareLongCycle
        split
        · exact quarantineStep_early (terms.noTokens (by decide) short) ((terms.quarantine (by decide)).trans count)
        · exact short
      exact ((((refreshRound_moves _).mono (by decide)).trans (tableLongCycle_moves _)).trans
        ((Move.note _ _).moves (by decide))).noTokens
        (by decide) long
    · exact short
  exact (afterCounts_moves s).noTokens (by
    simp only [countsOnTags, ringOnTags, chainOnTags, chainTags, List.all_append]
    decide) counts

/-! ### STATION STARTED -/

/-- The alarm list as the join finds it empty: STATION STARTED alone, the station TRIPPED (R97, R173). -/
theorem raise_stationStarted (hj : s.joined = true) (hl : s.alarms.list = []) :
    (raise .stationStarted none s).alarms.mode = .tripped
    ∧ Sole (freshRecord .stationStarted none s.now) (raise .stationStarted none s).alarms.list := by
  have habs : ∀ r ∈ s.alarms.list, r.code ≠ .stationStarted := by rw [hl]; exact fun _ h => nomatch h
  have room : s.alarms.list.length < 24 := by rw [hl]; decide
  have severity : AlarmCode.stationStarted.severity ≠ .warn := by decide
  have other : ∀ g ∈ tripTags, g.touches .stationStarted = false := by decide
  have beside := raise_beside .stationStarted none s
  refine ⟨?_, beside.sole (r := freshRecord .stationStarted none s.now) other ⟨rfl, severity⟩
    (sole_raiseRecord hj room habs none)⟩
  have record := raiseRecord_absent (c := .stationStarted) (d := none) hj
    (find?_absent fun r hr hk => habs r hr (congrArg Prod.fst hk))
  rw [enterRecord_room room] at record
  unfold raise; dsimp only
  rw [record]
  dsimp only
  rw [if_pos ⟨by decide, by decide⟩, if_neg (by decide)]
  exact (placeTrip_moves _ _ _ _).tripped (enterTripped_mode _)

variable {i : Inputs}

theorem joinEntry_entry (i : Inputs) (s : State) : (joinEntry i s).joined = true ∧ NoTokens (joinEntry i s).share
    ∧ (joinEntry i s).share.quarantine = 0 ∧ (joinEntry i s).alarms = s.alarms
    ∧ (joinEntry i s).line.state = .active ∧ (s.time.running = true → (joinEntry i s).time = s.time) := by
  unfold joinEntry; dsimp only
  split
  · exact ⟨rfl, ⟨rfl, rfl, rfl, rfl, rfl, rfl⟩, rfl, rfl, rfl, fun _ => rfl⟩
  · next h => exact ⟨rfl, ⟨rfl, rfl, rfl, rfl, rfl, rfl⟩, rfl, rfl, rfl, fun hr => absurd hr h⟩

/-- What the join leaves before a cycle start of its own (R97, R190). -/
theorem joinDone_begun (i : Inputs) (hl : s.alarms.list = []) : (joinDone i s).line.state = .active
    ∧ NoTokens (joinDone i s).share ∧ (joinDone i s).share.quarantine = 0 ∧ (joinDone i s).alarms.mode = .tripped
    ∧ freshRecord .stationStarted none (joinEntry i s).now ∈ (joinDone i s).alarms.list := by
  obtain ⟨joined, tokens, count, alarms, active, -⟩ := joinEntry_entry i s
  obtain ⟨mode, record⟩ := raise_stationStarted (s := joinEntry i s) joined (by rw [alarms]; exact hl)
  have m1 := joinBegun_moves i s
  have held : Moves heldTags (raise .stationStarted none (joinEntry i s)) (joinBegun i s) :=
    (((settle_joins _).trans (heldRaises_moves _)).trans (settle_joins _)).trans (beginAxes_moves _)
  have m2 := emergencySample_moves (watchOwned (joinBegun i s))
  have watched := watchOwned_frame (joinBegun i s)
  have share : (watchOwned (joinBegun i s)).share = (joinBegun i s).share := watched.1 .share (by decide)
  have alarms' : (watchOwned (joinBegun i s)).alarms = (joinBegun i s).alarms := watched.1 .alarms (by decide)
  have line : (watchOwned (joinBegun i s)).line = (joinBegun i s).line := watched.1 .line (by decide)
  have severity : AlarmCode.stationStarted.severity ≠ .warn := by decide
  have other : ∀ g ∈ heldTags, g.touches .stationStarted = false := by decide
  have other' : ∀ g ∈ Tag.cab .emergency :: .raised .operatorStop :: .cleared .operatorStop :: tripTags,
      g.touches .stationStarted = false := by decide
  rw [joinDone_eq]
  refine ⟨m2.active (by rw [line]; exact m1.active active), m2.noTokens (by decide) (by
    rw [share]; exact m1.noTokens (by decide) tokens), (m2.quarantine (by decide)).trans (by
    rw [share, m1.quarantine (by decide), count]), m2.tripped (by rw [alarms']; exact held.tripped mode), ?_⟩
  exact (m2.sole (r := freshRecord .stationStarted none (joinEntry i s).now) other' ⟨rfl, severity⟩ (by
    rw [alarms']
    exact held.sole (r := freshRecord .stationStarted none (joinEntry i s).now) other ⟨rfl, severity⟩ record)).1

end

end Sys2Proof.Machine

open Sys2Proof Sys2Proof.Machine

/-- Settles O9: the join's own steps, and where its timer stood still the cycle start of cycle 0. -/
theorem joinEntersQuarantine : Obligations.JoinEntersQuarantine := by
  intro i s hs hl
  let u := (begin s).onStartup fun x => { x with listenTimer := 2 * (begin s).units }
  have exact : exec (.listenTimerExpiry i) s = .next (join i u) := congrArg Host.Outcome.next (if_pos hs)
  have state : (join i u).startup.state = .joined := congrArg StartUp.state (join_startup i u).1
  obtain ⟨active, tokens, count, mode, record⟩ := joinDone_begun (s := u) i hl
  refine ⟨join i u, exact, state, ?_⟩
  by_cases hr : s.time.running = true
  · have form : join i u = joinDone i u := by rw [join_eq, if_neg (by rw [show u.time.running = true from hr]; decide)]
    have time : (joinDone i u).time = s.time := joinDone_time i (s := u) hr
    have now : (joinEntry i u).now = s.now := by
      rw [State.now, (joinEntry_entry i u).2.2.2.2.2 hr]
      rfl
    rw [form, time]
    exact ⟨active, hr, tokens.fresh, tokens.own, fun _ => ⟨mode, tokens.borrowed, tokens.lent, count, rfl, rfl,
      ⟨_, record, rfl, rfl, rfl, now⟩⟩, fun hf => absurd (hr.symm.trans hf) (by decide)⟩
  · have form : join i u = cycleStartFor 0 i (settle (joinDone i u)) := by
      rw [join_eq, if_pos (by rw [show u.time.running = s.time.running from rfl]; simpa using hr)]
    obtain ⟨d, time⟩ := cycleStartFor_time 0 i (settle (joinDone i u))
    have still : ∀ v : State, NoTokens v.share → v.share.quarantine = 0 → v.line.state = .active →
        NoTokens (cycleWork (startedAt 0 i (settle v))).share
          ∧ (cycleWork (startedAt 0 i (settle v))).line.state = .active := fun v ht hq ha => by
      have m := startedAt_moves 0 i (settle v)
      exact ⟨cycleWork_noTokens (m.noTokens (by decide) ht) ((m.quarantine (by decide)).trans hq),
        (cycleWork_moves _).active (m.active ha)⟩
    obtain ⟨tokens', active'⟩ := still _ tokens count active
    rw [← cycleStartFor_eq] at tokens' active'
    rw [form, time]
    exact ⟨active', rfl, tokens'.fresh, tokens'.own, fun h => absurd h hr, fun _ => ⟨rfl, rfl⟩⟩

end

section
/-! PROOFS. The query queue and its REPLY (R18, R49). -/

namespace Sys2Proof.Machine

section
variable {s t : State} {q : Query} {rest : List Query}

/-- Only the answered query leaves the query queue. -/
theorem Move.queriesStand {g : Tag} (m : Move g s t) (hg : g ≠ .queries) : t.line.queries = s.line.queries := by
  have steps := m.lineSteps (b := g.ofLine) id
  cases g with
  | queries => exact absurd rfl hg
  | line p =>
    cases m with
    | line _ f _ h => cases p <;> rw [State.onLine_line, h]
  | rejoin =>
    cases m with
    | rejoin => rfl
  | _ =>
    obtain ⟨_, _, h⟩ := steps.queueOnly
    rw [h]

theorem Moves.queriesStand {gs : List Tag} (m : Moves gs s t) (hg : gs.all (· != .queries) = true) :
    t.line.queries = s.line.queries :=
  m.same (f := fun u => u.line.queries) fun g hm _ _ m => m.queriesStand (bne_iff_ne.1 (List.all_eq_true.1 hg g hm))

/-- The REPLY to a query, as it is placed. -/
def replyEntry (s : State) (q : Query) : Entry :=
  { kind := .reply, target := q.tag.setWidth 4, words := replyWords s q }

/-- A REPLY reads neither the transmit queue nor the query queue. -/
theorem replyWords_onLine (s : State) (f : List Entry) (g : List Query) (q : Query) :
    replyWords (s.onLine fun l => { l with queue := f, queries := g }) q = replyWords s q := rfl

theorem replaceElders_reply (s : State) (q : Query) : replaceElders (replyEntry s q).kind s = s := rfl

/-- Nothing stands in a class above a REPLY's: a full queue refuses it (R16, R18). -/
theorem enqueue_reply (ha : s.line.state = .active) (q : Query) :
    (hasSpace s → enqueue (replyEntry s q) s =
      (s.onLine fun l => { l with queue := standIn (replyEntry s q).ranked l.queue }, .admitted))
    ∧ (¬ hasSpace s → enqueue (replyEntry s q) s = (s.countRefused, .refused)) := by
  rw [enqueue_general ha (.inl (by simp [replyEntry])), replaceElders_reply]
  have top : ∀ k : Kind, k.cls ≤ Kind.cls .reply := fun k => by cases k <;> decide
  exact ⟨fun h => admitGeneral_space h, fun h => admitGeneral_refuses h fun x _ _ _ => top x.kind⟩

theorem answerQuery_none (h : s.line.queries = []) : answerQuery s = s := by
  unfold answerQuery
  rw [h]

theorem answerQuery_answers (ha : s.line.state = .active) (hs : hasSpace s) (h : s.line.queries = q :: rest) :
    answerQuery s = s.onLine fun l => { l with queue := standIn (replyEntry s q).ranked l.queue, queries := rest } := by
  unfold answerQuery
  rw [h]
  dsimp only
  rw [show enqueue { kind := .reply, target := q.tag.setWidth 4, words := replyWords s q } s = _ from (enqueue_reply ha q).1 hs]
  rfl

theorem answerQuery_waits (ha : s.line.state = .active) (hs : ¬ hasSpace s) (h : s.line.queries = q :: rest) :
    answerQuery s = s.countRefused := by
  unfold answerQuery
  rw [h]
  dsimp only
  rw [show enqueue { kind := .reply, target := q.tag.setWidth 4, words := replyWords s q } s = _ from (enqueue_reply ha q).2 hs]

/-- The first word of a REPLY echoes the query (R49). -/
theorem replyWords_head (s : State) (q : Query) : (replyWords s q).length = 6
    ∧ (q.item < 16 → wordField (payloadWord (replyWords s q) 0) 0 4 = q.item)
    ∧ (q.part < 4 → wordField (payloadWord (replyWords s q) 0) 4 2 = q.part)
    ∧ (q.index < 256 → wordField (payloadWord (replyWords s q) 0) 8 8 = q.index) := by
  have head : ∀ (a b : Bool) (ws : List Word), payloadWord (packWord [(4, q.item), (2, q.part), (1, a.toNat), (1, b.toNat),
      (8, q.index)] :: ws) 0 = packWord [(4, q.item), (2, q.part), (1, a.toNat), (1, b.toNat), (8, q.index)] := fun _ _ _ => rfl
  have echo : ∀ (a b : Bool) (ws : List Word),
      (q.item < 16 → wordField (payloadWord (packWord [(4, q.item), (2, q.part), (1, a.toNat), (1, b.toNat),
        (8, q.index)] :: ws) 0) 0 4 = q.item)
      ∧ (q.part < 4 → wordField (payloadWord (packWord [(4, q.item), (2, q.part), (1, a.toNat), (1, b.toNat),
        (8, q.index)] :: ws) 0) 4 2 = q.part)
      ∧ (q.index < 256 → wordField (payloadWord (packWord [(4, q.item), (2, q.part), (1, a.toNat), (1, b.toNat),
        (8, q.index)] :: ws) 0) 8 8 = q.index) := fun a b ws => by
    rw [head]
    exact ⟨fun h => wordField_of_lt 0 rfl rfl rfl h, fun h => wordField_of_lt 1 rfl rfl rfl h,
      fun h => wordField_of_lt 4 rfl rfl rfl h⟩
  unfold replyWords; dsimp only
  split
  · exact ⟨by simp, echo true false _⟩
  · exact ⟨by simp, echo false _ _⟩

end

end Sys2Proof.Machine

open Sys2Proof Sys2Proof.Machine

/-- Settles O40: the query queue stands up to `answerQuery`, and no status point follows it. -/
theorem queryQueuedAndAnswered : Obligations.QueryQueuedAndAnswered := by
  refine ⟨fun b s hb => ?taken, fun q rest i s hr ha hq hO => ?cycle,
    fun q s ha hs => ⟨answerQuery_none, fun rest hq => ?answer⟩⟩
  case taken =>
    exact ⟨takeQuery b (taken s), congrArg Host.Outcome.next (receive_taken hb (takeQuery b)), rfl,
      (taken_frame s).trans (onLine_frame _ _)⟩
  case cycle =>
    have early : Moves (fallTags ++ (countsTags ++ controlTags)) (ticked s) (shared (fallen i s)) :=
      ((fallen_moves i s).mono fun _ h => by simp [h]).trans
        (((cycleCounts_moves _).mono fun _ h => by simp [h]).trans ((cycleControl_moves _).mono fun _ h => by simp [h]))
    have queries : (shared (fallen i s)).line.queries = q :: rest := (early.queriesStand (by
      simp only [controlTags, chainTags, List.all_append]
      decide)).trans hq
    have active : (shared (fallen i s)).line.state = .active := early.active ha
    have offset : (answered (fallen i s)).statusOffset ≠ 0 := by
      have startup : (answered (fallen i s)).startup = s.startup :=
        ((answerQuery_moves _).startup.trans early.startup).trans rfl
      rw [State.statusOffset, globals_of_startup startup]
      exact hO
    have whole : cycleWork (fallen i s) = answerQuery (shared (fallen i s)) := by
      rw [cycleWork_eq, statusPointAtStart, if_neg offset]
      rfl
    refine ⟨_, exec_cycleStart hr, ?_⟩
    rw [whole]
    generalize shared (fallen i s) = v at queries active
    by_cases hs : hasSpace v
    · rw [answerQuery_answers active hs queries]
      refine ⟨.inl rfl, fun _ => ⟨_, mem_standIn.2 (.inl rfl), rfl, rfl, ?_, rfl, rfl⟩⟩
      exact (replyWords_onLine v _ _ q).symm
    · rw [answerQuery_waits active hs queries]
      have stands : v.countRefused.line.queries = v.line.queries := rfl
      rw [stands, queries]
      exact ⟨.inr ⟨rfl, hs⟩, fun h => absurd h (by simp)⟩
  case answer =>
    rw [answerQuery_answers ha hs hq]
    obtain ⟨length, echo⟩ := replyWords_head s q
    exact ⟨rfl, onLine_frame s _, _, mem_standIn.2 (.inl rfl), rfl, rfl, rfl, length, echo⟩

end

section
/-! PROOFS. Motion and its conditions: what the outputs of a cycle start were formed under (R120, R139 to R141, R161). -/

namespace Sys2Proof.Machine

/-! ### The limits in force -/

section
variable {s t : State}

theorem spansRest_default : Bounds.spansRest {} := by
  unfold Bounds.spansRest
  decide

theorem spansRest_creepBoth (n lo hi : Nat) : Bounds.spansRest (creepBoth n)
    ∧ Bounds.spansRest { creepBoth n with targetLo := lo, targetHi := hi } := by
  unfold Bounds.spansRest creepBoth
  simp

theorem spansRest_axisBounds (s : State) : (axisBounds s).spansRest := by
  have rope : (ropeBounds s).spansRest := by
    unfold ropeBounds
    refine spansRest_meet (spansRest_meet (spansRest_meet (spansRest_meet ?_ ?_) ?_) ?_) (spansRest_meet ?_ ?_)
    · exact spansRest_boundIf _ (spansRest_hard _ _).1
    · exact spansRest_boundIf _ (spansRest_hard _ _).2
    all_goals exact spansRest_boundIf _ (spansRest_hard _ _).1
  unfold axisBounds
  split
  · exact rope
  · exact rope
  · unfold swingBounds swingRefusalBounds
    exact spansRest_meet (spansRest_boundIf _ (spansRest_hard _ _).1) (spansRest_meet
      (spansRest_boundIf _ (spansRest_creepBoth _ 0 0).1) (spansRest_boundIf _ (spansRest_creepBoth _ 0 0).2))
  · unfold walkBounds
    split
    · exact spansRest_default
    · exact ⟨le_rfl, le_rfl⟩
  · exact spansRest_default
  · exact spansRest_default

/-- A value that the stages after the hard bounds form lies within them, since each of them only lessens a magnitude. -/
def Bounds.Holds (b : Bounds) (x : Int) : Prop := b.hardLo ≤ x ∧ x ≤ b.hardHi

theorem Bounds.spansRest.holds {b : Bounds} (h : b.spansRest) : b.Holds 0 := h

theorem Bounds.Holds.factor {b : Bounds} {x : Int} {k : Nat} (h : b.Holds x) (hs : b.spansRest) (hk : k ≤ 1000) :
    b.Holds (applyFactor x k) := by
  have magnitude : (applyFactor x k).natAbs ≤ x.natAbs := by
    rw [applyFactor, scaleTrunc, Int.natAbs_tdiv, Int.natAbs_mul]
    exact Nat.div_le_of_le_mul (by rw [Nat.mul_comm]; exact Nat.mul_le_mul_right _ hk)
  have sign : (0 ≤ x → 0 ≤ applyFactor x k) ∧ (x ≤ 0 → applyFactor x k ≤ 0) := by
    rw [applyFactor, scaleTrunc]
    refine ⟨fun hx => Int.tdiv_nonneg (Int.mul_nonneg hx (Int.natCast_nonneg k)) (by decide), fun hx => ?_⟩
    rw [← Int.neg_neg (x * k), Int.neg_tdiv]
    have opposite : 0 ≤ -(x * k) := by
      rw [← Int.neg_mul]
      exact Int.mul_nonneg (by omega) (Int.natCast_nonneg k)
    exact Int.neg_nonpos_of_nonneg (Int.tdiv_nonneg opposite (by decide))
  unfold Bounds.Holds Bounds.spansRest at *
  omega

theorem holds_stageHard {b : Bounds} (hs : b.spansRest) (u : Int) : b.Holds (stageHard b u) := by
  unfold Bounds.Holds Bounds.spansRest stageHard clampInt at *
  split
  · omega
  · split <;> omega

theorem holds_afterRamp {b : Bounds} (hs : b.spansRest) (u : Int) : b.Holds (afterRamp s b u) := by
  unfold afterRamp; dsimp only
  split
  · unfold zoneStop
    split
    · exact hs
    · exact holds_stageHard hs u
  · exact holds_stageHard hs u

theorem holds_finalOutput {b : Bounds} (hs : b.spansRest) (x : Int) : b.Holds (finalOutput s b x) := by
  have before : b.Holds (beforeStall s b x) := (holds_afterRamp hs _).factor hs (ceilingFactor_le _ _ _)
  unfold finalOutput
  split
  · unfold stageStall
    split
    · exact before.factor hs (stallFactor_le _ _ _)
    · exact before
  · exact hs

/-! ### The output formed, and what follows it -/

/-- The state in which stages 3 to 8 of the chain read their limits. -/
def judged (s : State) : State := axisJudge (chainTarget (chainInputs s))

/-- The final output formed. -/
def outputFormed (u : State) : State :=
  let f := finalOutput u (axisBounds u) u.drive.postTarget
  u.onDrive fun d => { d with f, fieldWord := fieldWordOf f }

theorem judged_moves (s : State) : Moves (inputsTags ++ (targetTags ++ judgeTags)) s (judged s) :=
  ((chainInputs_moves s).mono fun _ h => by simp [h]).trans
    (((chainTarget_moves _).mono fun _ h => by simp [h]).trans ((axisJudge_moves _).mono fun _ h => by simp [h]))

/-- Steps 4 and 5 of R78, on the output formed. -/
def staged (u : State) : State := driveOutputs (brakeLogic (brakeTarget (chainStages u)) (chainStages u))

theorem chainCycle_staged (h : (s.joined && s.role.isAxis) = true) : chainCycle s = chainAfter (staged (judged s)) :=
  if_pos h

theorem chainStages_formed (u : State) : Moves stallTags (outputFormed u) (chainStages u) := countStall_moves _ _

theorem staged_moves (hj : s.joined = true) (ha : s.role.isAxis = true) :
    Moves (stallTags ++ outputsTags) (outputFormed s) (staged s) := by
  have held := chainStages_formed s
  have startup : (chainStages s).startup = s.startup := held.startup
  have j : (chainStages s).joined = true := by rw [joined_of_startup startup, hj]
  have a : (chainStages s).role.isAxis = true := by rw [role_of_startup startup, ha]
  unfold staged
  generalize chainStages s = v at held j a ⊢
  have logic := brakeLogic_moves j a (brakeTarget v)
  have link := (Move.linkFrame _ (logic.joined.trans j) (logic.role ▸ a)).moves (gs := outputsTags) (by decide)
  exact (held.mono fun _ h => List.mem_append_left _ h).trans ((logic.trans link).mono fun _ h => List.mem_append_right _ h)

/-- The moves of a cycle start that follow the final output. -/
def restTags : List Tag := stallTags ++ outputsTags ++ afterTags ++ lateTags

theorem rest_moves (hj : s.joined = true) (ha : s.role.isAxis = true) (late : Moves lateTags (chainCycle s) t) :
    Moves restTags (outputFormed (judged s)) t := by
  rw [chainCycle_staged (by rw [hj, ha]; rfl)] at late
  have m := judged_moves s
  have j : (judged s).joined = true := by rw [m.joined, hj]
  have a : (judged s).role.isAxis = true := by rw [m.role, ha]
  clear m
  generalize judged s = u at late j a ⊢
  have formed := staged_moves j a
  generalize staged u = v at late formed
  exact ((formed.mono fun _ h => List.mem_append_left _ (List.mem_append_left _ h)).trans
    ((chainAfter_moves v).mono fun _ h => List.mem_append_left _ (List.mem_append_right _ h))).trans
      (late.mono fun _ h => List.mem_append_right _ h)

/-- A change of the owned hook leaves the output or takes it to 0. -/
theorem watchOwned_output (s : State) : (watchOwned s).drive.f = s.drive.f ∨ (watchOwned s).drive.f = 0 := by
  unfold watchOwned; dsimp only
  split
  · exact .inr rfl
  · exact .inl rfl

/-- Only the stages form an output; every other move leaves it or takes it to 0. -/
theorem Move.f_stands {g : Tag} (m : Move g s t) (h : g ≠ .output) : t.drive.f = s.drive.f ∨ t.drive.f = 0 := by
  by_cases hb : Block.drive ∈ g.blocks
  · cases m with
    | inputs i => exact watchOwned_output _
    | own w => exact watchOwned_output _
    | reclaim =>
      have armed : (setRearm (s.onRope fun r => { r with ownership := .reclaiming })).drive.f = s.drive.f :=
        congrArg Drive.f ((setRearm_frame _).1 .drive (by decide))
      exact armed ▸ watchOwned_output _
    | walkTo w =>
      have asked : Frame [.line] s (if s.walk.state = .asking then muteEntries .xferAsk s else s) :=
        .ite (muteEntries_frame _ s) (.refl _ s)
      rcases watchOwned_output (((if s.walk.state = .asking then muteEntries .xferAsk s else s)).onWalk fun k =>
        { k with state := w, stateCount := 0 }) with h | h
      · exact .inl (h.trans (congrArg Drive.f (asked.1 .drive (by decide))))
      · exact .inr h
    | trip =>
      unfold driveTripped
      split
      · exact .inr rfl
      · exact .inl rfl
    | drive p x _ ho => exact .inl (p.outputs ho).1
    | output => exact absurd rfl h
    | brake | linkFrame => exact .inl rfl
    | _ => exact absurd hb (by simp [Tag.blocks])
  · exact .inl (congrArg Drive.f (m.frame.1 .drive hb))

theorem Moves.f_stands {gs : List Tag} (m : Moves gs s t) (h : Tag.output ∉ gs) :
    t.drive.f = s.drive.f ∨ t.drive.f = 0 := by
  induction m with
  | refl => exact .inl rfl
  | tail _ hlast ih =>
    obtain ⟨g, hg, m⟩ := hlast
    rcases m.f_stands fun he => h (he ▸ hg) with h | h
    · rw [h]; exact ih
    · exact .inr h

/-- A walk state that owns the motors goes only to another such. -/
def Tag.keepsOwning : Tag → Bool
  | .walkTo v w => !v.owns || w.owns
  | _ => true

theorem Move.owning {g : Tag} (m : Move g s t) (hg : g.keepsOwning = true) (h : s.walk.state.owns = true) :
    t.walk.state.owns = true := by
  by_cases hb : Block.walk ∈ g.blocks
  · cases m with
    | walkTo w =>
      rw [setWalkState_walk]
      simpa [Tag.keepsOwning, h] using hg
    | walk p x _ ho => exact (congrArg WalkState.owns (p.state ho).1).trans h
    | coil => exact h
    | _ => exact absurd hb (by simp [Tag.blocks])
  · rw [show t.walk = s.walk from m.frame.1 .walk hb]; exact h

theorem Moves.owning {gs : List Tag} (m : Moves gs s t) (hg : gs.all Tag.keepsOwning = true)
    (h : s.walk.state.owns = true) : t.walk.state.owns = true := by
  induction m with
  | refl => exact h
  | tail _ hlast ih =>
    obtain ⟨g, hm, m⟩ := hlast
    exact m.owning (List.all_eq_true.1 hg g hm) ih

theorem walkOwning_eq (s : State) : walkOwning s = s.walk.state.owns := by
  unfold walkOwning
  cases s.walk.state <;> rfl

/-! ### Conditions read from the picture and the inputs -/

theorem roleRecord_congr (hu : t.startup = s.startup) (hp : t.picture.peers = s.picture.peers) (r : Role) :
    t.roleRecord r = s.roleRecord r := by
  simp only [State.roleRecord, State.numberOf, State.entryOf, State.peer, hu, hp]

theorem roleReports_congr (hu : t.startup = s.startup) (hp : t.picture.peers = s.picture.peers) (r : Role) (n : Nat) :
    t.roleReports r n = s.roleReports r n := by
  unfold State.roleReports State.roleHeard State.isFresh
  rw [roleRecord_congr hu hp, globals_of_startup hu]

theorem walkLimit_congr (hu : t.startup = s.startup) (hp : t.picture.peers = s.picture.peers) :
    walkLimit t = walkLimit s := by
  simp only [walkLimit, roleRecord_congr hu hp]

/-! ### The limits with a hard bound -/

/-- A swing out of its limits is held to creep (R139, R140). -/
theorem swing_held {x : Int} (hr : s.role = .swing) (h : (axisBounds s).Holds x)
    (hl : bucketLimit s = true ∨ walkLimit s = true) : x.natAbs ≤ s.params.drive.creep := by
  have bounds : axisBounds s = swingBounds s := by rw [axisBounds, hr]
  rw [bounds] at h
  unfold swingBounds swingRefusalBounds Bounds.Holds at h
  simp only [Bounds.meet] at h
  rcases hl with hl | hl
  · simp only [hl, boundIf, if_true, creepBoth] at h
    omega
  · simp only [hl, boundIf, if_true, creepBoth] at h
    omega

/-- A walk without its permissive is held at 0 (R161). -/
theorem walk_held {x : Int} (hr : s.role = .walk) (h : (axisBounds s).Holds x) (hl : walkPermissive s = false) : x = 0 := by
  have bounds : axisBounds s = walkBounds s := by rw [axisBounds, hr]
  rw [bounds, walkBounds, if_neg (by rw [hl]; decide)] at h
  exact le_antisymm h.2 h.1

theorem hoist_or_drag {r : Role} (h : r.isRope = true) : r = .hoist ∨ r = .drag := by
  revert h
  cases r <;> decide

/-- A rope at its hardware limit is not hauled in (R120). -/
theorem rope_held {x : Int} (hr : s.role.isRope = true) (h : (axisBounds s).Holds x) (hl : hardLimitActive s = true) :
    x ≤ 0 := by
  have bounds : axisBounds s = ropeBounds s := by
    rcases hoist_or_drag hr with hr | hr <;> rw [axisBounds, hr]
  rw [bounds] at h
  have hi := h.2
  unfold ropeBounds at hi
  simp only [Bounds.meet, hl, boundIf, if_true] at hi
  omega

theorem walkPermissive_congr (hu : t.startup = s.startup) (hp : t.picture.peers = s.picture.peers)
    (hw : s.walk.state.owns = true → t.walk.state.owns = true) (h : walkPermissive s = true) : walkPermissive t = true := by
  simp only [walkPermissive, walkOwning_eq, roleReports_congr hu hp, Bool.and_eq_true] at h ⊢
  exact ⟨⟨⟨hw h.1.1.1, h.1.1.2⟩, h.1.2⟩, h.2⟩

/-- The output of `t` stands within the limits of `s`, where it was formed, and `t` reads the same conditions. -/
structure FormedUnder (s t : State) : Prop where
  startup : t.startup = s.startup
  peers : t.picture.peers = s.picture.peers
  inputs : t.inputs = s.inputs
  owning : s.walk.state.owns = true → t.walk.state.owns = true
  holds : (axisBounds s).Holds t.drive.f

theorem cycleWork_formed (hj : s.joined = true) (ha : s.role.isAxis = true) :
    FormedUnder (judged (cabbed s)) (cycleWork s) := by
  have startup := (cabbed_moves s).startup
  have m := rest_moves (by rw [joined_of_startup startup, hj]) (by rw [role_of_startup startup, ha]) (fromChain_moves s)
  generalize judged (cabbed s) = u at m ⊢
  generalize cycleWork s = v at m ⊢
  refine ⟨m.startup, m.peers (by decide), m.block .inputs (by decide), m.owning (by decide), ?_⟩
  rcases m.f_stands (by decide) with h | h <;> rw [h]
  · exact holds_finalOutput (spansRest_axisBounds _) _
  · exact spansRest_axisBounds _

namespace FormedUnder
variable (h : FormedUnder s t)
include h

theorem swing (hr : s.role = .swing) (hf : s.params.drive.creep < t.drive.f.natAbs) :
    t.roleReports .hoist 3 = true ∧ walkLimit t = false := by
  have free : ¬ (bucketLimit s = true ∨ walkLimit s = true) := fun hl => absurd (swing_held hr h.holds hl) (by omega)
  obtain ⟨bucket, walk⟩ := not_or.1 free
  rw [roleReports_congr h.startup h.peers, walkLimit_congr h.startup h.peers]
  have clear : s.roleReports .hoist Bucket.clear.code = true := by
    simpa only [bucketLimit, Bool.not_eq_true', Bool.not_eq_false] using bucket
  exact ⟨clear, Bool.eq_false_iff.2 walk⟩

theorem walk (hr : s.role = .walk) (hf : t.drive.f ≠ 0) : walkPermissive t = true :=
  walkPermissive_congr h.startup h.peers h.owning
    (Bool.not_eq_false _ ▸ fun hl => hf (walk_held hr h.holds hl))

theorem rope (hr : s.role.isRope = true) (hl : t.inputActive s.params.rope.hardLimit = true) : t.drive.f ≤ 0 :=
  rope_held hr h.holds (by
    unfold hardLimitActive State.inputActive
    rw [← h.inputs]
    exact hl)

end FormedUnder

end

end Sys2Proof.Machine

open Sys2Proof Sys2Proof.Machine

/-- Settles O57: an output that stands after a cycle start was formed under the axis function's limits, and nothing
after that changes what they read but to stop the drive. -/
theorem motionNeedsItsConditions : Obligations.MotionNeedsItsConditions := by
  intro i s t hr hj ht
  rw [exec_cycleStart hr] at ht
  have start := fallen_startup i s
  have startup : (judged (cabbed (fallen i s))).startup = s.startup :=
    (judged_moves _).startup.trans ((cabbed_moves _).startup.trans start)
  have formed : s.role.isAxis = true → FormedUnder (judged (cabbed (fallen i s))) t := fun ha => by
    rw [← Host.Outcome.next.inj ht]
    exact cycleWork_formed ((joined_of_startup start).trans hj) ((congrArg Role.isAxis (role_of_startup start)).trans ha)
  generalize judged (cabbed (fallen i s)) = u at startup formed
  have role := role_of_startup startup
  have params := params_of_startup startup
  refine ⟨fun h hf => ?_, fun h hf => ?_, fun h hl => ?_⟩
  · exact (formed (by rw [h]; rfl)).swing (role.trans h) (by rw [params]; omega)
  · exact (formed (by rw [h]; rfl)).walk (role.trans h) hf
  · have axis : s.role.isAxis = true := by rcases hoist_or_drag h with h | h <;> rw [h] <;> rfl
    exact (formed axis).rope (by rw [role, h]) (by rw [params]; exact hl)

end

section
/-! PROOFS. What the moves leave of a block: the line unit's own counts, a cleared alarm, the ring's references, the
annunciator and the ages of the machine table; and the events that counts bring about at a cycle start (R11, R20, R29,
R44, R66, R179, R181). -/

namespace Sys2Proof.Machine

/-! ### Fields of the line unit -/

section
variable {s t : State} {gs : List Tag} {α : Type}

/-- A field of the line unit that none of the line unit's own moves among the tags changes. -/
theorem Move.lineField {g : Tag} (m : Move g s t) (f : LineUnit → α)
    (hq : ∀ l q c, f { l with queue := q, counters := c } = f l)
    (hp : ∀ p, g = .line p → ∀ l l', p.only l l' → f l' = f l)
    (hr : g ≠ .rejoin) (hs : g ≠ .queries) : f t.line = f s.line := by
  have steps := m.lineSteps (b := g.ofLine) id
  cases g with
  | queries => exact absurd rfl hs
  | rejoin => exact absurd rfl hr
  | line p =>
    cases m with
    | line _ x _ h => exact hp p rfl _ _ h
  | _ =>
    obtain ⟨q, c, h⟩ := steps.queueOnly
    rw [h]
    exact hq _ _ _

theorem Moves.lineField (m : Moves gs s t) (f : LineUnit → α)
    (hq : ∀ l q c, f { l with queue := q, counters := c } = f l)
    (hp : ∀ p, Tag.line p ∈ gs → ∀ l l', p.only l l' → f l' = f l)
    (hr : Tag.rejoin ∉ gs) (hs : Tag.queries ∈ gs → ∀ l q, f { l with queries := q } = f l) : f t.line = f s.line :=
  m.same (f := fun u => f u.line) fun g hg u v m => by
    by_cases hqs : g = .queries
    · subst hqs
      cases m with
      | queries _ rest q h => exact hs hg _ _
    · exact m.lineField f hq (fun p hgp => hp p (hgp ▸ hg)) (fun h => hr (h ▸ hg)) hqs

/-- The duplicate count stands through every move but its own. -/
theorem Move.duplicate {g : Tag} (m : Move g s t) (h : g ≠ .line .duplicate) : t.line.dupCount = s.line.dupCount
    ∧ t.line.dupCounting = s.line.dupCounting ∧ t.line.dupHeld = s.line.dupHeld := by
  by_cases hr : g = .rejoin
  · subst hr
    cases m with
    | rejoin => exact ⟨rfl, rfl, rfl⟩
  · by_cases hs : g = .queries
    · subst hs
      cases m with
      | queries => exact ⟨rfl, rfl, rfl⟩
    · have := m.lineField (fun l => (l.dupCount, l.dupCounting, l.dupHeld)) (fun _ _ _ => rfl)
        (fun p hp l l' ho => by
          cases p with
          | duplicate => exact absurd hp h
          | _ => rw [ho]) hr hs
      simpa only [Prod.mk.injEq] using this

theorem Moves.duplicate (m : Moves gs s t) (h : Tag.line .duplicate ∉ gs) : t.line.dupCount = s.line.dupCount
    ∧ t.line.dupCounting = s.line.dupCounting ∧ t.line.dupHeld = s.line.dupHeld := by
  have := m.same (f := fun u => (u.line.dupCount, u.line.dupCounting, u.line.dupHeld)) fun g hg _ _ m => by
    obtain ⟨a, b, c⟩ := m.duplicate fun hd => h (hd ▸ hg)
    exact Prod.ext a (Prod.ext b c)
  simpa only [Prod.mk.injEq] using this

/-- The line unit as the timer expires, but for its queue, its counters and a running arbitration. -/
theorem fallen_lineField (f : LineUnit → α) (hq : ∀ l q c, f { l with queue := q, counters := c } = f l)
    (ha : ∀ l n, f { l with arbitration := n } = f l) (i : Inputs) (s : State) : f (fallen i s).line = f s.line := by
  rw [(fallen_moves i s).lineField f hq (fun p h => absurd h (by cases p <;> decide)) (by decide)
    (fun h => absurd h (by decide))]
  exact (ha _ _).trans (hq s.line _ s.line.counters)

end

/-! ### A cleared alarm stays cleared -/

/-- Every record of the key is cleared. -/
def KeyCleared (c : AlarmCode) (d : Option Nat) (l : List AlarmRecord) : Prop :=
  ∀ r ∈ l, r.code = c → r.detail = d → r.state = .clearedUnack

section
variable {s t : State} {gs : List Tag} {c : AlarmCode} {d : Option Nat}

theorem keyCleared_clearAlarm (hj : s.joined = true) (ho : ListsOrdered s) :
    KeyCleared c d (clearAlarm c d s).alarms.list := fun _ hr hc hd => clearAlarm_state hj ho.listKeys hr hc hd

theorem KeyCleared.clear (h : KeyCleared c d s.alarms.list) (c' : AlarmCode) (d' : Option Nat) :
    KeyCleared c d (clearAlarm c' d' s).alarms.list := fun r hr hc hd =>
  (mem_clearAlarm hr).elim (fun hm => h r hm hc hd) id

theorem KeyCleared.raise (h : KeyCleared c d s.alarms.list) {c' : AlarmCode} {d' : Option Nat} (hc : (c', d') ≠ (c, d)) :
    KeyCleared c d (raiseQuiet c' d' s).alarms.list := by
  intro r hr hrc hrd
  have other : ¬ isRecord c' d' r = true := fun hi => hc ((isRecord_iff.1 hi).symm.trans (by rw [AlarmRecord.key, hrc, hrd]))
  rcases mem_raiseRecord hr with ⟨hm, -⟩ | ⟨hm, -⟩ | ⟨hi, -⟩ | ⟨hi, -⟩
  · exact h r hm hrc hrd
  · exact h r hm hrc hrd
  · exact absurd hi other
  · exact absurd hi other

theorem trip_list (s : State) : (driveTripped (s.onAlarms fun a => { a with mode := .tripped })).alarms.list
    = s.alarms.list := by
  rw [(driveTripped_frame _).1 .alarms (by decide)]
  rfl

/-- The moves that may raise a code. -/
def Tag.raises (c : AlarmCode) : Tag → Bool
  | .raised x => x == c
  | .dropped => c == .shareLoanDropped
  | _ => false

/-- Only a raise of its own code makes a cleared record active. -/
theorem Move.keyCleared {g : Tag} (m : Move g s t) (hg : g.raises c = false) (h : KeyCleared c d s.alarms.list) :
    KeyCleared c d t.alarms.list := by
  by_cases hb : Block.alarms ∈ g.blocks
  · cases m with
    | trip => rw [trip_list]; exact h
    | raised c' d' =>
      have hc : c' ≠ c := by simpa [Tag.raises] using hg
      exact h.raise fun he => hc (congrArg Prod.fst he)
    | cleared c' d' => exact h.clear c' d'
    | dropped n =>
      have hc : c ≠ .shareLoanDropped := by simpa [Tag.raises] using hg
      exact (h.raise fun he => hc (congrArg Prod.fst he).symm).clear _ _
    | refresh => exact h
    | _ => exact absurd hb (by simp [Tag.blocks])
  · rwa [show t.alarms = s.alarms from m.frame.1 .alarms hb]

theorem Moves.keyCleared (m : Moves gs s t) (hg : gs.any (Tag.raises c) = false) (h : KeyCleared c d s.alarms.list) :
    KeyCleared c d t.alarms.list := by
  induction m with
  | refl => exact h
  | tail _ hlast ih =>
    obtain ⟨g, hm, m⟩ := hlast
    exact m.keyCleared (by simpa using List.any_eq_false.1 hg g hm) ih

theorem Moves.listsOrdered (m : Moves gs s t) (h : ListsOrdered s) : ListsOrdered t :=
  m.keeps (fun _ _ _ _ m => m.listsOrdered) h

end

/-! ### The ring between its cycle starts -/

/-- The ring stands, or re-arm was set (R69). -/
def Rearmed (r r' : Ring) : Prop := r' = r ∨ r' = { r with rearm := true, current := 0 }

theorem Rearmed.trans {r r' r'' : Ring} (h : Rearmed r r') (k : Rearmed r' r'') : Rearmed r r'' := by
  rcases k with rfl | rfl
  · exact h
  · rcases h with rfl | rfl
    · exact .inr rfl
    · exact .inr rfl

section
variable {s t : State} {gs : List Tag}

theorem setRearm_rearmed (s : State) : Rearmed s.ring (setRearm s).ring := by
  unfold setRearm
  split
  · exact .inr rfl
  · exact .inl rfl

theorem clearAlarm_rearmed (c : AlarmCode) (d : Option Nat) (s : State) : Rearmed s.ring (clearAlarm c d s).ring := by
  obtain ⟨t, f, form⟩ := clearAlarm_form c d s
  have ring : t.ring = s.ring := f.1 .ring (by decide)
  rw [form, ← ring]
  split
  · exact setRearm_rearmed t
  · exact .inl rfl

/-- Between the cycle starts' own consumption only re-arm is set. -/
theorem Move.rearmed {g : Tag} (m : Move g s t) (h : g ≠ .consume) : Rearmed s.ring t.ring := by
  by_cases hb : Block.ring ∈ g.blocks
  · cases m with
    | rearm => exact setRearm_rearmed s
    | consume => exact absurd rfl h
    | reclaim =>
      unfold enterReclaiming
      rw [(watchOwned_frame _).1 .ring (by decide)]
      exact setRearm_rearmed (s.onRope _)
    | cleared c d => exact clearAlarm_rearmed c d s
    | dropped n =>
      have ring : (raiseQuiet .shareLoanDropped (some n) s).ring = s.ring := (raiseQuiet_frame _ _ s).1 .ring (by decide)
      unfold loanDropped raiseAndClear
      rw [← ring]
      exact clearAlarm_rearmed _ _ _
    | _ => exact absurd hb (by simp [Tag.blocks])
  · exact .inl (m.frame.1 .ring hb)

theorem Moves.rearmed (m : Moves gs s t) (h : Tag.consume ∉ gs) : Rearmed s.ring t.ring := by
  induction m with
  | refl => exact .inl rfl
  | tail _ hlast ih =>
    obtain ⟨g, hg, m⟩ := hlast
    exact ih.trans (m.rearmed fun he => h (he ▸ hg))

/-! ### The machine table between its long cycles -/

/-- The annunciator's counts stand. -/
def FlashStands (m m' : MachineTable) : Prop :=
  m'.flashPhase = m.flashPhase ∧ m'.flashCount = m.flashCount ∧ m'.refusalFlash = m.refusalFlash

/-- No record is older than those before. -/
def AgesFrom (m m' : MachineTable) : Prop := ∀ r ∈ m'.records, r.age = 0 ∨ ∃ x ∈ m.records, x.age = r.age

theorem FlashStands.trans {m m' m'' : MachineTable} (h : FlashStands m m') (k : FlashStands m' m'') : FlashStands m m'' :=
  ⟨k.1.trans h.1, k.2.1.trans h.2.1, k.2.2.trans h.2.2⟩

theorem AgesFrom.refl (m : MachineTable) : AgesFrom m m := fun r hr => .inr ⟨r, hr, rfl⟩

theorem AgesFrom.trans {m m' m'' : MachineTable} (h : AgesFrom m m') (k : AgesFrom m' m'') : AgesFrom m m'' := by
  intro r hr
  rcases k r hr with hz | ⟨x, hx, he⟩
  · exact .inl hz
  · rcases h x hx with hz | ⟨y, hy, hyx⟩
    · exact .inl (he ▸ hz)
    · exact .inr ⟨y, hy, hyx.trans he⟩

theorem refreshFirstOut_flash (m : MachineTable) : FlashStands m (refreshFirstOut m) := by
  unfold refreshFirstOut
  split <;> exact ⟨rfl, rfl, rfl⟩

theorem tableForm_flash (r : TableRecord) (b : Bool) (m : MachineTable) : FlashStands m (tableForm r b m) := by
  unfold tableForm
  split
  · exact ⟨rfl, rfl, rfl⟩
  · split <;> exact ⟨rfl, rfl, rfl⟩

theorem mergeTable_flash (x : Merge) (m : MachineTable) : FlashStands m (mergeTable x m) := by
  unfold mergeTable
  refine FlashStands.trans ?_ (refreshFirstOut_flash _)
  split
  · exact ⟨rfl, rfl, rfl⟩
  · dsimp only
    split
    · exact ⟨rfl, rfl, rfl⟩
    · exact tableForm_flash _ _ m

theorem mergeTable_ages (x : Merge) (m : MachineTable) : AgesFrom m (mergeTable x m) := by
  intro r
  unfold mergeTable
  rw [refreshFirstOut_records]
  have entered : ∀ st, r = x.record st ∨ r ∈ m.records → r.age = 0 ∨ ∃ y ∈ m.records, y.age = r.age := by
    rintro st (rfl | h)
    · exact .inl rfl
    · exact .inr ⟨r, h, rfl⟩
  split
  · exact fun h => .inr ⟨r, List.mem_of_mem_filter h, rfl⟩
  · next st _ =>
    dsimp only
    split
    · exact fun h => entered st (mem_tableUpdate h)
    · exact fun h => entered st (mem_tableForm h)

theorem AlarmTable.flash (h : AlarmTable s t) : FlashStands s.table t.table :=
  h.keeps (Q := FlashStands s.table) (fun m _ k => k.trans (mergeTable_flash m _)) ⟨rfl, rfl, rfl⟩

theorem AlarmTable.ages (h : AlarmTable s t) : AgesFrom s.table t.table :=
  h.keeps (Q := AgesFrom s.table) (fun m _ k => k.trans (mergeTable_ages m _)) (.refl _)

theorem Move.alarmTable {g : Tag} (m : Move g s t) (hp : ∀ p, g ≠ .table p) (ha : g ≠ .ageTable) : AlarmTable s t := by
  by_cases hb : Block.table ∈ g.blocks
  · cases m with
    | raised c d => exact raiseQuiet_alarmTable c d s
    | cleared c d => exact clearAlarm_alarmTable c d s
    | dropped n => exact loanDropped_alarmTable n s
    | report r => exact reportAlarm_alarmTable r false true s
    | table p => exact absurd rfl (hp p)
    | ageTable => exact absurd rfl ha
    | _ => exact absurd hb (by simp [Tag.blocks])
  · exact alarmTable_of_table (m.frame.1 .table hb)

theorem Move.flash {g : Tag} (m : Move g s t) (h : g ≠ .table .flash) : t.table.flashPhase = s.table.flashPhase
    ∧ t.table.flashCount = s.table.flashCount ∧ (g ≠ .table .refusal → t.table.refusalFlash = s.table.refusalFlash) := by
  have stands : FlashStands s.table t.table → t.table.flashPhase = s.table.flashPhase
      ∧ t.table.flashCount = s.table.flashCount
      ∧ (g ≠ .table .refusal → t.table.refusalFlash = s.table.refusalFlash) := fun h => ⟨h.1, h.2.1, fun _ => h.2.2⟩
  cases g with
  | table p =>
    cases m with
    | table _ f _ ho =>
      cases p with
      | flash => exact absurd rfl h
      | refusal =>
        rw [State.onTable_table, ho]
        exact ⟨rfl, rfl, fun hn => absurd rfl hn⟩
      | episode =>
        rw [State.onTable_table, ho]
        exact ⟨rfl, rfl, fun _ => rfl⟩
  | ageTable =>
    cases m with
    | ageTable => exact stands (FlashStands.trans ⟨rfl, rfl, rfl⟩ (refreshFirstOut_flash _))
  | _ => exact stands (m.alarmTable (by simp) (by simp)).flash

theorem Moves.flash (m : Moves gs s t) (h : Tag.table .flash ∉ gs) : t.table.flashPhase = s.table.flashPhase
    ∧ t.table.flashCount = s.table.flashCount :=
  ⟨m.same (f := fun u => u.table.flashPhase) fun _ hg _ _ m => (m.flash fun he => h (he ▸ hg)).1,
    m.same (f := fun u => u.table.flashCount) fun _ hg _ _ m => (m.flash fun he => h (he ▸ hg)).2.1⟩

theorem Moves.refusal (m : Moves gs s t) (h : Tag.table .flash ∉ gs) (hr : Tag.table .refusal ∉ gs) :
    t.table.refusalFlash = s.table.refusalFlash :=
  m.same (f := fun u => u.table.refusalFlash) fun _ hg _ _ m =>
    (m.flash fun he => h (he ▸ hg)).2.2 fun he => hr (he ▸ hg)

theorem Move.ages {g : Tag} (m : Move g s t) (h : g ≠ .ageTable) : AgesFrom s.table t.table := by
  cases g with
  | ageTable => exact absurd rfl h
  | table p =>
    cases m with
    | table _ f _ ho =>
      have records : (f s.table).records = s.table.records := by cases p <;> rw [ho]
      exact fun r hr => .inr ⟨r, records ▸ hr, rfl⟩
  | _ => exact (m.alarmTable (by simp) (by simp)).ages

theorem Moves.ages (m : Moves gs s t) (h : Tag.ageTable ∉ gs) : AgesFrom s.table t.table := by
  induction m with
  | refl => exact .refl _
  | tail _ hlast ih =>
    obtain ⟨g, hg, m⟩ := hlast
    exact ih.trans (m.ages fun he => h (he ▸ hg))

end

end Sys2Proof.Machine

end

section
/-! PROOFS. The events that counts of the line, the picture, the ring and the cab bring about (R11, R20, R29, R44, R66,
R179, R181), each from the stage of the cycle start that notes it. -/

namespace Sys2Proof.Machine

section
variable {s t : State}

/-- The moves that follow the line unit's part of a cycle start. -/
def afterLineTags : List Tag := ([.long] ++ pictureTags ++ (termTags ++ quarantineTags ++ refreshTags)) ++ countsOnTags

theorem afterLine_counts (s : State) :
    Moves ([.long] ++ pictureTags ++ (termTags ++ quarantineTags ++ refreshTags)) (lineCycle s) (cycleCounts s) := by
  have short : Moves ([.long] ++ pictureTags ++ (termTags ++ quarantineTags ++ refreshTags)) (lineCycle s) (shortCounts s) :=
    ((countLong_moves _).mono fun _ h => by simp [List.mem_singleton.mp h]).trans
      ((pictureCycle_moves _).mono fun _ h => by simp [h])
  rw [cycleCounts_eq]
  exact .ite (fun _ => short.trans ((longCycleWork_moves _).mono fun _ h => List.mem_append_right _ h)) fun _ => short

theorem afterLine_moves (s : State) : Moves afterLineTags (lineCycle s) (cycleWork s) :=
  ((afterLine_counts s).mono fun _ h => List.mem_append_left _ h).trans
    ((afterCounts_moves s).mono fun _ h => List.mem_append_right _ h)

/-! ### The long cycle -/

theorem cycleCounts_long (h : isLongCycle s = true) : Event.longCycle ∈ (cycleCounts s).events := by
  rw [cycleCounts_eq, if_pos h]
  exact List.mem_cons_self

/-! ### DUPLICATE STATION -/

/-- The duplicate count ended. -/
def duplicateEnded (s : State) : State :=
  clearAlarm .duplicateStation none (s.onLine fun l => { l with dupCount := 0, dupCounting := false, dupHeld := false })

theorem duplicateCycle_ends (hc : s.line.dupCounting = true) (hn : 63 ≤ s.line.dupCount) :
    duplicateCycle s = (duplicateEnded s).note .duplicateStationClear := by
  rw [duplicateCycle, if_neg (by simp [hc])]
  exact if_pos (Nat.succ_le_succ hn)

theorem duplicateEnded_moves (s : State) : Moves [.cleared .duplicateStation]
    (s.onLine fun l => { l with dupCount := 0, dupCounting := false, dupHeld := false }) (duplicateEnded s) :=
  (Move.cleared .duplicateStation none _).moves (by decide)

/-- What follows the end of the duplicate count. -/
theorem afterDuplicate_moves (s : State) :
    Moves (faultTags ++ afterLineTags) (duplicateCycle (ageQueue s)) (cycleWork s) :=
  ((faultCycle_moves _).mono fun _ h => List.mem_append_left _ h).trans
    ((afterLine_moves s).mono fun _ h => List.mem_append_right _ h)

theorem afterLine_spares : (faultTags ++ afterLineTags).any (Tag.raises .duplicateStation) = false := by
  simp only [afterLineTags, countsOnTags, ringOnTags, chainOnTags, chainTags, lateTags, List.any_append]
  decide

theorem work_duplicate (hc : s.line.dupCounting = true) (hn : 63 ≤ s.line.dupCount) :
    .duplicateStationClear ∈ (cycleWork s).events ∧ (cycleWork s).line.dupCounting = false
      ∧ (cycleWork s).line.dupHeld = false ∧ (s.joined = true → ListsOrdered s →
        KeyCleared .duplicateStation none (cycleWork s).alarms.list) := by
  have before := ageQueue_moves s
  obtain ⟨count, counting, -⟩ := before.duplicate (by decide)
  have ends : duplicateCycle (ageQueue s) = _ := duplicateCycle_ends (counting.trans hc) (count ▸ hn)
  have rest := afterDuplicate_moves s
  rw [ends] at rest
  obtain ⟨-, off, held⟩ := (duplicateEnded_moves (ageQueue s)).duplicate (by decide)
  obtain ⟨-, off', held'⟩ := rest.duplicate (by decide)
  refine ⟨rest.events_mono List.mem_cons_self, off'.trans off, held'.trans held, fun hj ho => ?_⟩
  have start : ListsOrdered ((ageQueue s).onLine fun l => { l with dupCount := 0, dupCounting := false, dupHeld := false }) :=
    (Move.line .duplicate (fun l => { l with dupCount := 0, dupCounting := false, dupHeld := false }) _ rfl).listsOrdered
      (before.listsOrdered ho)
  exact rest.keyCleared afterLine_spares (keyCleared_clearAlarm (before.joined.trans hj) start)

/-! ### The rejoin -/

/-- The PROBE on the line, its start cell just sent, its sequence number the station's present one. -/
structure Probing (l : LineUnit) (q : Byte) : Prop where
  state : l.state = .rejoining
  loopback : l.loopback = true
  seq : l.txSeq = q
  arbitrates : 0 < l.arbitration

theorem arbitrationUnits_pos (r : BitVec 2) : 0 < arbitrationUnits r := by
  unfold arbitrationUnits
  split
  · decide
  · split <;> decide

theorem probe_seq (s : State) : s.probe.seq = s.line.txSeq := rfl

/-- The fault count up. -/
def faultCounted (s : State) : State := s.onLine fun l => { l with faultStarts := s.line.faultStarts + 1 }

theorem faultCycle_rejoins (hs : s.line.state = .lineFault) (hn : 63 ≤ s.line.faultStarts) : faultCycle s =
    (enterLoopback ((faultCounted s).onLine fun l => { l with state := .rejoining })).note .lineRejoin := by
  rw [faultCycle, if_pos hs]
  exact if_pos (Nat.succ_le_succ hn)

theorem faultCycle_probing (hs : s.line.state = .lineFault) (hn : 63 ≤ s.line.faultStarts) :
    Event.lineRejoin ∈ (faultCycle s).events ∧ Probing (faultCycle s).line (faultCycle s).picture.seq := by
  rw [faultCycle_rejoins hs hn]
  exact ⟨List.mem_cons_self, rfl, rfl, rfl, arbitrationUnits_pos _⟩

theorem Probing.of_eq {l l' : LineUnit} {q : Byte} (h : Probing l q)
    (he : (l'.state, l'.loopback, l'.txSeq, l'.arbitration) = (l.state, l.loopback, l.txSeq, l.arbitration)) :
    Probing l' q := by
  simp only [Prod.mk.injEq] at he
  obtain ⟨state, loopback, seq, units⟩ := he
  exact ⟨state.trans h.state, loopback.trans h.loopback, seq.trans h.seq, units ▸ h.arbitrates⟩

/-- Only the status point draws a sequence number. -/
theorem Move.seqStands {g : Tag} (m : Move g s t) (h : g ≠ .sequence) : t.picture.seq = s.picture.seq := by
  by_cases hb : Block.picture ∈ g.blocks
  · cases m with
    | sequence => exact absurd rfl h
    | ageing => rfl
    | _ => exact absurd hb (by simp [Tag.blocks])
  · exact congrArg Picture.seq (m.frame.1 .picture hb)

/-- The moves of a tag leave the PROBE and the sequence number. -/
def Tag.leavesProbe : Tag → Bool
  | .line _ | .rejoin | .sequence => false
  | _ => true

theorem Move.probing {g : Tag} (m : Move g s t) (hg : g.leavesProbe = true) (h : Probing s.line s.picture.seq) :
    Probing t.line t.picture.seq := by
  rw [m.seqStands (by rintro rfl; cases hg)]
  by_cases hs : g = .queries
  · subst hs
    cases m with
    | queries => exact h.of_eq rfl
  · exact h.of_eq (m.lineField (fun l => (l.state, l.loopback, l.txSeq, l.arbitration)) (fun _ _ _ => rfl)
      (fun p hp => by subst hp; cases hg) (by rintro rfl; cases hg) hs)

theorem Moves.probing {gs : List Tag} (m : Moves gs s t) (hg : gs.all Tag.leavesProbe = true)
    (h : Probing s.line s.picture.seq) : Probing t.line t.picture.seq := by
  induction m with
  | refl => exact h
  | tail _ hlast ih =>
    obtain ⟨g, hm, m⟩ := hlast
    exact m.probing (List.all_eq_true.1 hg g hm) ih

/-- A status point of the same cycle start gives the PROBE its new number, since its arbitration is not over. -/
theorem statusPointAtStart_probing (h : Probing s.line s.picture.seq) :
    Probing (statusPointAtStart s).line (statusPointAtStart s).picture.seq := by
  have settled : Probing (settle s).line (settle s).picture.seq := h.of_eq rfl
  unfold statusPointAtStart
  split
  · next hO =>
    unfold statusPointNow
    split
    · have offset : (settle s).statusOffset - (settle s).time.offset = 0 := by
        rw [show (settle s).statusOffset = 0 from hO, Nat.zero_sub]
      rw [offset]
      generalize hu : ((elapse 0 (settle s)).onTime fun t =>
        { t with offset := (settle s).statusOffset, statusDone := true }) = u
      have start : Probing u.line u.picture.seq := by
        rw [← hu]
        exact settled.of_eq rfl
      unfold composeStatus
      split
      · dsimp only
        have again : reSequence (u.picture.seq + 1#8) (u.onPicture fun p => { p with seq := u.picture.seq + 1#8 })
            = (u.onPicture fun p => { p with seq := u.picture.seq + 1#8 }).onLine fun l =>
              { l with txSeq := u.picture.seq + 1#8 } :=
          if_pos ⟨start.arbitrates, by rw [show (u.onPicture _).line = u.line from rfl, start.loopback]; rfl⟩
        rw [again]
        obtain ⟨q, c, placed⟩ := queueOnly_enqueue { kind := .status, target := Config.broadcast, words :=
          ((u.onPicture fun p => { p with seq := u.picture.seq + 1#8 }).onLine fun l =>
            { l with txSeq := u.picture.seq + 1#8 }).statusFields.words, seq := u.picture.seq + 1#8 }
          ((u.onPicture fun p => { p with seq := u.picture.seq + 1#8 }).onLine fun l =>
            { l with txSeq := u.picture.seq + 1#8 })
        rw [place, placed]
        exact ⟨start.state, start.loopback, rfl, start.arbitrates⟩
      · exact start
    · exact settled
  · exact h

/-- The moves from the line unit's part up to the status point. -/
theorem toStatus_moves (s : State) : Moves (([.long] ++ pictureTags ++ (termTags ++ quarantineTags ++ refreshTags))
    ++ controlTags ++ replyTags) (lineCycle s) (answered s) :=
  (((afterLine_counts s).mono fun _ h => by simp only [List.mem_append] at h ⊢; tauto).trans
    ((cycleControl_moves _).mono fun _ h => by simp [h])).trans ((answerQuery_moves _).mono fun _ h => by simp [h])

theorem toStatus_probing {u : State} (h : Probing (lineCycle u).line (lineCycle u).picture.seq) :
    Probing (answered u).line (answered u).picture.seq :=
  (toStatus_moves u).probing (by
    simp only [controlTags, chainTags, List.all_append]
    decide) h

theorem toFault_moves (s : State) : Moves (.age :: expiryTags ++ duplicateTags) s (duplicateCycle (ageQueue s)) :=
  ((ageQueue_moves s).mono fun _ h => List.mem_append_left _ h).trans
    ((duplicateCycle_moves _).mono fun _ h => List.mem_append_right _ h)

theorem lineCycle_probing (hs : s.line.state = .lineFault) (hn : 63 ≤ s.line.faultStarts) :
    Event.lineRejoin ∈ (lineCycle s).events ∧ Probing (lineCycle s).line (lineCycle s).picture.seq := by
  have before := toFault_moves s
  have state : (duplicateCycle (ageQueue s)).line.state = s.line.state :=
    before.lineField (fun l => l.state) (fun _ _ _ => rfl) (fun p _ l l' ho => by cases p <;> rw [ho]) (by decide)
      fun _ _ _ => rfl
  have starts : (duplicateCycle (ageQueue s)).line.faultStarts = s.line.faultStarts :=
    before.lineField (fun l => l.faultStarts) (fun _ _ _ => rfl) (fun p hp l l' ho => by
      cases p with
      | faultStarts => exact absurd hp (by decide)
      | _ => rw [ho]) (by decide) fun _ _ _ => rfl
  unfold lineCycle
  exact faultCycle_probing (state.trans hs) (starts ▸ hn)

theorem work_rejoin (hs : s.line.state = .lineFault) (hn : 63 ≤ s.line.faultStarts) :
    .lineRejoin ∈ (cycleWork s).events ∧ (cycleWork s).line.state = .rejoining ∧ (cycleWork s).line.loopback = true
      ∧ (cycleWork s).line.txSeq = (cycleWork s).picture.seq := by
  obtain ⟨noted, probing⟩ := lineCycle_probing hs hn
  refine ⟨(afterLine_moves s).events_mono noted, ?_⟩
  have last := statusPointAtStart_probing (toStatus_probing probing)
  rw [← cycleWork_eq] at last
  exact ⟨last.state, last.loopback, last.seq⟩

/-! ### A peer going stale -/

theorem peer_of_aged {l : List PeerRecord} (h : t.picture.peers = l.map ageRecord) (hs : s.picture.peers = l) (n : Nat) :
    t.peer n = ageRecord (s.peer n) := by
  rw [State.peer, h, State.peer, hs, List.getD_eq_getElem?_getD, List.getElem?_map, List.getD_eq_getElem?_getD]
  cases l[n]? <;> rfl

theorem cycleWork_peer (s : State) (n : Nat) : (cycleWork s).peer n = ageRecord (s.peer n) :=
  peer_of_aged (cycleWork_peers s) rfl n

theorem pictureCycle_silent {n : Nat} (h : n ∈ goingStale s) : Event.peerSilent ∈ (pictureCycle s).events := by
  unfold pictureCycle; dsimp only
  rw [if_neg (by simpa using List.ne_nil_of_mem h)]
  exact List.mem_cons_self

theorem goingStale_iff {n : Nat} (hn : n < 8) (ho : n ≠ s.station) (hh : (s.peer n).heard = true)
    (ha : (s.peer n).age = s.globals.staleness) (hl : s.globals.staleness < 255) : n ∈ goingStale s := by
  have old : (ageRecord (s.peer n)).age = s.globals.staleness + 1 := by
    rw [ageRecord, if_pos hh]
    show bump8 (s.peer n).age = _
    rw [ha, bump8, satAdd]
    exact Nat.min_eq_right hl
  have heard : (ageRecord (s.peer n)).heard = true := by rw [ageRecord, if_pos hh]; exact hh
  refine List.mem_filter.2 ⟨List.mem_range.2 hn, ?_⟩
  simp only [State.isFresh, State.isStale, hh, ha, old, heard]
  simpa using ho

theorem work_silent {n : Nat} (hn : n < 8) (ho : n ≠ s.station) (hh : (s.peer n).heard = true)
    (ha : (s.peer n).age = s.globals.staleness) (hl : s.globals.staleness < 255) :
    Event.peerSilent ∈ (cycleWork s).events := by
  have m : Moves (lineTags ++ [.long]) s (countLong (lineCycle s)) :=
    ((lineCycle_moves s).mono fun _ h => List.mem_append_left _ h).trans
      ((countLong_moves _).mono fun _ h => List.mem_append_right _ h)
  have peers := m.peers (by decide)
  have peer : (countLong (lineCycle s)).peer n = s.peer n := by rw [State.peer, peers, State.peer]
  have station := station_of_startup m.startup
  have globals := m.globals
  have noted : Event.peerSilent ∈ (shortCounts s).events := pictureCycle_silent (goingStale_iff hn (by rw [station]; exact ho)
    (by rw [peer]; exact hh) (by rw [peer, globals]; exact ha) (by rw [globals]; exact hl))
  have counted : Event.peerSilent ∈ (cycleCounts s).events := by
    rw [cycleCounts_eq]
    split
    · exact (longCycleWork_moves _).events_mono noted
    · exact noted
  exact (afterCounts_moves s).events_mono counted

/-! ### The hold limit of the ring -/

theorem ringAtStart_starves (hh : s.params.holdLimit ≤ s.ring.hold)
    (hs : ∀ e ∈ s.ring.slots, e.tag ≠ low16 s.time.cycle) :
    (ringAtStart s s.ring).starved = true ∧ (ringAtStart s s.ring).current = 0 := by
  have missed : (slotEntry (slotOf (low16 s.time.cycle)) s.ring.slots).filter (fun e => e.tag == low16 s.time.cycle) = none := by
    cases he : slotEntry (slotOf (low16 s.time.cycle)) s.ring.slots with
    | none => rfl
    | some e =>
      rw [Option.filter_some, if_neg]
      simpa using hs e (List.mem_of_find?_eq_some he)
  have held : missEntry s.params.holdLimit s.ring =
      { s.ring with currentWalkMode := s.ring.lastWalkMode, current := 0, starved := true } :=
    if_neg (Nat.not_lt.2 hh)
  unfold ringAtStart; dsimp only
  rw [missed]; dsimp only
  rw [held]
  refine ⟨rfl, ?_⟩
  split <;> rfl

theorem ringCycle_starves (ha : s.role.isAxis = true) (hn : s.ring.starved = false)
    (hh : s.params.holdLimit ≤ s.ring.hold) (hs : ∀ e ∈ s.ring.slots, e.tag ≠ low16 s.time.cycle) :
    Event.referenceStarved ∈ (ringCycle s).events ∧ (ringCycle s).ring.starved = true
      ∧ (ringCycle s).ring.current = 0 := by
  obtain ⟨starved, current⟩ := ringAtStart_starves hh hs
  have noted : ringCycle s = (raiseQuiet .referenceStarved none (s.onRing (ringAtStart s))).note .referenceStarved := by
    rw [ringCycle_eq, if_pos ha]; dsimp only
    rw [if_neg (by simp [hn]), if_pos ⟨by simp [hn], starved⟩]
  have ring : (ringCycle s).ring = ringAtStart s s.ring := by
    rw [noted]
    exact (raiseQuiet_frame _ _ _).1 .ring (by decide)
  rw [ring]
  exact ⟨noted ▸ List.mem_cons_self, starved, current⟩

theorem work_starves (ha : s.role.isAxis = true) (hn : s.ring.starved = false)
    (hh : s.params.holdLimit ≤ s.ring.hold) (hs : ∀ e ∈ s.ring.slots, e.tag ≠ low16 s.time.cycle) :
    Event.referenceStarved ∈ (cycleWork s).events ∧ (cycleWork s).ring.starved = true
      ∧ (cycleWork s).ring.current = 0 := by
  have counts := cycleCounts_moves s
  have ring : (cycleCounts s).ring.starved = s.ring.starved ∧ (cycleCounts s).ring.hold = s.ring.hold
      ∧ (cycleCounts s).ring.slots = s.ring.slots := by
    rcases counts.rearmed (by decide) with h | h <;> rw [h] <;> exact ⟨rfl, rfl, rfl⟩
  obtain ⟨starved, hold, slots⟩ := ring
  have cycle : (cycleCounts s).time.cycle = s.time.cycle := by rw [cycleCounts_time]
  obtain ⟨noted, now, zero⟩ : Event.referenceStarved ∈ (ringed s).events ∧ (ringed s).ring.starved = true
      ∧ (ringed s).ring.current = 0 :=
    ringCycle_starves (by rw [counts.role]; exact ha) (starved.trans hn) (by rw [counts.params, hold]; exact hh)
      (by rw [slots, cycle]; exact hs)
  have rest := afterRing_moves s
  refine ⟨rest.events_mono noted, ?_⟩
  rcases rest.rearmed (by decide) with h | h <;> rw [h]
  · exact ⟨now, zero⟩
  · exact ⟨now, rfl⟩

/-! ### The annunciator -/

theorem annunciatorCycle_turns (hr : s.role = .cab) (hn : 24 ≤ s.table.flashCount) :
    Event.flashPhaseInvert ∈ (annunciatorCycle s).events ∧ (annunciatorCycle s).table.flashPhase = !s.table.flashPhase
      ∧ (annunciatorCycle s).table.flashCount = 0 := by
  have turn : decide (Config.flashHalf ≤ s.table.flashCount + 1) = true := decide_eq_true (Nat.succ_le_succ hn)
  unfold annunciatorCycle
  rw [if_pos hr]; dsimp only
  rw [turn]
  split
  · exact ⟨List.mem_cons_of_mem _ List.mem_cons_self, rfl, rfl⟩
  · exact ⟨List.mem_cons_self, rfl, rfl⟩

theorem annunciatorCycle_ends (hr : s.role = .cab) (hn : s.table.refusalFlash = 1) :
    Event.refusalFlashEnd ∈ (annunciatorCycle s).events ∧ (annunciatorCycle s).table.refusalFlash = 0 := by
  unfold annunciatorCycle
  rw [if_pos hr]; dsimp only
  rw [if_pos (by rw [hn]; rfl)]
  refine ⟨List.mem_cons_self, ?_⟩
  split
  · show s.table.refusalFlash - 1 = 0; rw [hn]
  · show s.table.refusalFlash - 1 = 0; rw [hn]

theorem work_turns (hr : s.role = .cab) (hn : 24 ≤ s.table.flashCount) :
    Event.flashPhaseInvert ∈ (cycleWork s).events ∧ (cycleWork s).table.flashPhase = !s.table.flashPhase
      ∧ (cycleWork s).table.flashCount = 0 := by
  have before := ringed_moves s
  obtain ⟨phase, count⟩ := before.flash (by decide)
  obtain ⟨noted, phase', count'⟩ := annunciatorCycle_turns (before.role.trans hr) (count ▸ hn)
  have rest : Moves (cabTags ++ chainOnTags) (annunciatorCycle (ringed s)) (cycleWork s) :=
    ((cabCycle_moves _).mono fun _ h => List.mem_append_left _ h).trans
      ((fromCab_moves s).mono fun _ h => List.mem_append_right _ h)
  obtain ⟨phase'', count''⟩ := rest.flash (by decide)
  exact ⟨rest.events_mono noted, by rw [phase'', phase', phase], by rw [count'', count']⟩

/-- A field of the cab function that none of its own moves among the tags changes. -/
theorem Moves.cabField {gs : List Tag} {α : Type} (m : Moves gs s t) (f : Cab → α)
    (hp : ∀ p, Tag.cab p ∈ gs → ∀ c c', p.only c c' → f c' = f c) : f t.cab = f s.cab :=
  m.same (f := fun u => f u.cab) fun g hg u v m => by
    by_cases hb : Block.cab ∈ g.blocks
    · cases m with
      | cab p x _ ho => exact hp p hg _ _ ho
      | _ => exact absurd hb (by simp [Tag.blocks])
    · exact congrArg f (m.frame.1 .cab hb)

theorem place_table (e : Entry) (s : State) : (place e s).table = s.table := (place_frame e s).1 .table (by decide)

theorem sampleButtons_unpressed (h : s.cab.restartButton ≠ .edge) : (sampleButtons s).table = s.table := by
  have hit : s.cab.restartButton.recognised (s.inputActive s.params.cab.restartInput) = false := by
    rw [Button.recognised, beq_eq_false_iff_ne.2 h]
    rfl
  unfold sampleButtons; dsimp only
  rw [hit]
  split
  · exact (place_table _ _).trans rfl
  · rfl

/-- The handles judged. -/
def handlesJudged (s : State) : State := (List.range 4).foldl judgeHandle s

theorem handlesJudged_moves (s : State) : Moves handleTags s (handlesJudged s) :=
  .foldl _ (fun u k _ => judgeHandle_moves u k) s

/-- The switch and the buttons sampled. -/
def buttonsSampled (s : State) : State :=
  sampleButtons ((handlesJudged s).onCab (sampleWalkMode (s.inputActive s.params.cab.walkModeInput)))

theorem cabCycle_eq (s : State) : cabCycle s = if s.role = .cab ∧ s.joined = true then
    placeReference (rankAfter .alarm s (handlesJudged s)) (buttonsSampled s) else s := rfl

theorem cabCycle_unpressed (h : s.cab.restartButton ≠ .edge) :
    (cabCycle s).table.refusalFlash = s.table.refusalFlash := by
  rw [cabCycle_eq]
  split
  · have judged := handlesJudged_moves s
    have button := judged.cabField (fun c => c.restartButton) fun p hp c c' ho => by
      cases p with
      | handles => rw [ho.1]
      | _ => exact absurd hp (by decide)
    have unpressed : ∀ (u : State) g, (∀ c, (g c).restartButton = c.restartButton) → u.cab.restartButton ≠ .edge →
        (sampleButtons (u.onCab g)).table = u.table := fun u g hg hu =>
      sampleButtons_unpressed (s := u.onCab g) ((hg u.cab).trans_ne hu)
    have table : (buttonsSampled s).table = (handlesJudged s).table :=
      unpressed _ _ (fun _ => rfl) (button.trans_ne h)
    rw [placeReference, place_table, table]
    exact judged.refusal (by decide) (by decide)
  · rfl

theorem work_refusal (hr : s.role = .cab) (hn : s.table.refusalFlash = 1) (hb : s.cab.restartButton ≠ .edge) :
    Event.refusalFlashEnd ∈ (cycleWork s).events ∧ (cycleWork s).table.refusalFlash = 0 := by
  have before := ringed_moves s
  have flash := before.refusal (by decide) (by decide)
  have cab : (ringed s).cab = s.cab := before.block .cab (by decide)
  obtain ⟨noted, zero⟩ := annunciatorCycle_ends (before.role.trans hr) (flash.trans hn)
  have still : (annunciatorCycle (ringed s)).cab = (ringed s).cab := (annunciatorCycle_moves _).block .cab (by decide)
  have unpressed : (cabbed s).table.refusalFlash = 0 := (cabCycle_unpressed (by rw [still, cab]; exact hb)).trans zero
  have rest := fromCab_moves s
  exact ⟨rest.events_mono ((cabCycle_moves _).events_mono noted), (rest.refusal (by decide) (by decide)).trans unpressed⟩

/-! ### The purge of the machine table -/

/-- A long cycle that notes a purge drops records that then were of the purge age. -/
theorem tableLongCycle_purge (h : Event.tablePurge ∈ (tableLongCycle s).events) (hn : Event.tablePurge ∉ s.events) :
    (∃ r ∈ s.table.records, 26 ≤ r.age + 1) ∧ ∀ r ∈ (tableLongCycle s).table.records, r.age < 26 := by
  unfold tableLongCycle at h ⊢
  split at h
  · next hr =>
    rw [if_pos hr]
    dsimp only at h ⊢
    split at h
    · next hp =>
      rw [if_pos hp]
      obtain ⟨r, hr, hd⟩ := List.any_eq_true.1 hp
      refine ⟨⟨r, hr, of_decide_eq_true hd⟩, fun x hx => ?_⟩
      have hx : x ∈ (ageTable s.table).records := hx
      rw [ageTable, refreshFirstOut_records] at hx
      exact of_decide_eq_true (List.mem_filter.1 hx).2
    · exact absurd h hn
  · exact absurd h hn

/-- A cycle start up to the ageing of its machine table. -/
def agedFrom (s : State) : State := refreshRound (shareLongCycle (shortCounts s))

theorem agedFrom_moves (s : State) :
    Moves ((lineTags ++ ([.long] ++ pictureTags)) ++ ((termTags ++ quarantineTags) ++ roundTags)) s (agedFrom s) := by
  have short := shortCounts_moves s
  unfold agedFrom
  generalize shortCounts s = u at short ⊢
  have share := shareLongCycle_moves u
  generalize shareLongCycle u = v at share ⊢
  exact (short.mono fun _ h => List.mem_append_left _ h).trans
    ((share.mono fun _ h => List.mem_append_right _ (List.mem_append_left _ h)).trans
      ((refreshRound_moves v).mono fun _ h => List.mem_append_right _ (List.mem_append_right _ h)))

theorem cycleCounts_agedFrom (h : isLongCycle s = true) :
    cycleCounts s = (tableLongCycle (agedFrom s)).note .longCycle := by
  rw [cycleCounts_eq, if_pos h, longCycleWork, agedFrom]

theorem work_purge (h : Event.tablePurge ∈ (cycleWork s).events) (hn : Event.tablePurge ∉ s.events) :
    (∃ r ∈ s.table.records, 25 ≤ r.age) ∧ ∀ r ∈ (cycleWork s).table.records, r.age < 26 := by
  have rest := afterCounts_moves s
  have counted : Event.tablePurge ∈ (cycleCounts s).events := (rest.events_none (by decide)).1 h
  have before := agedFrom_moves s
  have quiet : Event.tablePurge ∉ (agedFrom s).events := fun he => hn ((before.events_none (by decide)).1 he)
  have form : cycleCounts s = (tableLongCycle (agedFrom s)).note .longCycle := by
    by_cases hl : isLongCycle s = true
    · exact cycleCounts_agedFrom hl
    · rw [cycleCounts_eq, if_neg hl] at counted
      exact absurd (((shortCounts_moves s).events_none (by decide)).1 counted) hn
  rw [form] at counted
  have noted : Event.tablePurge ∈ (tableLongCycle (agedFrom s)).events :=
    (List.mem_cons.1 counted).resolve_left (by decide)
  obtain ⟨⟨r, hr, hold⟩, young⟩ := tableLongCycle_purge noted quiet
  refine ⟨?_, fun x hx => ?_⟩
  · rcases before.ages (by decide) r hr with hz | ⟨y, hy, he⟩
    · omega
    · exact ⟨y, hy, by omega⟩
  · rcases rest.ages (by decide) x hx with hz | ⟨y, hy, he⟩
    · omega
    · rw [form, State.note_table] at hy
      have := young y hy
      omega

end

/-! ### The state in which the work begins -/

section
variable (i : Inputs) (s : State)

theorem fallen_lists (h : ListsOrdered s) : ListsOrdered (fallen i s) :=
  (fallen_moves i s).listsOrdered ⟨h.1, h.2, h.3, h.4⟩

theorem fallen_joined : (fallen i s).joined = s.joined := joined_of_startup (fallen_startup i s)
theorem fallen_role : (fallen i s).role = s.role := role_of_startup (fallen_startup i s)
theorem fallen_params : (fallen i s).params = s.params := params_of_startup (fallen_startup i s)
theorem fallen_globals : (fallen i s).globals = s.globals := globals_of_startup (fallen_startup i s)

theorem fallen_ring : Rearmed s.ring (fallen i s).ring := (fallen_moves i s).rearmed (by decide)

theorem fallen_flash : (fallen i s).table.flashCount = s.table.flashCount
    ∧ (fallen i s).table.flashPhase = s.table.flashPhase ∧ (fallen i s).table.refusalFlash = s.table.refusalFlash :=
  have m := fallen_moves i s
  ⟨(m.flash (by decide)).2, (m.flash (by decide)).1, m.refusal (by decide) (by decide)⟩

theorem fallen_restartButton : (fallen i s).cab.restartButton = s.cab.restartButton :=
  (fallen_moves i s).cabField (fun c => c.restartButton) fun p hp c c' ho => by
    cases p with
    | emergency => rw [ho]
    | _ => exact absurd hp (by decide)

theorem fallen_peer (n : Nat) : (fallen i s).peer n = s.peer n :=
  peer_of_picture (show (fallen i s).picture = s.picture from (fallen_moves i s).block .picture (by decide)) n

end

end Sys2Proof.Machine

open Sys2Proof Sys2Proof.Machine

/-- Settles O47: each event is noted by the stage of the cycle start that counts it, and what that stage leaves stands
to the end of the cycle start. -/
theorem countedEventsFall : Obligations.CountedEventsFall := by
  intro i s hr
  have fall := fun {e : Event} (he : e ∈ (cycleWork (fallen i s)).events) => exec_falls hr he
  have clock := fallen_time i s
  have line := fun {α} (f : LineUnit → α) hq ha => fallen_lineField (α := α) f hq ha i s
  refine ⟨fun hl => ?_, fun hc hn => ?_, fun hs hn => ?_, fun n hn ho hh ha hst => ?_, fun ha hns hh hslots => ?_,
    fun hrole hn => ?_, fun hrole hn hb => ?_, fun hd => ?_⟩
  · have long : isLongCycle (fallen i s) = true := by
      unfold isLongCycle
      rw [fallen_globals, clock]
      exact decide_eq_true hl
    obtain ⟨d, time⟩ := work_time i s
    refine ⟨_, fall ((afterCounts_moves _).events_mono (cycleCounts_long long)), ?_, ?_⟩ <;> rw [time]
    exact if_pos hl
  · obtain ⟨noted, off, held, cleared⟩ := work_duplicate (s := fallen i s)
      ((line (fun l => l.dupCounting) (fun _ _ _ => rfl) fun _ _ => rfl).trans hc)
      ((line (fun l => l.dupCount) (fun _ _ _ => rfl) fun _ _ => rfl) ▸ hn)
    exact ⟨_, fall noted, off, held, fun hj hlist => cleared ((fallen_joined i s).trans hj) (fallen_lists i s hlist)⟩
  · obtain ⟨noted, state, loopback, seq⟩ := work_rejoin (s := fallen i s)
      ((line (fun l => l.state) (fun _ _ _ => rfl) fun _ _ => rfl).trans hs)
      ((line (fun l => l.faultStarts) (fun _ _ _ => rfl) fun _ _ => rfl) ▸ hn)
    exact ⟨_, fall noted, state, loopback, (probe_seq _).trans seq⟩
  · have peer := fallen_peer i s n
    have noted := work_silent (s := fallen i s) hn (by rw [station_of_startup (fallen_startup i s)]; exact ho)
      (by rw [peer]; exact hh) (by rw [peer, fallen_globals]; exact ha) (by rw [fallen_globals]; exact hst)
    have aged : (cycleWork (fallen i s)).peer n = { s.peer n with age := s.globals.staleness + 1 } := by
      rw [cycleWork_peer, peer, ageRecord, if_pos hh]
      have up : bump8 s.globals.staleness = s.globals.staleness + 1 := Nat.min_eq_right hst
      rw [ha, up]
    have globals : (cycleWork (fallen i s)).globals = s.globals := (cycleWork_moves _).globals.trans (fallen_globals i s)
    refine ⟨_, fall noted, ?_, by rw [aged]⟩
    rw [State.isStale, aged, globals, hh]
    exact decide_eq_true (Nat.lt_succ_self _)
  · obtain ⟨starved, hold, slots⟩ : (fallen i s).ring.starved = s.ring.starved ∧ (fallen i s).ring.hold = s.ring.hold
        ∧ (fallen i s).ring.slots = s.ring.slots := by
      rcases fallen_ring i s with h | h <;> rw [h] <;> exact ⟨rfl, rfl, rfl⟩
    obtain ⟨noted, now, zero⟩ := work_starves (s := fallen i s) (by rw [fallen_role]; exact ha) (starved.trans hns)
      (by rw [fallen_params, hold]; exact hh) (by rw [slots, clock]; exact hslots)
    exact ⟨_, fall noted, now, zero⟩
  · obtain ⟨count, phase, -⟩ := fallen_flash i s
    obtain ⟨noted, phase', count'⟩ := work_turns (s := fallen i s) (by rw [fallen_role]; exact hrole) (count ▸ hn)
    exact ⟨_, fall noted, by rw [phase', phase], count'⟩
  · obtain ⟨-, -, flash⟩ := fallen_flash i s
    obtain ⟨noted, zero⟩ := work_refusal (s := fallen i s) (by rw [fallen_role]; exact hrole) (flash.trans hn)
      (by rw [fallen_restartButton]; exact hb)
    exact ⟨_, fall noted, zero⟩
  · obtain ⟨⟨r, hr', hage⟩, young⟩ := work_purge (fallsDue_iff.1 hd).2 (fallen_events i s _)
    refine ⟨_, exec_due hd, ?_, young⟩
    rcases (fallen_moves i s).ages (by decide) r hr' with hz | ⟨x, hx, he⟩
    · omega
    · exact ⟨x, hx, he ▸ hage⟩

end

section
/-! PROOFS. What the moves leave of an active alarm, of a tripped station's drive, and of the drive chain where only its
owned hook is watched (R88, R166, R167, R173). -/

namespace Sys2Proof.Machine

/-! ### An active alarm of STOP or TRIP severity -/

/-- A record of one of the keys stands active. -/
def ActiveOf (q : AlarmCode × Option Nat → Prop) (l : List AlarmRecord) : Prop :=
  ∃ r ∈ l, q r.key ∧ r.state ≠ .clearedUnack

section
variable {s t : State} {gs : List Tag} {c c' : AlarmCode} {d : Option Nat} {l : List AlarmRecord}
  {q : AlarmCode × Option Nat → Prop}

theorem ActiveOf.insert (h : ActiveOf q l) (x : AlarmRecord) : ActiveOf q (alarmInsert x l) := by
  obtain ⟨r, hr, hc⟩ := h
  exact ⟨r, mem_alarmInsert.2 (.inr hr), hc⟩

theorem ActiveOf.evicts {v : Severity} {k : Nat} (h : ActiveOf q l) (hw : ∀ k, q k → k.1.severity ≠ .warn)
    (hk : alarmVictim v l = some k) : ActiveOf q (l.eraseIdx k) := by
  obtain ⟨r, hr, key, state⟩ := h
  obtain ⟨x, hx, gives⟩ := alarmVictim_gives hk
  obtain ⟨j, hj⟩ := List.mem_iff_getElem?.1 hr
  refine ⟨r, List.mem_eraseIdx_iff_getElem?.2 ⟨j, fun hjk => ?_, hj⟩, key, state⟩
  rw [hjk, hx] at hj
  obtain rfl := Option.some.inj hj
  exact gives.elim state (hw _ key)

/-- No raise ends an active record of STOP or TRIP severity. -/
theorem ActiveOf.raise (h : ActiveOf q s.alarms.list) (hw : ∀ k, q k → k.1.severity ≠ .warn) :
    ActiveOf q (raiseQuiet c' d s).alarms.list := by
  obtain ⟨r, hr, key, state⟩ := id h
  by_cases hj : s.joined = true
  · unfold raiseQuiet
    cases hx : s.alarms.list.find? (isRecord c' d) with
    | none =>
      rw [raiseRecord_absent hj hx]
      by_cases hl : s.alarms.list.length < Config.alarmListSize
      · rw [enterRecord_room hl, report_list]
        exact h.insert _
      · cases hv : alarmVictim c'.severity s.alarms.list with
        | some k =>
          rw [enterRecord_evicts (r := freshRecord c' d s.now) hl hv, report_list]
          exact (h.evicts hw hv).insert _
        | none =>
          rw [enterRecord_lost (r := freshRecord c' d s.now) hl hv]
          exact h
    | some x =>
      have found := isRecord_iff.1 (List.find?_some hx)
      have same : isRecord c' d r = true → q x.key := fun hk => by
        rw [found, ← isRecord_iff.1 hk]
        exact key
      by_cases hs : x.state = .clearedUnack
      · rw [raiseRecord_anew hj hx hs, report_list]
        by_cases hk : isRecord c' d r = true
        · exact ⟨_, mem_alarmInsert.2 (.inl rfl), same hk, fun h => nomatch h⟩
        · exact ⟨r, mem_alarmInsert.2 (.inr (List.mem_filter.2 ⟨hr, by simpa using hk⟩)), key, state⟩
      · rw [raiseRecord_again hj hx hs, report_list]
        by_cases hk : isRecord c' d r = true
        · exact ⟨_, List.mem_map.2 ⟨r, hr, if_pos hk⟩, same hk, hs⟩
        · exact ⟨r, List.mem_map.2 ⟨r, hr, if_neg hk⟩, key, state⟩
  · rw [raiseQuiet, raiseRecord_idle (by simpa using hj)]
    exact h

/-- No clear of another key ends it. -/
theorem ActiveOf.clear (h : ActiveOf q s.alarms.list) (hc : ¬ q (c', d)) : ActiveOf q (clearAlarm c' d s).alarms.list := by
  obtain ⟨r, hr, key, state⟩ := id h
  have apart : ¬ isRecord c' d r = true := fun hi => hc (isRecord_iff.1 hi ▸ key)
  by_cases hj : s.joined = true
  · cases hx : s.alarms.list.find? (isRecord c' d) with
    | none => rw [clearAlarm_absent hx]; exact h
    | some x =>
      cases hs : x.state with
      | clearedUnack => rw [clearAlarm_cleared hx hs]; exact h
      | activeAck =>
        rw [clearAlarm_acked hj hx hs]
        exact ⟨r, List.mem_filter.2 ⟨hr, by simpa using apart⟩, key, state⟩
      | activeUnack =>
        rw [clearAlarm_active hj hx hs]
        exact ⟨r, List.mem_map.2 ⟨r, hr, if_neg apart⟩, key, state⟩
  · rw [clearAlarm_idle (by simpa using hj)]
    exact h

/-- The moves that may clear a code. -/
def Tag.clears (c : AlarmCode) : Tag → Bool
  | .cleared x => x == c
  | _ => false

theorem Move.active' {g : Tag} (m : Move g s t) (hw : c.severity ≠ .warn) (hq : ∀ k, q k → k.1 = c)
    (hg : g.clears c = false) (h : ActiveOf q s.alarms.list) : ActiveOf q t.alarms.list := by
  have high : ∀ k, q k → k.1.severity ≠ .warn := fun k hk => hq k hk ▸ hw
  by_cases hb : Block.alarms ∈ g.blocks
  · cases m with
    | trip => rw [trip_list]; exact h
    | raised c' d' => exact h.raise high
    | cleared c' d' =>
      have other : c' ≠ c := by simpa [Tag.clears] using hg
      exact h.clear fun hk => other (hq _ hk)
    | dropped n => exact (h.raise high).clear fun hk => high _ hk rfl
    | refresh => exact h
    | _ => exact absurd hb (by simp [Tag.blocks])
  · rwa [show t.alarms = s.alarms from m.frame.1 .alarms hb]

/-! ### The count of lost raises -/

theorem raiseQuiet_lost (c : AlarmCode) (d : Option Nat) (s : State) :
    Grown s.alarms.lost (raiseQuiet c d s).alarms.lost := by
  unfold raiseQuiet
  by_cases hj : s.joined = true
  · cases hx : s.alarms.list.find? (isRecord c d) with
    | none =>
      rw [raiseRecord_absent hj hx]
      by_cases hl : s.alarms.list.length < Config.alarmListSize
      · rw [enterRecord_room hl, report_lost]
        exact .refl _
      · cases hv : alarmVictim c.severity s.alarms.list with
        | some k =>
          rw [enterRecord_evicts (r := freshRecord c d s.now) hl hv, report_lost, report_lost]
          exact .refl _
        | none =>
          rw [enterRecord_lost (r := freshRecord c d s.now) hl hv]
          exact (risen_bump _).grown
    | some x =>
      by_cases hs : x.state = .clearedUnack
      · rw [raiseRecord_anew hj hx hs, report_lost]; exact .refl _
      · rw [raiseRecord_again hj hx hs, report_lost]; exact .refl _
  · rw [raiseRecord_idle (by simpa using hj)]
    exact .refl _

theorem clearAlarm_lost (c : AlarmCode) (d : Option Nat) (s : State) :
    (clearAlarm c d s).alarms.lost = s.alarms.lost := by
  unfold clearAlarm; dsimp only
  split
  · rfl
  · split
    · rfl
    · rw [rearmIf_alarms]
      split
      · rfl
      · exact report_lost _ _ _ _ s
      · exact report_lost _ _ _ _ s

theorem Move.lost {g : Tag} (m : Move g s t) : Grown s.alarms.lost t.alarms.lost := by
  by_cases hb : Block.alarms ∈ g.blocks
  · cases m with
    | trip =>
      rw [(driveTripped_frame _).1 .alarms (by decide)]
      exact .refl _
    | raised c d => exact raiseQuiet_lost c d s
    | cleared c d => rw [clearAlarm_lost]; exact .refl _
    | dropped n =>
      unfold loanDropped raiseAndClear
      rw [clearAlarm_lost]
      exact raiseQuiet_lost _ _ s
    | refresh => exact .refl _
    | _ => exact absurd hb (by simp [Tag.blocks])
  · rw [show t.alarms = s.alarms from m.frame.1 .alarms hb]
    exact .refl _

theorem Moves.lost (m : Moves gs s t) : Grown s.alarms.lost t.alarms.lost := by
  induction m with
  | refl => exact .refl _
  | tail _ hlast ih =>
    obtain ⟨g, -, m⟩ := hlast
    exact ih.trans m.lost

/-- One of the keys stands active, or since a count of lost raises was read a raise was lost. -/
def HeldOf (q : AlarmCode × Option Nat → Prop) (n : Nat) (s : State) : Prop :=
  ActiveOf q s.alarms.list ∨ Risen n s.alarms.lost

/-- The code stands active, or since a count of lost raises was read a raise was lost. -/
def Held (c : AlarmCode) (n : Nat) (s : State) : Prop := HeldOf (fun k => k.1 = c) n s

theorem Moves.heldOf {n : Nat} (m : Moves gs s t) (hw : c.severity ≠ .warn) (hq : ∀ k, q k → k.1 = c)
    (hg : gs.any (Tag.clears c) = false) (h : HeldOf q n s) : HeldOf q n t := by
  rcases h with h | h
  · refine .inl ?_
    induction m with
    | refl => exact h
    | tail _ hlast ih =>
      obtain ⟨g, hm, m⟩ := hlast
      exact m.active' hw hq (by simpa using List.any_eq_false.1 hg g hm) ih
  · exact .inr (h.then m.lost)

theorem Moves.held {n : Nat} (m : Moves gs s t) (hw : c.severity ≠ .warn) (hg : gs.any (Tag.clears c) = false)
    (h : Held c n s) : Held c n t := m.heldOf hw (fun _ h => h) hg h

theorem heldOf_raise (hj : s.joined = true) (c : AlarmCode) (d : Option Nat) (hq : q (c, d)) {n : Nat}
    (hn : Grown n s.alarms.lost) : HeldOf q n (raiseQuiet c d s) := by
  rcases raiseRecord_stands (d := d) c hj with ⟨r, hr, hk, hs⟩ | ⟨-, -, hl⟩
  · exact .inl ⟨r, hr, hk ▸ hq, hs⟩
  · refine .inr (hn.risen ?_)
    show Risen _ (raiseRecord c d s).1.alarms.lost
    rw [hl]
    exact risen_bump _

theorem held_raise (hj : s.joined = true) (c : AlarmCode) (d : Option Nat) {n : Nat} (hn : Grown n s.alarms.lost) :
    Held c n (raiseQuiet c d s) := heldOf_raise (q := fun k => k.1 = c) hj c d rfl hn

theorem Held.standsOrLost (h : Held c s.alarms.lost t) : standsOrLost c s t := by
  rcases h with h | ⟨h, -⟩ | h
  · exact .inl h
  · exact .inr (.inl h)
  · exact .inr (.inr h)

/-! ### The drive of a tripped station -/

/-- The station is TRIPPED and its drive safe. -/
def Safe (s : State) : Prop := s.alarms.mode = .tripped ∧ driveSafe s.drive

/-- Nothing but a restart leaves a tripped station's drive. -/
theorem Move.safe {g : Tag} (m : Move g s t) (h : Safe s) : Safe t := by
  by_cases hg : g = .linkFrame
  · subst hg
    cases m with
    | linkFrame =>
      obtain ⟨f, word, -, brake⟩ := h.2
      refine ⟨h.1, f, word, ?_, brake⟩
      show (s.alarms.mode == .run && s.ownedHook && _) = false
      rw [h.1]
      rfl
  · exact ⟨m.tripped h.1, (m.watched (fun he => absurd he hg) (watched_of_safe h.2)).safe (.inl (m.tripped h.1))⟩

theorem Moves.safe (m : Moves gs s t) (h : Safe s) : Safe t := m.keeps (fun _ _ _ _ m => m.safe) h

theorem raiseRecord_heeded (hj : s.joined = true) (c : AlarmCode) (d : Option Nat) :
    (raiseRecord c d s).2 ≠ .ignored := by
  cases hx : s.alarms.list.find? (isRecord c d) with
  | none =>
    rw [raiseRecord_absent hj hx]
    by_cases hl : s.alarms.list.length < Config.alarmListSize
    · rw [enterRecord_room hl]; exact fun h => nomatch h
    · cases hv : alarmVictim c.severity s.alarms.list with
      | some k =>
        rw [enterRecord_evicts (r := freshRecord c d s.now) hl hv]
        exact fun h => nomatch h
      | none =>
        rw [enterRecord_lost (r := freshRecord c d s.now) hl hv]
        exact fun h => nomatch h
  | some x =>
    by_cases hs : x.state = .clearedUnack
    · rw [raiseRecord_anew hj hx hs]; exact fun h => nomatch h
    · rw [raiseRecord_again hj hx hs]; exact fun h => nomatch h

/-- A raise of TRIP severity at an axis station trips it (R93, R173). -/
theorem raise_safe (hc : c.severity = .trip) (hj : s.joined = true) (ha : s.role.isAxis = true) (d : Option Nat) :
    Safe (raise c d s) := by
  have startup : (raiseRecord c d s).1.startup = s.startup := (raiseQuiet_frame c d s).1 .startup (by decide)
  have role : (raiseRecord c d s).1.role.isAxis = true := by
    rw [role_of_startup startup]
    exact ha
  have tripped : Safe (enterTripped (raiseRecord c d s).1) := ⟨enterTripped_mode _, (enterTripped_stopped role).1⟩
  unfold raise; dsimp only
  rw [if_pos ⟨hc, raiseRecord_heeded hj c d⟩]
  split
  · exact tripped
  · exact (placeTrip_moves _ _ _ _).safe tripped

/-! ### The drive chain where only its hook is watched -/

/-- The drive chain but for its outputs and its most recent frame, a stop frame awaiting as R89 says. -/
structure HookOnly (d d' : Drive) : Prop where
  rest : d' = { d with f := d'.f, fieldWord := d'.fieldWord, enable := d'.enable, ownedSeen := d'.ownedSeen,
                       frameWord := d'.frameWord, frameEnable := d'.frameEnable, awaiting := d'.awaiting }
  awaits : d'.awaiting = d.awaiting ∨ d'.awaiting = d.ran

theorem HookOnly.refl (d : Drive) : HookOnly d d := ⟨rfl, .inl rfl⟩

theorem HookOnly.ran {d d' : Drive} (h : HookOnly d d') : d'.ran = d.ran := by rw [h.rest]

theorem HookOnly.trans {d d' d'' : Drive} (h : HookOnly d d') (k : HookOnly d' d'') : HookOnly d d'' := by
  refine ⟨k.rest.trans ?_, ?_⟩
  · conv_lhs => rw [h.rest]
  · rcases k.awaits with k | k
    · exact h.awaits.imp k.trans k.trans
    · exact .inr (k.trans h.ran)

theorem watchOwned_hookOnly (s : State) : HookOnly s.drive (watchOwned s).drive := by
  unfold watchOwned; dsimp only
  split
  · exact ⟨rfl, .inr rfl⟩
  · exact ⟨rfl, .inl rfl⟩

/-- The moves of a tag touch no more of the drive chain than its hook. -/
def Tag.hookOnly : Tag → Bool
  | .drive _ | .output | .brake | .linkFrame | .trip => false
  | _ => true

theorem Move.hookOnly {g : Tag} (m : Move g s t) (hg : g.hookOnly = true) : HookOnly s.drive t.drive := by
  by_cases hb : Block.drive ∈ g.blocks
  · cases m with
    | inputs i => exact watchOwned_hookOnly { s with inputs := i }
    | own w => exact watchOwned_hookOnly (s.onRope _)
    | reclaim =>
      have drive : (setRearm (s.onRope fun r => { r with ownership := .reclaiming })).drive = s.drive :=
        (setRearm_frame _).1 .drive (by decide)
      exact drive ▸ watchOwned_hookOnly _
    | walkTo w =>
      unfold setWalkState; dsimp only
      split
      · exact watchOwned_hookOnly ((muteEntries .xferAsk s).onWalk _)
      · exact watchOwned_hookOnly (s.onWalk _)
    | drive | output | brake | linkFrame | trip => cases hg
    | _ => exact absurd hb (by simp [Tag.blocks])
  · rw [show t.drive = s.drive from m.frame.1 .drive hb]
    exact .refl _

theorem Moves.hookOnly (m : Moves gs s t) (hg : gs.all Tag.hookOnly = true) : HookOnly s.drive t.drive := by
  induction m with
  | refl => exact .refl _
  | tail _ hlast ih =>
    obtain ⟨g, hm, m⟩ := hlast
    exact ih.trans (m.hookOnly (List.all_eq_true.1 hg g hm))

/-! ### A cycle start of an axis station up to the drive chain -/

/-- The moves of the PACE and of the sample away from the cab. -/
def fallAxisTags : List Tag := .place .pace :: .settle :: .inputs :: captureTags

theorem fallen_axis_moves (i : Inputs) (h : s.role ≠ .cab) : Moves fallAxisTags (ticked s) (fallen i s) := by
  have pace := (placePace_moves (ticked s)).mono (hs := fallAxisTags) (by decide)
  have role : (placePace (ticked s)).role ≠ .cab := by
    rw [pace.role]
    exact h
  have sample : sampleInputs i (placePace (ticked s)) = captureEdges (placePace (ticked s)).inputs.din none
      (watchOwned { placePace (ticked s) with inputs := i }) := by
    rw [sampleInputs, sampleAfter_eq, sampled_other fun hc => role hc.1]
  rw [fallen, sample]
  exact (pace.trans ((Move.inputs i _).moves (by decide))).trans ((captureEdges_moves _ _ _).mono (by decide))

theorem earlyTags_hookOnly : (fallAxisTags ++ earlyTags).all Tag.hookOnly = true := by decide

/-- The moves of an axis station's cycle start up to the drive chain. -/
theorem cabbed_axis_moves (i : Inputs) (h : s.role ≠ .cab) :
    Moves (fallAxisTags ++ earlyTags) (ticked s) (cabbed (fallen i s)) :=
  ((fallen_axis_moves i h).mono fun _ h => List.mem_append_left _ h).trans
    ((cabbed_moves _).mono fun _ h => List.mem_append_right _ h)

/-- The drive chain as its cycle begins. -/
theorem cabbed_drive (i : Inputs) (h : s.role ≠ .cab) : HookOnly s.drive (cabbed (fallen i s)).drive :=
  (cabbed_axis_moves i h).hookOnly earlyTags_hookOnly

end

end Sys2Proof.Machine

end

section
/-! PROOFS. The drive chain's checks, the brake logic and the stall count at a cycle start, with their events (R87, R89 to
R92). -/

namespace Sys2Proof.Machine

section
variable {s t : State} {gs : List Tag} {α : Type}

/-! ### Fields of the drive chain -/

/-- A field of the drive chain that is no output, no frame and none of the brake's stands where none of the tags forms
it. -/
theorem Moves.driveField (m : Moves gs s t) (f : Drive → α)
    (hw : ∀ d x w e o fw fe a b n, f
      { d with
        f := x, fieldWord := w, enable := e, ownedSeen := o, frameWord := fw, frameEnable := fe, awaiting := a,
        brake := b, delay := n } = f d)
    (hp : ∀ p, Tag.drive p ∈ gs → ∀ d d', p.only d d' → f d' = f d) : f t.drive = f s.drive :=
  m.same (f := fun u => f u.drive) fun g hg u v m => by
    by_cases hh : g.hookOnly = true
    · rw [(m.hookOnly hh).rest]
      exact hw u.drive _ _ _ _ _ _ _ u.drive.brake u.drive.delay
    · cases m with
      | drive p x _ ho => exact hp p hg _ _ ho
      | output b x => exact hw u.drive _ _ _ _ _ _ _ _ _
      | brake b n => exact hw u.drive _ _ _ _ _ _ _ _ _
      | linkFrame => exact hw u.drive _ _ _ _ _ _ _ _ _
      | trip =>
        unfold driveTripped
        split
        · exact hw u.drive _ _ _ _ _ _ _ _ _
        · rfl
      | _ => exact absurd rfl hh

/-- A frame awaits its acknowledge, and the drive chain has run. -/
def FrameAwaits (d : Drive) : Prop := d.ran = true ∧ d.awaiting = true

theorem Move.frameAwaits {g : Tag} (m : Move g s t) (hg : g ≠ .drive .ran) (h : FrameAwaits s.drive) :
    FrameAwaits t.drive := by
  obtain ⟨ran, awaits⟩ := id h
  by_cases hh : g.hookOnly = true
  · have hook := m.hookOnly hh
    exact ⟨hook.ran.trans ran, hook.awaits.elim (·.trans awaits) (·.trans ran)⟩
  · cases m with
    | drive p x _ ho =>
      rw [State.onDrive_drive]
      cases p with
      | ran => exact absurd rfl hg
      | _ => rw [ho]; exact h
    | output => exact h
    | brake => exact h
    | linkFrame => exact ⟨ran, rfl⟩
    | trip =>
      unfold driveTripped
      split
      · exact ⟨ran, ran⟩
      · exact h
    | _ => exact absurd rfl hh

theorem Moves.frameAwaits (m : Moves gs s t) (hg : Tag.drive .ran ∉ gs) (h : FrameAwaits s.drive) :
    FrameAwaits t.drive := by
  induction m with
  | refl => exact h
  | tail _ hlast ih =>
    obtain ⟨g, hm, m⟩ := hlast
    exact m.frameAwaits (fun he => hg (he ▸ hm)) ih

theorem DriveField.delay {p : DriveField} {d d' : Drive} (h : p.only d d') : d'.delay = d.delay := by
  cases p <;> rw [h]

/-- The brake command and its delay change only by the brake logic and at an entry to TRIPPED, which sets the brake. -/
theorem Move.brake' {g : Tag} (m : Move g s t) (hg : g ≠ .brake) :
    (t.drive.brake = s.drive.brake ∧ t.drive.delay = s.drive.delay)
      ∨ (t.alarms.mode = .tripped ∧ t.drive.brake = .set) := by
  by_cases hh : g.hookOnly = true
  · rw [(m.hookOnly hh).rest]
    exact .inl ⟨rfl, rfl⟩
  · cases m with
    | drive p x _ ho => exact .inl ⟨(p.outputs ho).2.2.2.1, p.delay ho⟩
    | output => exact .inl ⟨rfl, rfl⟩
    | brake => exact absurd rfl hg
    | linkFrame => exact .inl ⟨rfl, rfl⟩
    | trip =>
      have mode := trip_mode s
      unfold driveTripped at mode ⊢
      split
      · next ha =>
        rw [if_pos ha] at mode
        exact .inr ⟨mode, rfl⟩
      · exact .inl ⟨rfl, rfl⟩
    | _ => exact absurd rfl hh

theorem Moves.brakeSet (m : Moves gs s t) (hg : Tag.brake ∉ gs) (h : s.drive.brake = .set) : t.drive.brake = .set := by
  induction m with
  | refl => exact h
  | tail _ hlast ih =>
    obtain ⟨g, hm, m⟩ := hlast
    rcases m.brake' fun he => hg (he ▸ hm) with hb | hb
    · exact hb.1.trans ih
    · exact hb.2

/-- A station that is still in RUN was so before, with brake command and delay as they are. -/
theorem Moves.brakeRun (m : Moves gs s t) (hg : Tag.brake ∉ gs) (h : t.alarms.mode = .run) :
    s.alarms.mode = .run ∧ t.drive.brake = s.drive.brake ∧ t.drive.delay = s.drive.delay := by
  induction m with
  | refl => exact ⟨h, rfl, rfl⟩
  | @tail u v _ hlast ih =>
    obtain ⟨g, hm, m⟩ := hlast
    have run : u.alarms.mode = .run := by
      cases hu : u.alarms.mode with
      | run => rfl
      | tripped => rw [m.tripped hu] at h; cases h
    obtain ⟨mode, brake, delay⟩ := ih run
    rcases m.brake' fun he => hg (he ▸ hm) with hb | hb
    · exact ⟨mode, hb.1.trans brake, hb.2.trans delay⟩
    · rw [hb.1] at h; cases h

/-! ### The checks (R89, R91, R92) -/

/-- The checks made on the measurement. -/
def measured (s : State) : State := shareNeed (measure s)

theorem measured_moves (s : State) : Moves measureTags s (measured s) :=
  (measure_moves s).trans (shareNeed_moves _)

/-- The state after the checks. -/
def checked (s : State) : State := driveChecks (measured s)

theorem checked_eq (s : State) : checked s = checkSlip (checkBrake (checkLink (checkCurrent (measured s)))) := rfl

/-- The moves that follow the checks. -/
def afterCheckTags : List Tag := axisTags ++ outTags ++ afterTags ++ lateTags

theorem afterChecks_moves (hj : s.joined = true) (ha : s.role.isAxis = true) (late : Moves lateTags (chainCycle s) t) :
    Moves afterCheckTags (checked s) t := by
  have form : chainCycle s = chainAfter (chainOutputs (axisStep (checked s))) := if_pos (by rw [hj, ha]; rfl)
  rw [form] at late
  have startup : (checked s).startup = s.startup := (driveChecks_moves _).startup.trans (measured_moves s).startup
  have j : (checked s).joined = true := by rw [joined_of_startup startup, hj]
  have a : (checked s).role.isAxis = true := by rw [role_of_startup startup, ha]
  generalize checked s = u at late j a ⊢
  have axis := axisStep_moves u
  have j' : (axisStep u).joined = true := by rw [axis.joined, j]
  have a' : (axisStep u).role.isAxis = true := by rw [axis.role, a]
  generalize axisStep u = v at late axis j' a' ⊢
  have out := chainOutputs_moves j' a'
  generalize chainOutputs v = w at late out ⊢
  exact (((axis.mono fun _ h => by simp only [afterCheckTags, List.mem_append]; tauto).trans
    (out.mono fun _ h => by simp only [afterCheckTags, List.mem_append]; tauto)).trans
      ((chainAfter_moves w).mono fun _ h => by simp only [afterCheckTags, List.mem_append]; tauto)).trans
        (late.mono fun _ h => by simp only [afterCheckTags, List.mem_append]; tauto)

/-- The third unanswered frame (R89). -/
theorem checkLink_falls (h : FrameAwaits s.drive) (hm : s.drive.missing = 2) : checkLink s =
    (raise .fieldLinkLost none (s.onDrive fun d => { d with missing := 3 })).note .fieldLinkLost := by
  have three : bump8 s.drive.missing = 3 := by rw [hm]; rfl
  unfold checkLink
  rw [if_neg (by simp [h.1]), if_pos h.2]; dsimp only
  rw [three, if_pos ⟨by rw [hm]; decide, rfl⟩]

/-- The brake disagreement past its limit (R91). -/
theorem checkBrake_falls (hb : s.drive.brake = .set) (hi : s.drive.brakeInput = false)
    (hd : s.drive.disagree = s.params.drive.brakeCheck) (hl : s.params.drive.brakeCheck < 255) : checkBrake s =
    (raise .brakeFeedback none (s.onDrive fun d => { d with disagree := s.params.drive.brakeCheck + 1 })).note
      .brakeFeedback := by
  have up : bump8 s.drive.disagree = s.params.drive.brakeCheck + 1 := by
    rw [hd]
    exact Nat.min_eq_right hl
  unfold checkBrake
  rw [if_pos (by simp [brakeDisagrees, hb, hi])]; dsimp only
  rw [up, if_pos ⟨hd.le, Nat.lt_succ_self _⟩]

/-- The third slip (R92). -/
theorem checkSlip_falls (hb : s.drive.brake = .set) (hi : s.drive.brakeInput = true) (hs : s.drive.slip = 2)
    (hv : 20 < s.drive.speed.natAbs) : checkSlip s =
    (raise .brakeSlip none (s.onDrive fun d => { d with slip := 3 })).note .brakeSlip := by
  have slipping : slips s.drive = true := by
    simp only [slips, hb, hi, Bool.and_true, beq_self_eq_true, Bool.true_and]
    exact decide_eq_true (Int.ofNat_lt.2 hv)
  have up : bump8 s.drive.slip = 3 := by rw [hs]; rfl
  unfold checkSlip
  rw [if_pos slipping]; dsimp only
  rw [up]
  exact if_pos rfl

end

end Sys2Proof.Machine

end

section
/-! PROOFS. The events of the drive chain's checks (R89, R91, R92). -/

namespace Sys2Proof.Machine

section
variable {s : State} {i : Inputs}

/-- An axis station is no cab. -/
theorem noCab_of_axis (ha : s.role.isAxis = true) : s.role ≠ .cab := fun h => by rw [h] at ha; cases ha

/-- The state in which an axis station's drive chain begins its cycle. -/
structure ChainStart (i : Inputs) (s c : State) : Prop where
  moves : Moves (fallAxisTags ++ earlyTags) (ticked s) c
  startup : c.startup = s.startup
  inputs : c.inputs = i
  encoder : c.encoder = s.encoder
  joined : c.joined = true
  axis : c.role.isAxis = true
  rest : Moves lateTags (chainCycle c) (cycleWork (fallen i s))

theorem chainStart (hj : s.joined = true) (ha : s.role.isAxis = true) : ChainStart i s (cabbed (fallen i s)) := by
  have moves := cabbed_axis_moves (s := s) i (noCab_of_axis ha)
  have startup : (cabbed (fallen i s)).startup = s.startup := moves.startup
  have early := cabbed_moves (fallen i s)
  exact ⟨moves, startup, (early.block .inputs (by decide)).trans (fallen_inputs i s), moves.block .encoder (by decide),
    by rw [joined_of_startup startup, hj], by rw [role_of_startup startup, ha], fromChain_moves _⟩

namespace ChainStart
variable {c : State} (h : ChainStart i s c)
include h

/-- The moves up to the check of the field converter link, of the brake and of the slip. -/
theorem toLink : Moves (fallAxisTags ++ earlyTags ++ measureTags ++ currentTags) (ticked s) (checkCurrent (measured c)) :=
  ((h.moves.mono fun _ h => by simp only [List.mem_append] at h ⊢; tauto).trans
    ((measured_moves c).mono fun _ h => by simp only [List.mem_append]; tauto)).trans
      ((checkCurrent_moves _).mono fun _ h => by simp only [List.mem_append]; tauto)

theorem toBrake : Moves (fallAxisTags ++ earlyTags ++ measureTags ++ currentTags ++ linkTags) (ticked s)
    (checkLink (checkCurrent (measured c))) :=
  (h.toLink.mono fun _ h => List.mem_append_left _ h).trans ((checkLink_moves _).mono fun _ h => List.mem_append_right _ h)

theorem toSlip : Moves (fallAxisTags ++ earlyTags ++ measureTags ++ currentTags ++ linkTags ++ brakeTags) (ticked s)
    (checkBrake (checkLink (checkCurrent (measured c)))) :=
  (h.toBrake.mono fun _ h => List.mem_append_left _ h).trans ((checkBrake_moves _).mono fun _ h => List.mem_append_right _ h)

/-- The moves that follow each check. -/
theorem fromSlip : Moves (slipTags ++ afterCheckTags) (checkBrake (checkLink (checkCurrent (measured c))))
    (cycleWork (fallen i s)) :=
  ((checkSlip_moves _).mono fun _ h => List.mem_append_left _ h).trans
    ((checked_eq c ▸ afterChecks_moves h.joined h.axis h.rest).mono fun _ h => List.mem_append_right _ h)

theorem fromSlipped : Moves afterCheckTags (checkSlip (checkBrake (checkLink (checkCurrent (measured c)))))
    (cycleWork (fallen i s)) := checked_eq c ▸ afterChecks_moves h.joined h.axis h.rest

theorem fromBrake : Moves (brakeTags ++ (slipTags ++ afterCheckTags)) (checkLink (checkCurrent (measured c)))
    (cycleWork (fallen i s)) :=
  ((checkBrake_moves _).mono fun _ h => List.mem_append_left _ h).trans (h.fromSlip.mono fun _ h => List.mem_append_right _ h)

end ChainStart

theorem afterCheck_spares : ∀ p, Tag.drive p ∈ brakeTags ++ (slipTags ++ afterCheckTags) →
    p = .disagree ∨ p = .slip ∨ p = .stall ∨ p = .target ∨ p = .ran := by
  intro p
  simp only [afterCheckTags, outTags, lateTags, List.mem_append]
  cases p <;> decide

/-! ### The three checks fall -/

/-- A raise that does not trip, at a change of the drive chain. -/
theorem raise_counted {c : AlarmCode} (hc : c.severity ≠ .trip) (d : Option Nat) (g : Drive → Drive) {u : State} {n : Nat}
    (hj : u.joined = true) (hn : Grown n u.alarms.lost) : (raise c d (u.onDrive g)).drive = g u.drive
      ∧ Held c n (raise c d (u.onDrive g)) := by
  rw [raise_eq_quiet hc]
  exact ⟨(raiseQuiet_frame _ _ _).1 .drive (by decide), held_raise (s := u.onDrive g) hj c d hn⟩

theorem work_link (hj : s.joined = true) (ha : s.role.isAxis = true) (hf : FrameAwaits s.drive)
    (hm : s.drive.missing = 2) : Event.fieldLinkLost ∈ (cycleWork (fallen i s)).events
      ∧ (cycleWork (fallen i s)).drive.missing = 3 ∧ Safe (cycleWork (fallen i s)) := by
  have start := chainStart (i := i) hj ha
  generalize cabbed (fallen i s) = c at start
  have before := start.toLink
  have rest := start.fromBrake
  have falls : checkLink (checkCurrent (measured c)) = _ :=
    checkLink_falls (before.frameAwaits (by decide) hf) ((before.driveField (fun d => d.missing)
      (fun _ _ _ _ _ _ _ _ _ _ => rfl) fun p hp d d' ho => by
        cases p with
        | missing => exact absurd hp (by decide)
        | _ => rw [ho]).trans hm)
  have startup : (checkCurrent (measured c)).startup = s.startup := before.startup
  generalize checkCurrent (measured c) = u at falls rest startup
  rw [falls] at rest
  have counted : ∀ v : State, v = u.onDrive (fun d => { d with missing := 3 }) →
      (raise .fieldLinkLost none v).drive.missing = 3 ∧ Safe (raise .fieldLinkLost none v) := by
    rintro v rfl
    refine ⟨((raise_moves (by decide) _ _).driveField (fun d => d.missing) (fun _ _ _ _ _ _ _ _ _ _ => rfl)
      fun p hp => absurd hp (by cases p <;> decide)).trans rfl, raise_safe rfl ?_ ?_ none⟩
    · exact (joined_of_startup startup).trans hj
    · exact (congrArg Role.isAxis (role_of_startup startup)).trans ha
  obtain ⟨missing, safe⟩ := counted _ rfl
  refine ⟨rest.events_mono List.mem_cons_self, (rest.driveField (fun d => d.missing)
    (fun _ _ _ _ _ _ _ _ _ _ => rfl) fun p hp d d' ho => ?_).trans missing, rest.safe safe⟩
  rcases afterCheck_spares p hp with rfl | rfl | rfl | rfl | rfl <;> rw [ho]

/-- What the measurement forms of the brake's input and of the speed (R74, R75). -/
theorem measured_drive (s : State) : (measured s).drive.brakeInput = s.inputActive s.params.brakeInput
    ∧ (∀ e, s.drive.prevEncoder = some e → (measured s).drive.speed
        = measuredSpeed s.role (s.encoder - e).toInt s.params.drive.countsPerCycle) := by
  refine ⟨rfl, fun e he => ?_⟩
  show measuredSpeed s.role (match s.drive.prevEncoder with
      | none => 0
      | some e => signedDiff s.encoder e) s.params.drive.countsPerCycle = _
  rw [he]
  rfl

/-- The brake's input as the checks read it. -/
theorem measured_brakeInput {c : State} (h : ChainStart i s c) : (measured c).drive.brakeInput
    = (i.din.getLsbD s.params.brakeInput.number == s.params.brakeInput.high) := by
  rw [(measured_drive c).1, State.inputActive, h.inputs, params_of_startup h.startup]

theorem work_feedback (hj : s.joined = true) (ha : s.role.isAxis = true) (hb : s.drive.brake = .set)
    (hi : (i.din.getLsbD s.params.brakeInput.number == s.params.brakeInput.high) = false)
    (hd : s.drive.disagree = s.params.drive.brakeCheck) (hl : s.params.drive.brakeCheck < 255) :
    Event.brakeFeedback ∈ (cycleWork (fallen i s)).events
      ∧ (cycleWork (fallen i s)).drive.disagree = s.params.drive.brakeCheck + 1
      ∧ standsOrLost .brakeFeedback s (cycleWork (fallen i s)) := by
  have start := chainStart (i := i) hj ha
  generalize cabbed (fallen i s) = c at start
  have before := start.toBrake
  have rest := start.fromSlip
  have input := measured_brakeInput start
  have lost : Grown s.alarms.lost _ := before.lost
  have set := before.brakeSet (by decide) hb
  have disagree := before.driveField (fun d => d.disagree) (fun _ _ _ _ _ _ _ _ _ _ => rfl) fun p hp d d' ho => by
    cases p with
    | disagree => exact absurd hp (by decide)
    | _ => rw [ho]
  have checks := ((checkCurrent_moves (measured c)).mono (hs := currentTags ++ linkTags) (by decide)).trans
    ((checkLink_moves _).mono (by decide))
  have reading := checks.driveField (fun d => d.brakeInput) (fun _ _ _ _ _ _ _ _ _ _ => rfl) fun p hp d d' ho => by
    cases p with
    | measured => exact absurd hp (by decide)
    | _ => rw [ho]
  have startup : (checkLink (checkCurrent (measured c))).startup = s.startup := before.startup
  have reads := reading.trans (input.trans hi)
  generalize checkLink (checkCurrent (measured c)) = u at rest lost set disagree startup reads
  have params := params_of_startup startup
  rw [checkBrake_falls set reads (disagree.trans (by rw [params]; exact hd)) (by rw [params]; exact hl), params] at rest
  obtain ⟨drive, held⟩ := raise_counted (c := .brakeFeedback) (by decide) none
    (fun d => { d with disagree := s.params.drive.brakeCheck + 1 })
    ((joined_of_startup startup).trans hj) lost
  have count : (raise .brakeFeedback none (u.onDrive fun d => { d with disagree := s.params.drive.brakeCheck + 1 })).drive.disagree
      = s.params.drive.brakeCheck + 1 :=
    congrArg Drive.disagree drive
  refine ⟨rest.events_mono List.mem_cons_self, (rest.driveField (fun d => d.disagree)
    (fun _ _ _ _ _ _ _ _ _ _ => rfl) fun p hp d d' ho => ?_).trans count, (rest.held (by decide) ?_ held).standsOrLost⟩
  · have hp' : p ≠ .disagree := by
      rintro rfl
      revert hp
      simp only [afterCheckTags, outTags, lateTags, List.mem_append]
      decide
    cases p with
    | disagree => exact absurd rfl hp'
    | _ => rw [ho]
  · simp only [afterCheckTags, outTags, lateTags, axisTags, List.any_append]
    decide

theorem work_slip (hj : s.joined = true) (ha : s.role.isAxis = true) (hb : s.drive.brake = .set)
    (hi : (i.din.getLsbD s.params.brakeInput.number == s.params.brakeInput.high) = true) {e : DWord}
    (he : s.drive.prevEncoder = some e) (hs : s.drive.slip = 2)
    (hv : 20 < (measuredSpeed s.role (s.encoder - e).toInt s.params.drive.countsPerCycle).natAbs) :
    Event.brakeSlip ∈ (cycleWork (fallen i s)).events ∧ (cycleWork (fallen i s)).drive.slip = 3
      ∧ standsOrLost .brakeSlip s (cycleWork (fallen i s)) := by
  have start := chainStart (i := i) hj ha
  have hook := cabbed_drive (s := s) i (noCab_of_axis ha)
  generalize cabbed (fallen i s) = c at start hook
  have before := start.toSlip
  have rest := start.fromSlipped
  have input := measured_brakeInput start
  have speed := (measured_drive c).2 e (by rw [hook.rest]; exact he)
  rw [role_of_startup start.startup, params_of_startup start.startup, start.encoder] at speed
  have lost : Grown s.alarms.lost _ := before.lost
  have set := before.brakeSet (by decide) hb
  have slip := before.driveField (fun d => d.slip) (fun _ _ _ _ _ _ _ _ _ _ => rfl) fun p hp d d' ho => by
    cases p with
    | slip => exact absurd hp (by decide)
    | _ => rw [ho]
  have checks := (((checkCurrent_moves (measured c)).mono (hs := currentTags ++ linkTags ++ brakeTags) (by decide)).trans
    ((checkLink_moves _).mono (by decide))).trans ((checkBrake_moves _).mono (by decide))
  have reading := checks.driveField (fun d => (d.brakeInput, d.speed)) (fun _ _ _ _ _ _ _ _ _ _ => rfl)
    fun p hp d d' ho => by
      cases p with
      | measured => exact absurd hp (by decide)
      | _ => rw [ho]
  have startup : (checkBrake (checkLink (checkCurrent (measured c)))).startup = s.startup := before.startup
  simp only [Prod.mk.injEq] at reading
  have reads := reading.1.trans (input.trans hi)
  have moves := reading.2.trans speed
  generalize checkBrake (checkLink (checkCurrent (measured c))) = u at rest lost set slip startup reads moves
  rw [checkSlip_falls set reads (slip.trans hs) (by rw [moves]; exact hv)] at rest
  obtain ⟨drive, held⟩ := raise_counted (c := .brakeSlip) (by decide) none (fun d => { d with slip := 3 })
    ((joined_of_startup startup).trans hj) lost
  have count : (raise .brakeSlip none (u.onDrive fun d => { d with slip := 3 })).drive.slip = 3 :=
    congrArg Drive.slip drive
  refine ⟨rest.events_mono List.mem_cons_self, (rest.driveField (fun d => d.slip)
    (fun _ _ _ _ _ _ _ _ _ _ => rfl) fun p hp d d' ho => ?_).trans count, (rest.held (by decide) ?_ held).standsOrLost⟩
  · have hp' : p ≠ .slip := by
      rintro rfl
      revert hp
      simp only [afterCheckTags, outTags, lateTags, List.mem_append]
      decide
    cases p with
    | slip => exact absurd rfl hp'
    | _ => rw [ho]
  · simp only [afterCheckTags, outTags, lateTags, axisTags, List.any_append]
    decide

end

end Sys2Proof.Machine

end

section
/-! PROOFS. The brake logic and the stall count at a cycle start (R87, R90). -/

namespace Sys2Proof.Machine

section
variable {s t : State} {i : Inputs}

/-! ### The brake logic, case by case (R90) -/

theorem brakeLogic_set {x : Int} (hm : s.alarms.mode = .run) (hb : s.drive.brake = .set) : brakeLogic x s =
    if x ≠ 0 then s.onDrive fun d => { d with brake := .released, delay := 0 } else s := by
  unfold brakeLogic
  rw [if_neg (by simp [hm])]
  dsimp only
  rw [hb]

theorem brakeLogic_released {x : Int} (hm : s.alarms.mode = .run) (hb : s.drive.brake = .released) : brakeLogic x s =
    if x ≠ 0 ∨ 5 < s.drive.speed.natAbs then s.onDrive fun d => { d with delay := 0 }
    else if s.params.drive.brakeDelay ≤ s.drive.delay + 1 then
      (s.onDrive fun d => { d with brake := .set, delay := s.drive.delay + 1 }).note .brakeSet
    else s.onDrive fun d => { d with delay := s.drive.delay + 1 } := by
  have moving : (!decide ((s.drive.speed.natAbs : Int) ≤ Config.stillSpeed)) = true
      ↔ 5 < s.drive.speed.natAbs := by
    rw [Bool.not_eq_true', decide_eq_false_iff_not, not_le]
    exact Int.ofNat_lt
  unfold brakeLogic
  rw [if_neg (by simp [hm])]
  dsimp only
  rw [hb]
  simp only [moving]

/-- The brake logic notes its event only where it sets the brake. -/
theorem brakeLogic_notes {x : Int} (h : Event.brakeSet ∈ (brakeLogic x s).events) (hn : Event.brakeSet ∉ s.events) :
    s.alarms.mode = .run ∧ s.drive.brake = .released ∧ x = 0 ∧ s.drive.speed.natAbs ≤ 5
      ∧ s.params.drive.brakeDelay ≤ s.drive.delay + 1 ∧ (brakeLogic x s).drive.brake = .set := by
  cases hm : s.alarms.mode with
  | tripped =>
    rw [brakeLogic, if_pos (by simp [hm])] at h
    exact absurd h hn
  | run =>
    cases hb : s.drive.brake with
    | set =>
      rw [brakeLogic_set hm hb] at h
      split at h <;> exact absurd h hn
    | released =>
      rw [brakeLogic_released hm hb] at h ⊢
      split at h
      · exact absurd h hn
      · next hx =>
        rw [not_or, not_not, not_lt] at hx
        split at h
        · next hd =>
          rw [if_neg (by rw [not_or, not_not, not_lt]; exact hx), if_pos hd]
          exact ⟨rfl, rfl, hx.1, hx.2, hd, rfl⟩
        · exact absurd h hn

theorem brakeLogic_leaves (x : Int) (s : State) : (brakeLogic x s).startup = s.startup
    ∧ (brakeLogic x s).alarms = s.alarms ∧ (brakeLogic x s).picture = s.picture
    ∧ (brakeLogic x s).drive.speed = s.drive.speed ∧ (brakeLogic x s).drive.postTarget = s.drive.postTarget
    ∧ (brakeLogic x s).drive.stall = s.drive.stall ∧ (∀ e ∈ s.events, e ∈ (brakeLogic x s).events) := by
  unfold brakeLogic; dsimp only
  split
  · exact ⟨rfl, rfl, rfl, rfl, rfl, rfl, fun _ h => h⟩
  · split
    · split <;> exact ⟨rfl, rfl, rfl, rfl, rfl, rfl, fun _ h => h⟩
    · split
      · exact ⟨rfl, rfl, rfl, rfl, rfl, rfl, fun _ h => h⟩
      · split
        · exact ⟨rfl, rfl, rfl, rfl, rfl, rfl, fun _ h => List.mem_cons_of_mem _ h⟩
        · exact ⟨rfl, rfl, rfl, rfl, rfl, rfl, fun _ h => h⟩

theorem brakeLogic_events {x : Int} {e : Event} (h : e ∈ (brakeLogic x s).events) (hn : e ≠ .brakeSet) :
    e ∈ s.events := by
  cases hm : s.alarms.mode with
  | tripped =>
    rw [brakeLogic, if_pos (by simp [hm])] at h
    exact h
  | run =>
    cases hb : s.drive.brake with
    | set =>
      rw [brakeLogic_set hm hb] at h
      split at h <;> exact h
    | released =>
      rw [brakeLogic_released hm hb] at h
      split at h
      · exact h
      · split at h
        · exact (List.mem_cons.1 h).resolve_left hn
        · exact h

theorem brakeTarget_zero (s : State) :
    brakeTarget s = 0 ↔ s.drive.postTarget = 0 ∨ (s.role = .swing ∧ walkLimit s = true) := by
  unfold brakeTarget
  split
  · next h => exact ⟨fun _ => .inr h, fun _ => rfl⟩
  · next h => exact ⟨.inl, fun hz => hz.resolve_right h⟩

/-! ### The stage of the brake logic -/

/-- The moves of an axis station's cycle start up to the brake logic, and after it. -/
def beforeBrakeTags : List Tag :=
  fallAxisTags ++ earlyTags ++ (inputsTags ++ (targetTags ++ judgeTags)) ++ (.output :: stallTags)
def formedTags : List Tag := fallAxisTags ++ earlyTags ++ (inputsTags ++ (targetTags ++ judgeTags)) ++ [.output]
def afterBrakeTags : List Tag := .linkFrame :: (afterTags ++ lateTags)

/-- The brake logic of a cycle start works on `w`, and leaves the station `t`. -/
structure BrakeStage (s w t : State) : Prop where
  before : Moves beforeBrakeTags (ticked s) w
  rest : Moves afterBrakeTags (brakeLogic (brakeTarget w) w) t
  counts : ∃ b u, w = countStall b u ∧ Moves formedTags (ticked s) u

theorem brakeStage (hj : s.joined = true) (ha : s.role.isAxis = true) :
    BrakeStage s (chainStages (judged (cabbed (fallen i s)))) (cycleWork (fallen i s)) := by
  have start := chainStart (i := i) hj ha
  have late := start.rest
  generalize cabbed (fallen i s) = c at start late
  have judge := judged_moves c
  have j : (judged c).joined = true := by rw [judge.joined, start.joined]
  have a : (judged c).role.isAxis = true := by rw [judge.role, start.axis]
  rw [chainCycle_staged (by rw [start.joined, start.axis]; rfl), staged] at late
  generalize judged c = u at judge late j a ⊢
  have stages := chainStages_moves j a
  have formed : Moves formedTags (ticked s) (outputFormed u) :=
    ((start.moves.mono fun _ h => List.mem_append_left _ (List.mem_append_left _ h)).trans
      (judge.mono fun _ h => List.mem_append_left _ (List.mem_append_right _ h))).trans
        ((Move.output (axisBounds u) u.drive.postTarget u rfl j a).moves (List.mem_append_right _ List.mem_cons_self))
  have counted : ∃ b v, chainStages u = countStall b v ∧ Moves formedTags (ticked s) v := ⟨_, _, rfl, formed⟩
  have j' : (chainStages u).joined = true := by rw [stages.joined, j]
  have a' : (chainStages u).role.isAxis = true := by rw [stages.role, a]
  generalize chainStages u = w at stages late j' a' counted ⊢
  have leaves : (brakeLogic (brakeTarget w) w).startup = w.startup := (brakeLogic_leaves _ w).1
  have j'' : (brakeLogic (brakeTarget w) w).joined = true := by rw [joined_of_startup leaves, j']
  have a'' : (brakeLogic (brakeTarget w) w).role.isAxis = true := by rw [role_of_startup leaves, a']
  refine ⟨((start.moves.mono ?_).trans (judge.mono ?_)).trans (stages.mono ?_), ?_, counted⟩
  · exact fun _ h => List.mem_append_left _ (List.mem_append_left _ h)
  · exact fun _ h => List.mem_append_left _ (List.mem_append_right _ h)
  · exact fun _ h => List.mem_append_right _ h
  · generalize brakeLogic (brakeTarget w) w = b at late j'' a'' ⊢
    have link := (Move.linkFrame b j'' a'').moves (gs := afterBrakeTags) List.mem_cons_self
    generalize driveOutputs b = o at link late
    have after := (chainAfter_moves o).mono (hs := afterBrakeTags) fun _ h =>
      List.mem_cons_of_mem _ (List.mem_append_left _ h)
    generalize chainAfter o = e at after late
    exact (link.trans after).trans (late.mono fun _ h => List.mem_cons_of_mem _ (List.mem_append_right _ h))

namespace BrakeStage
variable {w : State} (h : BrakeStage s w t)
include h

theorem startup : t.startup = s.startup ∧ w.startup = s.startup :=
  ⟨(h.rest.startup.trans (brakeLogic_leaves _ w).1).trans h.before.startup, h.before.startup⟩

theorem fields : t.drive.speed = w.drive.speed ∧ t.drive.postTarget = w.drive.postTarget
    ∧ t.drive.stall = w.drive.stall := by
  obtain ⟨-, -, -, speed, target, stall, -⟩ := brakeLogic_leaves (brakeTarget w) w
  have := h.rest.driveField (fun d => (d.speed, d.postTarget, d.stall)) (fun _ _ _ _ _ _ _ _ _ _ => rfl)
    fun p hp d d' ho => by
      cases p with
      | ran => rw [ho]
      | _ => exact absurd hp (by decide)
  simp only [Prod.mk.injEq] at this
  exact ⟨this.1.trans speed, this.2.1.trans target, this.2.2.trans stall⟩

theorem stops : brakeTarget w = 0 ↔ t.drive.postTarget = 0 ∨ (s.role = .swing ∧ walkLimit t = true) := by
  obtain ⟨ht, hw⟩ := h.startup
  have peers : t.picture.peers = w.picture.peers := by
    rw [h.rest.peers (by decide), (brakeLogic_leaves _ w).2.2.1]
  rw [brakeTarget_zero, role_of_startup hw, h.fields.2.1, walkLimit_congr (s := w) (t := t) (ht.trans hw.symm) peers]

/-- A station in RUN after the cycle start was so at the brake logic, which found the brake as the station left it. -/
theorem ran (hm : t.alarms.mode = .run) : w.alarms.mode = .run ∧ w.drive.brake = s.drive.brake
    ∧ w.drive.delay = s.drive.delay ∧ t.drive.brake = (brakeLogic (brakeTarget w) w).drive.brake
    ∧ t.drive.delay = (brakeLogic (brakeTarget w) w).drive.delay := by
  obtain ⟨mode, brake, delay⟩ := h.rest.brakeRun (by decide) hm
  rw [(brakeLogic_leaves _ w).2.1] at mode
  obtain ⟨-, brake', delay'⟩ := h.before.brakeRun (by decide) mode
  exact ⟨mode, brake', delay', brake, delay⟩

theorem notes {e : Event} (he : e ∈ t.events) (hn : Tag.note e ∉ afterBrakeTags) :
    e ∈ (brakeLogic (brakeTarget w) w).events := (h.rest.events_none hn).1 he

theorem quiet {e : Event} (hn : Tag.note e ∉ beforeBrakeTags) : e ∉ w.events := fun he =>
  nomatch (h.before.events_none hn).1 he

end BrakeStage

/-! ### The stall count (R87) -/

theorem countStall_eq (b : Bool) (s : State) : ∃ n, n = (if b then bump8 s.drive.stall else 0) ∧ countStall b s =
    if s.drive.stall < 50 ∧ n = 50 then (raise .stallHeld none (s.onDrive fun d => { d with stall := n })).note .stallHeld
    else if n = 0 ∧ 50 ≤ s.drive.stall then clearAlarm .stallHeld none (s.onDrive fun d => { d with stall := n })
    else s.onDrive fun d => { d with stall := n } := ⟨_, rfl, rfl⟩

/-- The stall count notes its event exactly where it reaches 50 (R87). -/
theorem countStall_notes {b : Bool} (hn : Event.stallHeld ∉ s.events) : Event.stallHeld ∈ (countStall b s).events
    ↔ s.drive.stall = 49 ∧ (countStall b s).drive.stall = 50 := by
  obtain ⟨n, count, form⟩ := countStall_eq b s
  have stall : (countStall b s).drive.stall = n := by
    rw [form, raise_eq_quiet (by decide)]
    split
    · exact congrArg Drive.stall ((raiseQuiet_frame _ _ _).1 .drive (by decide))
    · split
      · exact congrArg Drive.stall ((clearAlarm_frame _ _ _).1 .drive (by decide))
      · rfl
  have reached : s.drive.stall < 50 ∧ n = 50 ↔ s.drive.stall = 49 ∧ n = 50 := by
    have up : bump8 s.drive.stall = min 255 (s.drive.stall + 1) := rfl
    cases b
    · rw [if_neg (by decide)] at count
      omega
    · rw [if_pos rfl, up] at count
      omega
  rw [stall, ← reached, form]
  split
  · next h => exact ⟨fun _ => h, fun _ => List.mem_cons_self⟩
  · next h =>
    refine ⟨fun he => absurd ?_ hn, fun hr => absurd hr h⟩
    split at he
    · rwa [clearAlarm_events] at he
    · exact he

theorem BrakeStage.stalls {w : State} (h : BrakeStage s w t) :
    Event.stallHeld ∈ t.events ↔ s.drive.stall = 49 ∧ t.drive.stall = 50 := by
  obtain ⟨b, u, form, before⟩ := h.counts
  have stood : u.drive.stall = s.drive.stall := before.driveField (fun d => d.stall) (fun _ _ _ _ _ _ _ _ _ _ => rfl)
    fun p hp d d' ho => by
      cases p with
      | stall => exact absurd hp (by decide)
      | _ => rw [ho]
  have quiet : Event.stallHeld ∉ u.events := fun he => nomatch (before.events_none (by decide)).1 he
  have logic : Event.stallHeld ∈ (brakeLogic (brakeTarget w) w).events ↔ Event.stallHeld ∈ w.events := by
    exact ⟨fun he => brakeLogic_events he (by decide), (brakeLogic_leaves _ w).2.2.2.2.2.2 _⟩
  rw [h.rest.events_none (by decide), logic, h.fields.2.2, form, countStall_notes quiet, stood]

end

end Sys2Proof.Machine

open Sys2Proof Sys2Proof.Machine

/-- Settles O49: the checks fall where they stand in the chain's first step, and brake command and stall count are those
of the chain's fourth and third, which nothing after them changes but an entry to TRIPPED. -/
theorem driveEventsFall : Obligations.DriveEventsFall := by
  intro i s hr hj ha
  have fall := fun {e : Event} (he : e ∈ (cycleWork (fallen i s)).events) => exec_falls hr he
  have cycle := exec_cycleStart (i := i) hr
  have stage := brakeStage (i := i) hj ha
  have link := fun hf hm => work_link (i := i) hj ha hf hm
  have feedback := fun hb hi hd hl => work_feedback (i := i) hj ha hb hi hd hl
  have slip := fun hb hi e he hs hv => work_slip (i := i) (e := e) hj ha hb hi he hs hv
  have due := fun {e : Event} (h : fallsDue e i s = true) => (fallsDue_iff.1 h).2
  have dueExec := fun {e : Event} (h : fallsDue e i s = true) => exec_due h
  generalize cycleWork (fallen i s) = t at fall cycle stage link feedback slip due dueExec
  generalize chainStages (judged (cabbed (fallen i s))) = w at stage
  have params := params_of_startup stage.startup.2
  have quiet : Event.brakeSet ∉ w.events := stage.quiet (by decide)
  refine ⟨fun h1 h2 hm => ?_, fun hb hi hd hl => ?_, fun e hb hi he hs hv => ?_, fun hd => ?_, fun hd => ?_,
    t, cycle, fun hb hm hs hv hd => ?_, fun hb hm hn => ?_, fun hb hm => ?_, fun hs ht => ?_⟩
  · obtain ⟨noted, missing, safe⟩ := link ⟨h1, h2⟩ hm
    exact ⟨t, fall noted, missing, safe.1, safe.2⟩
  · obtain ⟨noted, disagree, stands⟩ := feedback hb hi hd hl
    exact ⟨t, fall noted, disagree, stands⟩
  · obtain ⟨noted, slips, stands⟩ := slip hb hi e he hs hv
    exact ⟨t, fall noted, slips, stands⟩
  · obtain ⟨mode, brake, target, slow, delay, set⟩ := brakeLogic_notes (stage.notes (due hd) (by decide)) quiet
    obtain ⟨-, brake', delay'⟩ := stage.before.brakeRun (by decide) mode
    refine ⟨t, dueExec hd, brake'.symm.trans brake, stage.rest.brakeSet (by decide) set, ?_, ?_, stage.stops.1 target⟩
    · rw [← params, ← show _ = s.drive.delay from delay']
      exact delay
    · rw [stage.fields.1]
      exact slow
  · exact ⟨t, dueExec hd, stage.stalls.1 (due hd)⟩
  · obtain ⟨mode, brake, delay, -, -⟩ := stage.ran hm
    refine fall (e := .brakeSet) (stage.rest.events_mono ?_)
    rw [brakeLogic_released mode (brake.trans hb), if_neg, if_pos]
    · exact List.mem_cons_self
    · rw [params, delay]
      exact hd
    · rw [not_or, not_not, not_lt, ← stage.fields.1]
      exact ⟨stage.stops.2 hs, hv⟩
  · obtain ⟨mode, brake, delay, brake', delay'⟩ := stage.ran hm
    have still : brakeTarget w = 0 ∧ w.drive.speed.natAbs ≤ 5
        ↔ (t.drive.postTarget = 0 ∨ s.role = .swing ∧ walkLimit t = true) ∧ t.drive.speed.natAbs ≤ 5 := by
      rw [stage.fields.1, stage.stops]
    rw [brake', delay', brakeLogic_released mode (brake.trans hb), params, delay]
    by_cases ht : brakeTarget w = 0 ∧ w.drive.speed.natAbs ≤ 5
    · have hd : ¬ s.params.drive.brakeDelay ≤ s.drive.delay + 1 := fun hd =>
        hn ⟨(still.1 ht).1, (still.1 ht).2, hd⟩
      rw [if_pos (still.1 ht), if_neg (by rw [not_or, not_not, not_lt]; exact ht), if_neg hd]
      exact ⟨brake.trans hb, rfl⟩
    · rw [if_neg (mt still.2 ht), if_pos (by rw [← not_le, ← not_and_or]; exact ht)]
      exact ⟨brake.trans hb, rfl⟩
  · obtain ⟨mode, brake, delay, brake', delay'⟩ := stage.ran hm
    rw [brake', delay', brakeLogic_set mode (brake.trans hb)]
    by_cases ht : brakeTarget w = 0
    · rw [if_pos (stage.stops.1 ht), if_neg (not_not.2 ht)]
      exact ⟨brake.trans hb, fun hs => absurd (stage.stops.1 ht) hs⟩
    · rw [if_neg (mt stage.stops.2 ht), if_pos ht]
      exact ⟨rfl, fun _ => rfl⟩
  · exact fall (e := .stallHeld) (stage.stalls.2 ⟨hs, ht⟩)

end

section
/-! PROOFS. The sample and the drive chain as chains of moves and whole raises: what an entry to TRIPPED and its TRIP
change is said of the raise itself. -/

namespace Sys2Proof.Machine

section
variable {gs hs : List Tag} {s t u : State} {i : Inputs}

/-! ### Moves and whole raises -/

/-- A move of the tags, or a raise with all that it brings. -/
def Stride (gs : List Tag) (s t : State) : Prop :=
  (∃ g ∈ gs, Move g s t) ∨ ∃ c d, c ≠ .shareLoanDropped ∧ t = raise c d s

/-- A chain of strides. -/
def Strides (gs : List Tag) : State → State → Prop := Relation.ReflTransGen (Stride gs)

theorem Strides.refl (gs : List Tag) (s : State) : Strides gs s s := Relation.ReflTransGen.refl

theorem Strides.trans (h : Strides gs s t) (k : Strides gs t u) : Strides gs s u := Relation.ReflTransGen.trans h k

theorem Strides.mono (h : Strides gs s t) (hsub : gs ⊆ hs) : Strides hs s t :=
  Relation.ReflTransGen.mono (fun _ _ h => h.imp_left fun ⟨g, hg, m⟩ => ⟨g, hsub hg, m⟩) s t h

theorem Moves.strides (m : Moves gs s t) : Strides gs s t := Relation.ReflTransGen.mono (fun _ _ h => .inl h) s t m

theorem Strides.raise {c : AlarmCode} (hc : c ≠ .shareLoanDropped) (d : Option Nat) (s : State) : Strides gs s (raise c d s) :=
  .single (.inr ⟨c, d, hc, rfl⟩)

theorem Move.strides {g : Tag} (m : Move g s t) (hg : g ∈ gs) : Strides gs s t := (m.moves hg).strides

/-- A reflexive and transitive relation that contains the moves of the tags and every raise contains their chains. -/
theorem Strides.rel {R : State → State → Prop} (hrefl : ∀ s, R s s) (htrans : ∀ s t u, R s t → R t u → R s u)
    (hmove : ∀ g ∈ gs, ∀ s t, Move g s t → R s t)
    (hraise : ∀ c d s, c ≠ .shareLoanDropped → R s (Machine.raise c d s)) (h : Strides gs s t) : R s t := by
  induction h with
  | refl => exact hrefl _
  | tail _ hlast ih =>
    rcases hlast with ⟨g, hg, m⟩ | ⟨c, d, hc, rfl⟩
    · exact htrans _ _ _ ih (hmove g hg _ _ m)
    · exact htrans _ _ _ ih (hraise c d _ hc)

/-! ### The sample -/

/-- The acts of the cab's emergency input, of a sample and of the instant of the timer's expiry. -/
def emergencyStrides : List Tag := [.cab .emergency, .cleared .operatorStop]
def fallStrides : List Tag := .place .pace :: .settle :: .inputs :: (emergencyStrides ++ captureTags)

theorem emergencySample_strides (s : State) : Strides emergencyStrides s (emergencySample s) := by
  unfold emergencySample; dsimp only
  have m := (Move.cab .emergency
    (fun c => { c with emergency := some (s.inputActive s.params.cab.emergencyInput) }) s rfl).strides
      (gs := emergencyStrides) (by decide)
  split
  · split
    · exact m.trans (.raise (by decide) _ _)
    · split
      · exact m.trans ((Move.cleared _ _ _).strides (by decide))
      · exact m
  · exact .refl _ s

theorem fallen_strides (i : Inputs) (s : State) : Strides fallStrides (ticked s) (fallen i s) := by
  have pace := ((placePace_moves (ticked s)).mono (hs := fallStrides) (by decide)).strides
  have sampled : Strides fallStrides (placePace (ticked s)) (watchOwned { placePace (ticked s) with inputs := i }) :=
    (Move.inputs i _).strides (by decide)
  exact ((pace.trans sampled).trans ((emergencySample_strides _).mono (by decide))).trans
    (((captureEdges_moves _ _ _).mono (by decide)).strides)

/-! ### The drive chain's checks -/

/-- The acts of R78's first step. -/
def checkStrides : List Tag :=
  [.drive .overcurrent, .drive .missing, .drive .disagree, .drive .slip, .cleared .overcurrent, .cleared .fieldLinkLost,
    .cleared .brakeFeedback, .cleared .brakeSlip, .note .fieldLinkLost, .note .brakeFeedback, .note .brakeSlip]

theorem checkCurrent_strides (s : State) : Strides checkStrides s (checkCurrent s) := by
  have m : ∀ b, Strides checkStrides s (s.onDrive fun d => { d with overcurrent := b }) := fun b =>
    (Move.drive .overcurrent _ s (by exact rfl)).strides (by decide)
  unfold checkCurrent; dsimp only
  split
  · exact (m _).trans (.raise (by decide) _ _)
  · split
    · exact (m _).trans ((Move.cleared _ _ _).strides (by decide))
    · exact m _

theorem checkLink_strides (s : State) : Strides checkStrides s (checkLink s) := by
  have m : ∀ n, Strides checkStrides s (s.onDrive fun d => { d with missing := n }) := fun n =>
    (Move.drive .missing _ s (by exact rfl)).strides (by decide)
  unfold checkLink; dsimp only
  split
  · exact .refl _ s
  · split
    · split
      · exact ((m _).trans (.raise (by decide) _ _)).trans ((Move.note _ _).strides (by decide))
      · exact m _
    · exact (m _).trans ((Move.cleared _ _ _).strides (by decide))

theorem checkBrake_strides (s : State) : Strides checkStrides s (checkBrake s) := by
  have m : ∀ n, Strides checkStrides s (s.onDrive fun d => { d with disagree := n }) := fun n =>
    (Move.drive .disagree _ s (by exact rfl)).strides (by decide)
  unfold checkBrake; dsimp only
  split
  · split
    · exact ((m _).trans (.raise (by decide) _ _)).trans ((Move.note _ _).strides (by decide))
    · exact m _
  · exact (m _).trans ((Move.cleared _ _ _).strides (by decide))

theorem checkSlip_strides (s : State) : Strides checkStrides s (checkSlip s) := by
  have m : ∀ n, Strides checkStrides s (s.onDrive fun d => { d with slip := n }) := fun n =>
    (Move.drive .slip _ s (by exact rfl)).strides (by decide)
  unfold checkSlip; dsimp only
  split
  · split
    · exact ((m _).trans (.raise (by decide) _ _)).trans ((Move.note _ _).strides (by decide))
    · exact m _
  · exact (m _).trans ((Move.cleared _ _ _).strides (by decide))

theorem checked_strides (s : State) : Strides (measureTags ++ checkStrides) s (checked s) :=
  ((measured_moves s).mono (List.subset_append_left _ _)).strides.trans
    (((((checkCurrent_strides _).trans (checkLink_strides _)).trans (checkBrake_strides _)).trans (checkSlip_strides _)).mono
      (List.subset_append_right _ _))

/-! ### The axis function's step -/

/-- The acts of the rope's position, overtravel and limit. -/
def ropeStrides : List Tag :=
  [.rope .measured, .rope .encoderFault, .rope .decalibration, .rope .beyond, .rope .limit, .rope .report,
    .cleared .encoderFault, .cleared .zoneOvertravel]

theorem ropeEncoder_strides (s : State) : Strides ropeStrides s (ropeEncoder s) := by
  have m : ∀ b, Strides ropeStrides s (s.onRope fun r => { r with encoderFault := b }) := fun b =>
    (Move.rope .encoderFault _ s (by exact rfl)).strides (by decide)
  unfold ropeEncoder; dsimp only
  split
  · exact ((m _).trans ((Move.rope .decalibration (fun r => { r with calibrated := false }) _ rfl).strides (by decide))).trans
      (.raise (by decide) _ _)
  · split
    · exact (m _).trans ((Move.cleared _ _ _).strides (by decide))
    · exact m _

theorem overtravel_strides (d : Nat) (s : State) : Strides ropeStrides s (raiseThenClear .zoneOvertravel (some d) s) :=
  (Strides.raise (by decide) _ s).trans ((Move.cleared _ _ _).strides (by decide))

theorem ropeOvertravel_strides (s : State) : Strides ropeStrides s (ropeOvertravel s) := by
  have m : ∀ a b, Strides ropeStrides s (s.onRope fun r => { r with beyondIn := a, beyondOut := b }) := fun a b =>
    (Move.rope .beyond _ s (by exact rfl)).strides (by decide)
  have out : ∀ (p : Bool) (u : State), Strides ropeStrides s u →
      Strides ropeStrides s (if p then raiseThenClear .zoneOvertravel (some 2) u else u) := fun p u h => by
    split
    · exact h.trans (overtravel_strides 2 _)
    · exact h
  unfold ropeOvertravel
  refine out _ _ ?_
  split
  · exact (m _ _).trans (overtravel_strides 1 _)
  · exact m _ _

theorem ropeHardLimit_strides (s : State) : Strides ropeStrides s (ropeHardLimit s) := by
  have m : Strides ropeStrides s (s.onRope fun r => { r with limitPrev := some (hardLimitActive s) }) :=
    (Move.rope .limit _ s (by exact rfl)).strides (by decide)
  unfold ropeHardLimit; dsimp only
  split
  · exact m.trans (overtravel_strides 3 _)
  · exact m

theorem ropeMeasure_strides (s : State) : Strides ropeStrides s (ropeMeasure s) := by
  unfold ropeMeasure; dsimp only
  exact (Move.rope .measured _ s (by exact rfl)).strides (by decide)

theorem ropeFirst_strides (s : State) : Strides ropeStrides s (ropeFirst s) :=
  ((((ropeMeasure_strides s).trans (ropeEncoder_strides _)).trans (ropeOvertravel_strides _)).trans
    (ropeHardLimit_strides _)).trans
      ((Move.rope .report (fun r => { r with calReport := r.calibrated }) _ rfl).strides (by decide))

/-! ### The walk's step, act by act -/

/-- The walk with its circle and its state count advanced. -/
def walkCounted (s : State) : State :=
  s.onWalk fun k =>
    { k with circle := circleCycle s.encoder s.drive.delta s.params.walk.countsPerRev k.circle,
             stateCount := satAdd Config.counterMax k.stateCount 1 }

theorem walkStep_eq (s : State) : walkStep s = permissiveCycle (walkTransition (stepCycle (walkCounted s))) := rfl

theorem walkCounted_moves (s : State) : Moves [.walk .counts] s (walkCounted s) :=
  (Move.walk .counts (fun k =>
    { k with circle := circleCycle s.encoder s.drive.delta s.params.walk.countsPerRev k.circle,
             stateCount := satAdd Config.counterMax k.stateCount 1 }) s rfl).moves (by decide)

/-- The moves of the transition from a state. -/
def transitionFrom : WalkState → List Tag
  | .parked => parkedTags
  | .asking => askingTags
  | .transferring => transferTags
  | .ready => readyTags
  | .stepping | .settling => []
  | .returning => returningTags
  | .faulted => faultedStateTags

theorem walkTransition_from (s : State) : Moves (transitionFrom s.walk.state) s (walkTransition s) := by
  cases hw : s.walk.state with
  | parked => rw [walkTransition, hw]; exact parkedCycle_moves hw
  | asking => rw [walkTransition, hw]; exact askingCycle_moves hw
  | transferring => rw [walkTransition, hw]; exact transferringCycle_moves hw
  | ready => rw [walkTransition, hw]; exact readyCycle_moves hw
  | stepping => rw [walkTransition, hw]; exact .refl _ s
  | settling => rw [walkTransition, hw]; exact .refl _ s
  | returning => rw [walkTransition, hw]; exact returningCycle_moves hw
  | faulted => rw [walkTransition, hw]; exact faultedCycle_moves hw

/-- The strides of the axis function's step at a role, a walk from the state it is in. -/
def stepStrides : Role → WalkState → List Tag
  | .hoist, _ => ropeStrides ++ hoistTags
  | .drag, _ => ropeStrides ++ ownershipTags
  | .swing, _ => swingTags
  | .walk, w => .walk .counts :: (stepTags ++ (transitionFrom w ++ permissiveTags))
  | .none, _ | .cab, _ => []

theorem walkStep_strides (s : State) :
    Moves (.walk .counts :: (stepTags ++ (transitionFrom s.walk.state ++ permissiveTags))) s (walkStep s) := by
  have counted := walkCounted_moves s
  have stepped := stepCycle_moves (walkCounted s)
  have state : (stepCycle (walkCounted s)).walk.state = s.walk.state := by
    have same : (stepCycle (walkCounted s)).walk.state = (walkCounted s).walk.state :=
      stepped.same (f := fun u => u.walk.state) fun g hg u v m => by
        simp only [stepTags, List.mem_cons, List.not_mem_nil, or_false] at hg
        rcases hg with rfl | rfl | rfl
        · cases m with
          | walk p f _ ho => exact (WalkField.state ho).1
        · rw [m.frame.1 .walk (by decide)]
        · rw [m.frame.1 .walk (by decide)]
    exact same
  have turned := walkTransition_from (stepCycle (walkCounted s))
  rw [state] at turned
  rw [walkStep_eq]
  exact (((counted.mono (by simp)).trans (stepped.mono fun _ h => List.mem_cons_of_mem _ (List.mem_append_left _ h))).trans
    (turned.mono fun _ h => List.mem_cons_of_mem _ (List.mem_append_right _ (List.mem_append_left _ h)))).trans
      ((permissiveCycle_moves _).mono fun _ h =>
        List.mem_cons_of_mem _ (List.mem_append_right _ (List.mem_append_right _ h)))

theorem axisStep_strides (s : State) : Strides (stepStrides s.role s.walk.state) s (axisStep s) := by
  cases hr : s.role with
  | hoist =>
    rw [axisStep_hoist hr]
    exact ((ropeFirst_strides s).mono (List.subset_append_left _ _)).trans
      (((((hoistClass_moves _).trans (hoistOverload_moves _)).mono (List.subset_append_left _ _)).trans
        ((hoistSlack_moves _).mono (List.subset_append_right _ _))).mono (List.subset_append_right _ hoistTags)).strides
  | drag =>
    rw [axisStep_drag hr]
    exact ((ropeFirst_strides s).mono (List.subset_append_left _ _)).trans
      ((ownershipCycle_moves _).mono (List.subset_append_right _ _)).strides
  | swing => rw [axisStep_swing hr]; exact (swingStep_moves s).strides
  | walk => rw [axisStep_walk hr]; exact (walkStep_strides s).strides
  | none | cab => rw [axisStep, hr]; exact .refl _ s

/-! ### From the target to the frame, and what follows it -/

/-- The strides of steps 3 to 5 of R78. -/
def outStrides : List Tag :=
  targetTags ++ judgeTags ++ [.output, .drive .stall, .cleared .stallHeld, .note .stallHeld] ++ outputsTags

theorem countStall_strides (b : Bool) (s : State) :
    Strides [.drive .stall, .cleared .stallHeld, .note .stallHeld] s (countStall b s) := by
  obtain ⟨n, -, form⟩ := countStall_eq b s
  have m := (Move.drive .stall (fun d => { d with stall := n }) s rfl).strides
    (gs := [.drive .stall, .cleared .stallHeld, .note .stallHeld]) (by decide)
  rw [form]
  split
  · exact (m.trans (.raise (by decide) _ _)).trans ((Move.note _ _).strides (by decide))
  · split
    · exact m.trans ((Move.cleared _ _ _).strides (by decide))
    · exact m

theorem chainOutputs_strides (hj : s.joined = true) (ha : s.role.isAxis = true) : Strides outStrides s (chainOutputs s) := by
  have judge : Moves (targetTags ++ judgeTags) s (axisJudge (chainTarget s)) :=
    ((chainTarget_moves s).mono (List.subset_append_left _ _)).trans ((axisJudge_moves _).mono (List.subset_append_right _ _))
  have j1 := judge.joined.trans hj
  have a1 : (axisJudge (chainTarget s)).role.isAxis = true := by rw [judge.role, ha]
  unfold chainOutputs; dsimp only
  generalize axisJudge (chainTarget s) = u at judge j1 a1
  have output := (Move.output (axisBounds u) u.drive.postTarget u rfl j1 a1).strides (gs := outStrides) (by decide)
  have stages := chainStages_moves j1 a1
  have counted : Strides outStrides (outputFormed u) (chainStages u) := (countStall_strides _ _).mono (by decide)
  have j2 := stages.joined.trans j1
  have a2 : (chainStages u).role.isAxis = true := by rw [stages.role, a1]
  generalize chainStages u = v at counted j2 a2
  have logic := brakeLogic_moves j2 a2 (brakeTarget v)
  have link := (Move.linkFrame _ (logic.joined.trans j2) (by rw [logic.role, a2])).moves (gs := outputsTags) (by decide)
  exact ((judge.mono (by decide)).strides.trans (Strides.trans output counted)).trans ((logic.trans link).mono (by decide)).strides

/-- The strides of the contactor checks, and of what follows the frame. -/
def contactorStrides : List Tag :=
  [.contactor, .cleared .contactorDisagree, .note .contactorDisagree, .note .contactorContrary]
def afterStrides : List Tag := yieldTags ++ (startTags ++ (contactorStrides ++ [.drive .ran]))

theorem checkDisagree_strides (s : State) : Strides contactorStrides s (checkDisagree s) := by
  have m : ∀ g, Strides contactorStrides s (s.onContactor g) := fun g => (Move.contactor g s).strides (by decide)
  have c : ∀ d t, Strides contactorStrides t (clearAlarm .contactorDisagree d t) := fun d t =>
    (Move.cleared _ d t).strides (by decide)
  unfold checkDisagree; dsimp only
  split
  · exact ((m _).trans (c _ _)).trans (c _ _)
  · split
    · exact ((m _).trans (.raise (by decide) _ _)).trans ((Move.note _ _).strides (by decide))
    · exact m _

theorem checkContrary_strides (s : State) : Strides contactorStrides s (checkContrary s) := by
  have m : ∀ g, Strides contactorStrides s (s.onContactor g) := fun g => (Move.contactor g s).strides (by decide)
  unfold checkContrary; dsimp only
  split
  · split
    · exact ((m _).trans (.raise (by decide) _ _)).trans ((Move.note _ _).strides (by decide))
    · exact m _
  · exact (m _).trans ((Move.cleared _ _ _).strides (by decide))

theorem contactorChecks_strides (s : State) : Strides contactorStrides s (contactorChecks s) := by
  unfold contactorChecks
  split
  · exact checkDisagree_strides s
  · exact (checkDisagree_strides s).trans (checkContrary_strides _)
  all_goals exact .refl _ s

theorem chainAfter_strides (s : State) : Strides afterStrides s (chainAfter s) :=
  ((yieldJudge_moves s).mono (by decide)).strides.trans ((((walkStart_moves _).mono (by decide)).strides.trans
    ((contactorChecks_strides _).mono (by decide))).trans
      ((Move.drive .ran (fun d => { d with ran := true }) _ rfl).strides (by decide)))

end

end Sys2Proof.Machine

end

section
/-! PROOFS. What the moves of a cycle start leave of the axis functions, and the two steps of the drive chain's cycle in
which their events fall (R78). -/

namespace Sys2Proof.Machine

section
variable {s t : State} {gs : List Tag} {α : Type} {i : Inputs}

/-! ### The walk state, the coil and the walk's counts -/

/-- The moves of a tag lead no walk state of the set out of it. -/
def Tag.walkWithin (p : WalkState → Bool) : Tag → Bool
  | .walkTo v w => !p v || p w
  | _ => true

theorem Move.walkState {g : Tag} (m : Move g s t) : t.walk.state = s.walk.state ∨ g = .walkTo s.walk.state t.walk.state := by
  by_cases hb : Block.walk ∈ g.blocks
  · cases m with
    | walk p x _ ho => exact .inl (WalkField.state ho).1
    | walkTo w => exact .inr (by rw [setWalkState_walk])
    | coil => exact .inl rfl
    | _ => exact absurd hb (by simp [Tag.blocks])
  · rw [show t.walk = s.walk from m.frame.1 .walk hb]
    exact .inl rfl

theorem Moves.walkWithin (m : Moves gs s t) (p : WalkState → Bool) (hg : gs.all (Tag.walkWithin p) = true)
    (h : p s.walk.state = true) : p t.walk.state = true := by
  induction m with
  | refl => exact h
  | tail _ hlast ih =>
    obtain ⟨g, hm, m⟩ := hlast
    rcases m.walkState with hw | hw
    · rw [hw]; exact ih
    · have leads : (Tag.walkTo _ _).walkWithin p = true := hw ▸ List.all_eq_true.1 hg g hm
      simpa [Tag.walkWithin, ih] using leads

/-- A walk state that no move of the tags leaves stands. -/
theorem Moves.walkStays (m : Moves gs s t) {w : WalkState} (hg : gs.all (Tag.walkWithin (· == w)) = true)
    (h : s.walk.state = w) : t.walk.state = w := by
  simpa using m.walkWithin (· == w) hg (by simp [h])

/-- A walk state that no move of the tags enters stood before. -/
theorem Moves.walkStood (m : Moves gs s t) {w : WalkState} (hg : gs.all (Tag.walkWithin (· != w)) = true)
    (h : t.walk.state = w) : s.walk.state = w := by
  by_contra hn
  have := m.walkWithin (· != w) hg (by simpa using hn)
  simp [h] at this

/-- A field of the walk that is neither its state nor its coil stands where none of the tags forms it. -/
theorem Moves.walkField (m : Moves gs s t) (f : Walk → α)
    (hw : ∀ k v n c o, f { k with state := v, stateCount := n, coil := c, coilOut := o } = f k)
    (hp : ∀ p, Tag.walk p ∈ gs → ∀ k k', p.only k k' → f k' = f k) : f t.walk = f s.walk :=
  m.same (f := fun u => f u.walk) fun g hg u v m => by
    by_cases hb : Block.walk ∈ g.blocks
    · cases m with
      | walk p g _ ho => exact hp p hg _ _ ho
      | walkTo w => rw [setWalkState_walk]; exact hw u.walk w 0 u.walk.coil u.walk.coilOut
      | coil => exact hw u.walk u.walk.state u.walk.stateCount _ _
      | _ => exact absurd hb (by simp [Tag.blocks])
    · rw [show v.walk = u.walk from m.frame.1 .walk hb]

/-- A coil that is off stays off. -/
theorem Move.coilOff {g : Tag} (m : Move g s t) (h : s.walk.coil = false) : t.walk.coil = false := by
  by_cases hb : Block.walk ∈ g.blocks
  · cases m with
    | walk p x _ ho => exact (WalkField.state ho).2.trans h
    | walkTo w => rw [setWalkState_walk]; exact h
    | coil => rfl
    | _ => exact absurd hb (by simp [Tag.blocks])
  · rwa [show t.walk = s.walk from m.frame.1 .walk hb]

theorem Moves.coilOff (m : Moves gs s t) (h : s.walk.coil = false) : t.walk.coil = false :=
  m.keeps (fun _ _ _ _ m => m.coilOff) h

/-- The step count stands or begins anew. -/
def StepsFrom (k k' : Walk) : Prop := k'.stepCount = k.stepCount ∨ k'.stepCount = 0

theorem Moves.stepsFrom (m : Moves gs s t) (hg : Tag.walk .stepCount ∉ gs) : StepsFrom s.walk t.walk := by
  refine m.rel (R := fun u v => StepsFrom u.walk v.walk) (fun _ => .inl rfl) (fun u v w h k => ?_) fun g hm u v m => ?_
  · rcases k with k | k
    · exact h.imp k.trans k.trans
    · exact .inr k
  · by_cases hb : Block.walk ∈ g.blocks
    · cases m with
      | walk p x _ ho =>
        rw [StepsFrom, State.onWalk_walk]
        cases p with
        | stepCount => exact absurd hm hg
        | stepBegin => exact ho.2.symm
        | _ => rw [ho]; exact .inl rfl
      | walkTo w => rw [setWalkState_walk]; exact .inl rfl
      | coil => exact .inl rfl
      | _ => exact absurd hb (by simp [Tag.blocks])
    · rw [show v.walk = u.walk from m.frame.1 .walk hb]
      exact .inl rfl

/-! ### The rope and the ownership of the drag motors -/

theorem enterReclaiming_rope (s : State) : (enterReclaiming s).rope = { s.rope with ownership := .reclaiming } :=
  ((watchOwned_frame _).1 .rope (by decide)).trans ((setRearm_frame _).1 .rope (by decide))

/-- The moves of a tag lead no ownership state of the set out of it. -/
def Tag.ownWithin (p : Ownership → Bool) : Tag → Bool
  | .own v w => !p v || p w
  | .reclaim v _ => !p v || p .reclaiming
  | _ => true

theorem Moves.ownWithin (m : Moves gs s t) (p : Ownership → Bool) (hg : gs.all (Tag.ownWithin p) = true)
    (h : p s.rope.ownership = true) : p t.rope.ownership = true := by
  refine m.keeps (P := fun u => p u.rope.ownership = true) (fun g hm u v m h => ?_) h
  have leads := List.all_eq_true.1 hg g hm
  by_cases hb : Block.rope ∈ g.blocks
  · cases m with
    | rope p' x _ ho => rw [State.onRope_rope, RopeField.ownership ho]; exact h
    | own w =>
      rw [setOwnership_rope]
      simpa [Tag.ownWithin, h] using leads
    | reclaim =>
      rw [enterReclaiming_rope]
      simpa [Tag.ownWithin, h] using leads
    | _ => exact absurd hb (by simp [Tag.blocks])
  · rwa [show v.rope = u.rope from m.frame.1 .rope hb]

theorem Moves.ownStays (m : Moves gs s t) {o : Ownership} (hg : gs.all (Tag.ownWithin (· == o)) = true)
    (h : s.rope.ownership = o) : t.rope.ownership = o := by
  simpa using m.ownWithin (· == o) hg (by simp [h])

theorem Moves.ownStood (m : Moves gs s t) {o : Ownership} (hg : gs.all (Tag.ownWithin (· != o)) = true)
    (h : t.rope.ownership = o) : s.rope.ownership = o := by
  by_contra hn
  have := m.ownWithin (· != o) hg (by simpa using hn)
  simp [h] at this

/-- A field of the rope other than the ownership state stands where none of the tags forms it. -/
theorem Moves.ropeField (m : Moves gs s t) (f : Rope → α) (hw : ∀ r o, f { r with ownership := o } = f r)
    (hp : ∀ p, Tag.rope p ∈ gs → ∀ r r', p.only r r' → f r' = f r) : f t.rope = f s.rope :=
  m.same (f := fun u => f u.rope) fun g hg u v m => by
    by_cases hb : Block.rope ∈ g.blocks
    · cases m with
      | rope p g _ ho => exact hp p hg _ _ ho
      | own w => rw [setOwnership_rope]; exact hw u.rope w
      | reclaim => rw [enterReclaiming_rope]; exact hw u.rope _
      | _ => exact absurd hb (by simp [Tag.blocks])
    · rw [show v.rope = u.rope from m.frame.1 .rope hb]

/-- The drag is in YIELDING and its XFER-YIELD is not placed. -/
def Unsent (r : Rope) : Prop := r.ownership = .yielding ∧ r.yieldSent = false

/-- Only the yield's judgement takes a drag out of YIELDING before its XFER-YIELD is placed. -/
def Tag.sparesUnsent : Tag → Bool
  | .own v _ => v != .yielding
  | .reclaim v sent => v != .yielding || sent
  | .rope p => p != .yieldSent
  | _ => true

theorem Moves.unsent (m : Moves gs s t) (hg : gs.all Tag.sparesUnsent = true) (h : Unsent s.rope) : Unsent t.rope := by
  refine m.keeps (P := fun u => Unsent u.rope) (fun g hm u v m h => ?_) h
  have spares := List.all_eq_true.1 hg g hm
  by_cases hb : Block.rope ∈ g.blocks
  · cases m with
    | rope p x _ ho =>
      obtain ⟨own, sent⟩ := h
      rw [State.onRope_rope]
      refine ⟨(RopeField.ownership ho).trans own, ?_⟩
      cases p with
      | yieldSent => cases spares
      | _ => rw [ho]; exact sent
    | own w =>
      rw [h.1] at spares
      cases spares
    | reclaim =>
      rw [h.1, h.2] at spares
      cases spares
    | _ => exact absurd hb (by simp [Tag.blocks])
  · rwa [show v.rope = u.rope from m.frame.1 .rope hb]

/-! ### What the contactor reads -/

theorem dragSide_congr (hu : t.startup = s.startup) (hi : t.inputs = s.inputs) : t.dragSide = s.dragSide := by
  simp only [State.dragSide, State.dsClosed, State.wsClosed, State.inputActive, params_of_startup hu, hi]

theorem walkSide_congr (hu : t.startup = s.startup) (hi : t.inputs = s.inputs) : t.walkSide = s.walkSide := by
  simp only [State.walkSide, State.dsClosed, State.wsClosed, State.inputActive, params_of_startup hu, hi]

theorem bothOpen_congr (hu : t.startup = s.startup) (hi : t.inputs = s.inputs) : t.bothOpen = s.bothOpen := by
  simp only [State.bothOpen, State.dsClosed, State.wsClosed, State.inputActive, params_of_startup hu, hi]

/-! ### The two steps of the drive chain's cycle -/

/-- The moves up to the axis function's step, and from there to what follows the frame. -/
def beforeStepTags : List Tag := fallAxisTags ++ earlyTags ++ (measureTags ++ checksTags)

/-- The axis function's step of a cycle start works on `x`, what follows the frame on `y`; the cycle start leaves
`t`. -/
structure AxisWork (i : Inputs) (s x y t : State) : Prop where
  before : Moves beforeStepTags (ticked s) x
  formed : y = chainOutputs (axisStep x)
  between : Moves outTags (axisStep x) y
  late : Moves lateTags (chainAfter y) t
  inputs : x.inputs = i
  brake : x.drive.brakeInput = (i.din.getLsbD s.params.brakeInput.number == s.params.brakeInput.high)

theorem axisWork (hj : s.joined = true) (ha : s.role.isAxis = true) : AxisWork i s (checked (cabbed (fallen i s)))
    (chainOutputs (axisStep (checked (cabbed (fallen i s))))) (cycleWork (fallen i s)) := by
  have start := chainStart (i := i) hj ha
  generalize cabbed (fallen i s) = c at start
  have late := start.rest
  have form : chainCycle c = chainAfter (chainOutputs (axisStep (checked c))) :=
    if_pos (by rw [start.joined, start.axis]; rfl)
  rw [form] at late
  have before := (measured_moves c).mono (hs := measureTags ++ checksTags) (List.subset_append_left _ _)
  have checks : Moves (measureTags ++ checksTags) c (checked c) :=
    before.trans ((driveChecks_moves _).mono (List.subset_append_right _ _))
  refine ⟨(start.moves.mono (List.subset_append_left _ _)).trans (checks.mono (List.subset_append_right _ _)), rfl, ?_, late,
    (checks.block .inputs (by decide)).trans start.inputs, ?_⟩
  swap
  · refine ((driveChecks_moves (measured c)).driveField (fun d => d.brakeInput) (fun _ _ _ _ _ _ _ _ _ _ => rfl)
      fun p hp d d' ho => ?_).trans (measured_brakeInput start)
    cases p with
    | measured => exact absurd hp (by decide)
    | _ => rw [ho]
  have role := (axisStep_moves (checked c)).role.trans checks.role
  have joined := (axisStep_moves (checked c)).joined.trans checks.joined
  exact chainOutputs_moves (joined.trans start.joined) (role ▸ start.axis)

end

end Sys2Proof.Machine

end

section
/-! PROOFS. The events of the HOIST and DRAG axis functions (R123, R129, R130). -/

namespace Sys2Proof.Machine

section
variable {s t x y : State} {i : Inputs} {e : Event}

/-! ### Where an event of the drive chain's cycle was noted -/

/-- Only a joined axis station notes an event of the drive chain's cycle. -/
theorem work_axis (he : e ∈ (cycleWork (fallen i s)).events) (hn : Tag.note e ∉ fallTags ++ earlyTags ++ lateTags) :
    s.joined = true ∧ s.role.isAxis = true := by
  by_contra h
  have start := fallen_startup i s
  have early := cabbed_moves (fallen i s)
  have late := fromChain_moves (fallen i s)
  rw [chained] at late
  generalize cycleWork (fallen i s) = t at late he
  generalize cabbed (fallen i s) = c at early late
  have startup : c.startup = s.startup := early.startup.trans start
  rw [chainCycle, joined_of_startup startup, role_of_startup startup, if_neg (by rw [Bool.and_eq_true]; exact h)] at late
  have m := (((fallen_moves i s).mono (hs := fallTags ++ earlyTags ++ lateTags) fun _ h =>
    List.mem_append_left _ (List.mem_append_left _ h)).trans
      (early.mono fun _ h => List.mem_append_left _ (List.mem_append_right _ h))).trans
        (late.mono fun _ h => List.mem_append_right _ h)
  exact nomatch (m.events_none hn).1 he

/-- The moves of the axis function's step at each role. -/
def roleTags : Role → List Tag
  | .hoist => ropeTags ++ hoistTags
  | .drag => ropeTags ++ ownershipTags
  | .swing => swingTags
  | .walk => walkTags
  | .none | .cab => []

theorem axisStep_role_moves (s : State) : Moves (roleTags s.role) s (axisStep s) := by
  cases hr : s.role with
  | hoist =>
    rw [axisStep_hoist hr]
    exact ((ropeFirst_moves s).mono (List.subset_append_left _ _)).trans
      (((((hoistClass_moves _).trans (hoistOverload_moves _)).mono (List.subset_append_left _ _)).trans
        ((hoistSlack_moves _).mono (List.subset_append_right _ _))).mono (List.subset_append_right _ hoistTags))
  | drag =>
    rw [axisStep_drag hr]
    exact ((ropeFirst_moves s).mono (List.subset_append_left _ _)).trans
      ((ownershipCycle_moves _).mono (List.subset_append_right _ _))
  | swing => rw [axisStep_swing hr]; exact swingStep_moves s
  | walk => rw [axisStep_walk hr]; exact walkStep_moves s
  | none | cab => rw [axisStep, hr]; exact .refl _ s

namespace AxisWork
variable (h : AxisWork i s x y t)
include h

theorem startup : x.startup = s.startup ∧ y.startup = s.startup := by
  have hx : x.startup = s.startup := h.before.startup
  exact ⟨hx, h.between.startup.trans ((axisStep_moves x).startup.trans hx)⟩

/-- The moves up to what follows the frame, and from the axis function's step on. -/
theorem toAfter : Moves (beforeStepTags ++ axisTags ++ outTags) (ticked s) y :=
  ((h.before.mono fun _ h => List.mem_append_left _ (List.mem_append_left _ h)).trans
    ((axisStep_moves x).mono fun _ h => List.mem_append_left _ (List.mem_append_right _ h))).trans
      (h.between.mono fun _ h => List.mem_append_right _ h)

theorem fromStep : Moves (outTags ++ (afterTags ++ lateTags)) (axisStep x) t :=
  (h.between.mono fun _ h => List.mem_append_left _ h).trans
    (((chainAfter_moves y).mono fun _ h => List.mem_append_right _ (List.mem_append_left _ h)).trans
      (h.late.mono fun _ h => List.mem_append_right _ (List.mem_append_right _ h)))

/-- An event of the axis function's step. -/
theorem stepNoted (hn : Tag.note e ∉ outTags ++ (afterTags ++ lateTags)) : e ∈ t.events ↔ e ∈ (axisStep x).events :=
  h.fromStep.events_none hn

theorem stepQuiet (hn : Tag.note e ∉ beforeStepTags) : e ∉ x.events := fun he => nomatch (h.before.events_none hn).1 he

/-- An event of the axis function's step is one of the station's role. -/
theorem stepRole (hn : Tag.note e ∉ outTags ++ (afterTags ++ lateTags)) (hb : Tag.note e ∉ beforeStepTags)
    (he : e ∈ t.events) : Tag.note e ∈ roleTags s.role := by
  have role : x.role = s.role := role_of_startup h.startup.1
  rw [← role]
  exact ((axisStep_role_moves x).events_sub ((h.stepNoted hn).1 he)).resolve_left (h.stepQuiet hb)

/-- An event of what follows the frame. -/
theorem afterNoted (hn : Tag.note e ∉ lateTags) : e ∈ t.events ↔ e ∈ (chainAfter y).events := h.late.events_none hn

theorem afterQuiet (hn : Tag.note e ∉ beforeStepTags ++ axisTags ++ outTags) : e ∉ y.events := fun he =>
  nomatch (h.toAfter.events_none hn).1 he

end AxisWork

/-! ### The hoist's slack count (R123) -/

/-- The slack count of a cycle start. -/
def slackCount (s : State) : Nat :=
  if s.rope.bucket = .low ∧ s.rope.load < s.params.rope.slackThreshold then bump8 s.rope.slack else 0

theorem hoistSlack_eq (s : State) : hoistSlack s =
    if s.rope.slack < 5 ∧ slackCount s = 5 then
      (raiseQuiet .slackRope none (s.onRope fun r => { r with slack := slackCount s })).note .slackRope
    else if slackCount s = 0 then clearAlarm .slackRope none (s.onRope fun r => { r with slack := slackCount s })
    else s.onRope fun r => { r with slack := slackCount s } := rfl

theorem hoistSlack_rope (s : State) : (hoistSlack s).rope = { s.rope with slack := slackCount s } := by
  rw [hoistSlack_eq]
  split
  · exact (raiseQuiet_frame _ _ _).1 .rope (by decide)
  · split
    · exact (clearAlarm_frame _ _ _).1 .rope (by decide)
    · rfl

theorem slackCount_reaches : s.rope.slack < 5 ∧ slackCount s = 5
    ↔ s.rope.slack = 4 ∧ s.rope.bucket = .low ∧ s.rope.load < s.params.rope.slackThreshold := by
  have up : bump8 s.rope.slack = min 255 (s.rope.slack + 1) := rfl
  unfold slackCount
  split
  · next h => rw [up]; simp only [h, and_true]; omega
  · next h => exact ⟨fun h => absurd h.2 (by decide), fun hl => absurd hl.2 h⟩

/-- The slack count notes its event exactly where it reaches 5. -/
theorem hoistSlack_notes (hn : Event.slackRope ∉ s.events) : Event.slackRope ∈ (hoistSlack s).events
    ↔ s.rope.slack = 4 ∧ s.rope.bucket = .low ∧ s.rope.load < s.params.rope.slackThreshold := by
  rw [← slackCount_reaches, hoistSlack_eq]
  split
  · next h => exact ⟨fun _ => h, fun _ => List.mem_cons_self⟩
  · next h =>
    refine ⟨fun he => absurd ?_ hn, fun hr => absurd hr h⟩
    split at he
    · rwa [clearAlarm_events] at he
    · exact he

/-- The hoist's slack is judged in `v`. -/
structure SlackStage (s v t : State) : Prop where
  params : v.params = s.params
  slack : v.rope.slack = s.rope.slack
  bucket : t.rope.bucket = v.rope.bucket
  load : t.rope.load = v.rope.load
  count : t.rope.slack = slackCount v
  notes : Event.slackRope ∈ t.events ↔ v.rope.slack = 4 ∧ v.rope.bucket = .low ∧ v.rope.load < v.params.rope.slackThreshold

theorem AxisWork.slack (h : AxisWork i s x y t) (hr : s.role = .hoist) : ∃ v, SlackStage s v t := by
  have rest := h.fromStep
  have noted := h.stepNoted (e := .slackRope) (by decide)
  have quiet := h.stepQuiet (e := .slackRope) (by decide)
  have moves : Moves (ropeTags ++ classTags) x (hoistOverload (hoistClass (ropeFirst x))) :=
    ((ropeFirst_moves x).mono (List.subset_append_left _ _)).trans
      (((hoistClass_moves _).trans (hoistOverload_moves _)).mono (List.subset_append_right _ _))
  have before := (h.before.mono (List.subset_append_left _ (ropeTags ++ classTags))).trans
    (moves.mono (List.subset_append_right _ _))
  rw [axisStep_hoist ((role_of_startup h.startup.1).trans hr)] at rest noted
  generalize hoistOverload (hoistClass (ropeFirst x)) = v at rest noted moves before
  have rope := hoistSlack_rope v
  have stands : (t.rope.bucket, t.rope.load, t.rope.slack) =
      ((hoistSlack v).rope.bucket, (hoistSlack v).rope.load, (hoistSlack v).rope.slack) :=
    rest.ropeField (fun r => (r.bucket, r.load, r.slack)) (fun _ _ => rfl) fun p hp r r' ho => by
      cases p with
      | bucket | measured | slack => exact absurd hp (by decide)
      | _ => rw [ho]
  rw [rope] at stands
  simp only [Prod.mk.injEq] at stands
  obtain ⟨bucket, load, slack⟩ := stands
  refine ⟨v, params_of_startup before.startup, ?_, bucket, load, slack, noted.trans (hoistSlack_notes ?_)⟩
  · exact before.ropeField (fun r => r.slack) (fun _ _ => rfl) fun p hp r r' ho => by
      cases p with
      | slack => exact absurd hp (by decide)
      | _ => rw [ho]
  · exact fun he => quiet ((moves.events_none (by decide)).1 he)

/-! ### The drag's ownership (R129, R130) -/

theorem yieldedCycle_waits (hw : s.walkSide = false) (hd : s.dragSide = true) (hs : s.rope.walkSeen = false)
    (hp : s.rope.reclaimPending = false) : yieldedCycle s =
    if s.params.rope.yieldLimit ≤ satAdd 1000 s.rope.yieldWait 1 then
      (enterReclaiming (s.onRope fun r => { r with yieldWait := satAdd 1000 s.rope.yieldWait 1 })).note .yieldWaitExpiry
    else s.onRope fun r => { r with yieldWait := satAdd 1000 s.rope.yieldWait 1 } := by
  rw [yieldedCycle, if_neg (by simp [hw]), if_pos hd, if_neg (by simp [hs, hp])]
  rfl

theorem enterReclaiming_events (s : State) : (enterReclaiming s).events = s.events :=
  (watchOwned_events _).trans (setRearm_events _)

theorem setOwnership_events (o : Ownership) (s : State) : (setOwnership o s).events = s.events := watchOwned_events _

/-- The ownership cycle notes its event only where a waiting drag reclaims. -/
theorem ownershipCycle_notes (he : Event.yieldWaitExpiry ∈ (ownershipCycle s).events)
    (hn : Event.yieldWaitExpiry ∉ s.events) (ha : s.role.isAxis = true) : s.rope.ownership = .yielded
      ∧ (ownershipCycle s).rope.ownership = .reclaiming ∧ (ownershipCycle s).ring.rearm = true := by
  have yields : (dragToYielded s).events = s.events := setOwnership_events _ _
  cases ho : s.rope.ownership with
  | yielded =>
    have form : ownershipCycle s = yieldedCycle s := by rw [ownershipCycle, ho]
    rw [form] at he ⊢
    refine ⟨rfl, ?_⟩
    unfold yieldedCycle at he ⊢; dsimp only at he ⊢
    split at he
    · exact absurd he hn
    · split at he
      · split at he
        · rw [enterReclaiming_events] at he
          exact absurd he hn
        · split at he
          · next hw hd hs hl =>
            rw [if_neg hw, if_pos hd, if_neg hs, if_pos hl]
            have axis := enterReclaiming_axis (s := s.onRope fun r => { r with yieldWait := satAdd 1000 s.rope.yieldWait 1 }) ha
            exact ⟨axis.1, congrArg Ring.rearm axis.2⟩
          · exact absurd he hn
      · exact absurd he hn
  | digging =>
    have form : ownershipCycle s = if s.walkSide then dragToYielded s else s := by rw [ownershipCycle, ho]
    rw [form] at he
    split at he
    · rw [yields] at he; exact absurd he hn
    · exact absurd he hn
  | yielding =>
    have form : ownershipCycle s = if s.walkSide then dragToYielded s else s := by rw [ownershipCycle, ho]
    rw [form] at he
    split at he
    · rw [yields] at he; exact absurd he hn
    · exact absurd he hn
  | reclaiming =>
    have form : ownershipCycle s = if s.walkSide then dragToYielded s
        else if !s.ring.rearm then setOwnership .digging s else s := by rw [ownershipCycle, ho]
    rw [form] at he
    split at he
    · rw [yields] at he; exact absurd he hn
    · split at he
      · rw [setOwnership_events] at he; exact absurd he hn
      · exact absurd he hn

/-- The drag's ownership is judged in `v`. -/
structure OwnershipStage (i : Inputs) (s x v : State) : Prop where
  form : axisStep x = ownershipCycle v
  inputs : v.inputs = i
  before : Moves (beforeStepTags ++ ropeTags) (ticked s) v
  quiet : Event.yieldWaitExpiry ∉ v.events

theorem AxisWork.ownership (h : AxisWork i s x y t) (hr : s.role = .drag) : ∃ v, OwnershipStage i s x v := by
  have quiet := h.stepQuiet (e := .yieldWaitExpiry) (by decide)
  have moves := ropeFirst_moves x
  refine ⟨ropeFirst x, axisStep_drag ((role_of_startup h.startup.1).trans hr),
    (moves.block .inputs (by decide)).trans h.inputs, (h.before.mono (List.subset_append_left _ _)).trans
      (moves.mono (List.subset_append_right _ _)), fun he => quiet ((moves.events_none (by decide)).1 he)⟩

theorem AxisWork.reclaims (h : AxisWork i s x y t) (he : Event.yieldWaitExpiry ∈ t.events) :
    s.rope.ownership = .yielded ∧ t.rope.ownership = .reclaiming ∧ t.ring.rearm = true := by
  have noted := (h.stepNoted (e := .yieldWaitExpiry) (by decide)).1 he
  have rest := h.fromStep
  have drag : s.role = .drag := by
    have mem := h.stepRole (by decide) (by decide) he
    revert mem
    cases s.role <;> decide
  obtain ⟨v, stage⟩ := h.ownership drag
  rw [stage.form] at noted rest
  have axis : v.role.isAxis = true := by
    have role : v.role = s.role := stage.before.role
    rw [role, drag]
    rfl
  obtain ⟨yielded, reclaiming, rearm⟩ := ownershipCycle_notes noted stage.quiet axis
  refine ⟨stage.before.ownStood (s := ticked s) (by decide) yielded, rest.ownStays (by decide) reclaiming, ?_⟩
  rcases rest.rearmed (by decide) with hring | hring <;> rw [hring]
  exact rearm

theorem AxisWork.yieldWait (h : AxisWork i s x y t) (hr : s.role = .drag) (ho : s.rope.ownership = .yielded)
    (hd : ({ s with inputs := i } : State).dragSide = true) (hs : s.rope.walkSeen = false)
    (hp : s.rope.reclaimPending = false) (hl : s.params.rope.yieldLimit ≤ min 1000 (s.rope.yieldWait + 1)) :
    Event.yieldWaitExpiry ∈ t.events := by
  obtain ⟨v, stage⟩ := h.ownership hr
  have startup : v.startup = s.startup := stage.before.startup
  have stands := stage.before.ropeField (fun r => (r.walkSeen, r.reclaimPending, r.yieldWait)) (fun _ _ => rfl)
    fun p hp r r' ho => by
      cases p with
      | transfer | yieldWait => exact absurd hp (by decide)
      | _ => rw [ho]
  simp only [Prod.mk.injEq] at stands
  obtain ⟨seen, pending, wait⟩ := stands
  have drag : v.dragSide = true :=
    (dragSide_congr (s := ({ s with inputs := i } : State)) startup stage.inputs).trans hd
  have walk : v.walkSide = false := by
    simp only [State.dragSide, Bool.and_eq_true, Bool.not_eq_true'] at drag
    simp only [State.walkSide, drag.2, Bool.false_and]
  rw [h.stepNoted (by decide), stage.form, show ownershipCycle v = yieldedCycle v by
      rw [ownershipCycle, show v.rope.ownership = .yielded from stage.before.ownStays (s := ticked s) (by decide) ho],
    yieldedCycle_waits walk drag (seen.trans hs) (pending.trans hp), if_pos]
  · exact List.mem_cons_self
  · rw [params_of_startup startup, wait]
    exact hl

/-! ### The yield's limit (R129) -/

theorem afterYield_moves (s : State) : Moves contactorTags (yieldJudge s) (chainAfter s) :=
  (((walkStart_moves _).mono (by decide)).trans (contactorChecks_moves _)).trans
    ((Move.drive .ran (fun d => { d with ran := true }) _ rfl).moves (by decide))

/-- The XFER-REFUSE of a drag that has not stopped, and its return to DIGGING. -/
def yieldEnded (s : State) : State :=
  setOwnership .digging (place { kind := .xferRefuse, target := toRole .walk s, words := reasonWords reasonNotStopped } s)

theorem yieldEnded_rope (s : State) : (yieldEnded s).rope = { s.rope with ownership := .digging } := by
  rw [yieldEnded, setOwnership_rope, place_rope]

theorem yieldJudge_judged (hr : s.role = .drag) (hu : Unsent s.rope) : yieldJudge s =
    if dragStopped s = true then sendYield (s.onRope fun r => { r with yieldCount := s.rope.yieldCount + 1 })
    else if s.params.rope.yieldLimit ≤ s.rope.yieldCount + 1 then
      (yieldEnded (s.onRope fun r => { r with yieldCount := s.rope.yieldCount + 1 })).note .yieldLimit
    else s.onRope fun r => { r with yieldCount := s.rope.yieldCount + 1 } :=
  if_pos ⟨hr, hu.1, by simp [hu.2]⟩

theorem yieldJudge_idle (h : ¬ (s.role = .drag ∧ Unsent s.rope)) : yieldJudge s = s :=
  if_neg fun hy => h ⟨hy.1, hy.2.1, by simpa using hy.2.2⟩

/-- The yield's judgement notes its event only where it returns the drag to DIGGING. -/
theorem yieldJudge_notes (he : Event.yieldLimit ∈ (yieldJudge s).events) (hn : Event.yieldLimit ∉ s.events) :
    s.rope.ownership = .yielding ∧ s.params.rope.yieldLimit ≤ s.rope.yieldCount + 1
      ∧ (yieldJudge s).rope.ownership = .digging ∧ (yieldJudge s).rope.yieldSent = false := by
  by_cases hy : s.role = .drag ∧ Unsent s.rope
  · obtain ⟨hr, hu⟩ := hy
    rw [yieldJudge_judged hr hu] at he ⊢
    split at he
    · exact absurd (((sendYield_moves _).events_none (by decide)).1 he) hn
    · next hd =>
      split at he
      · next hl =>
        have rope : ∀ u : State, ((yieldEnded u).note .yieldLimit).rope = { u.rope with ownership := .digging } := yieldEnded_rope
        rw [if_neg hd, if_pos hl, rope]
        exact ⟨hu.1, hl, rfl, hu.2⟩
      · exact absurd he hn
  · rw [yieldJudge_idle hy] at he
    exact absurd he hn

theorem AxisWork.yieldEnds (h : AxisWork i s x y t) (he : Event.yieldLimit ∈ t.events) : s.rope.ownership = .yielding
    ∧ s.params.rope.yieldLimit ≤ s.rope.yieldCount + 1 ∧ t.rope.ownership = .digging ∧ t.rope.yieldSent = false := by
  have after := afterYield_moves y
  have noted := (after.events_none (by decide)).1 ((h.afterNoted (by decide)).1 he)
  obtain ⟨yielding, limit, digging, sent⟩ := yieldJudge_notes noted (h.afterQuiet (by decide))
  have count := h.toAfter.ropeField (fun r => r.yieldCount) (fun _ _ => rfl) fun p hp r r' ho => by
    cases p with
    | yieldCount => exact absurd hp (by decide)
    | _ => rw [ho]
  have rest := (after.mono (List.subset_append_left _ lateTags)).trans (h.late.mono (List.subset_append_right _ _))
  have stands := rest.ropeField (fun r => r.yieldSent) (fun _ _ => rfl) fun p hp r r' ho => by
    cases p with
    | yieldSent => exact absurd hp (by simp only [lateTags, List.mem_append]; decide)
    | _ => rw [ho]
  refine ⟨h.toAfter.ownStood (s := ticked s) (by simp only [beforeStepTags, List.all_append]; decide) yielding, ?_,
    rest.ownStays (by simp only [lateTags, List.all_append]; decide) digging, stands.trans sent⟩
  rw [← params_of_startup h.startup.2, ← show _ = s.rope.yieldCount from count]
  exact limit

theorem AxisWork.yieldLimit (h : AxisWork i s x y t) (hr : s.role = .drag) (hu : Unsent s.rope)
    (hw : ({ s with inputs := i } : State).walkSide = false)
    (hl : s.params.rope.yieldLimit ≤ s.rope.yieldCount + 1)
    (hs : ¬ (t.inputActive s.params.brakeInput = true ∧ t.drive.brake = .set ∧ t.drive.speed.natAbs ≤ 5)) :
    Event.yieldLimit ∈ t.events := by
  have after := afterYield_moves y
  obtain ⟨v, stage⟩ := h.ownership hr
  have walk : v.walkSide = false :=
    (walkSide_congr (s := ({ s with inputs := i } : State)) stage.before.startup stage.inputs).trans hw
  have found : Unsent v.rope := stage.before.unsent (s := ticked s) (by decide) hu
  have stepped : axisStep x = v := by
    rw [stage.form, ownershipCycle, found.1]
    exact if_neg (by simp [walk])
  have between := h.between
  rw [stepped] at between
  have unsent : Unsent y.rope := between.unsent (by decide) found
  have count := h.toAfter.ropeField (fun r => r.yieldCount) (fun _ _ => rfl) fun p hp r r' ho => by
    cases p with
    | yieldCount => exact absurd hp (by decide)
    | _ => rw [ho]
  have rest := ((chainAfter_moves y).mono (List.subset_append_left _ lateTags)).trans
    (h.late.mono (List.subset_append_right _ _))
  have input : y.drive.brakeInput = (i.din.getLsbD s.params.brakeInput.number == s.params.brakeInput.high) :=
    (((axisStep_moves x).mono (List.subset_append_left _ outTags)).trans (h.between.mono (List.subset_append_right _ _))
      |>.driveField (fun d => d.brakeInput) (fun _ _ _ _ _ _ _ _ _ _ => rfl) fun p hp d d' ho => by
        cases p with
        | measured => exact absurd hp (by decide)
        | _ => rw [ho]).trans h.brake
  have speed := rest.driveField (fun d => d.speed) (fun _ _ _ _ _ _ _ _ _ _ => rfl) fun p hp d d' ho => by
    cases p with
    | measured => exact absurd hp (by simp only [lateTags, List.mem_append]; decide)
    | _ => rw [ho]
  have inputs : t.inputs = i := (rest.block .inputs (by simp only [lateTags, List.all_append]; decide)).trans
    ((h.between.block .inputs (by decide)).trans (((axisStep_moves x).block .inputs (by decide)).trans h.inputs))
  have moving : ¬ dragStopped y = true := by
    intro hd
    simp only [dragStopped, Bool.and_eq_true, beq_iff_eq, decide_eq_true_eq] at hd
    refine hs ⟨?_, rest.brakeSet (by simp only [lateTags, List.mem_append]; decide) hd.1.2, ?_⟩
    · rw [State.inputActive, inputs, ← input]
      exact hd.1.1
    · rw [speed]
      exact Int.ofNat_le.1 hd.2
  have limit : y.params.rope.yieldLimit ≤ y.rope.yieldCount + 1 := by
    rw [params_of_startup h.startup.2, show y.rope.yieldCount = s.rope.yieldCount from count]
    exact hl
  refine h.late.events_mono (after.events_mono ?_)
  rw [yieldJudge_judged ((role_of_startup h.startup.2).trans hr) unsent, if_neg moving, if_pos limit]
  exact List.mem_cons_self

end

end Sys2Proof.Machine

end

section
/-! PROOFS. What a cycle start keeps of the entries of a kind that no move places, and of the walk of a station still in
RUN. -/

namespace Sys2Proof.Machine

section
variable {s t u : State} {gs : List Tag} {i : Inputs}

/-! ### The entries of a kind -/

/-- Every entry of the kind has the property. -/
def AllOf (k : Kind) (p : Entry → Prop) (l : LineUnit) : Prop := ∀ e ∈ l.queue, e.kind = k → p e

variable {k : Kind} {p : Entry → Prop}

theorem AllOf.of_queue {l l' : LineUnit} (h : AllOf k p l) (hq : l'.queue = l.queue) : AllOf k p l' := fun e he =>
  h e (hq ▸ he)

theorem AllOf.map {l : LineUnit} (h : AllOf k p l) {f : Entry → Entry} (hk : ∀ e, (f e).kind = e.kind)
    (hf : ∀ e, p e → p (f e)) : AllOf k p { l with queue := l.queue.map f } := fun e he hke => by
  obtain ⟨x, hx, rfl⟩ := List.mem_map.1 he
  exact hf x (h x hx ((hk x).symm.trans hke))

theorem AllOf.enqueue {e : Entry} (h : AllOf k p s.line) (hk : e.kind ≠ k) : AllOf k p (enqueue e s).1.line :=
  fun x hx hkx => h x (mem_enqueue_other hx (by rw [hkx]; exact hk.symm)) hkx

theorem AlarmLine.allOf (h : AlarmLine s t) (hk : k ≠ .alarm) (hs : AllOf k p s.line) : AllOf k p t.line :=
  h.keeps (Q := AllOf k p) (fun e u _ he hu => hu.enqueue (s := u) (e := e) (by rw [he]; exact hk.symm)) hs

theorem AllOf.mute {l : LineUnit} (h : AllOf k p l) (hp : Lasting p) (q : Entry → Bool) :
    AllOf k p { l with queue := l.queue.map fun e => if q e then { e with muted := true } else e } := by
  refine h.map (fun e => ?_) (hp.mute q)
  split <;> rfl

theorem Move.allOf {g : Tag} (m : Move g s t) (hp : Lasting p) (hk : k ∉ g.kinds) (ha : g ≠ .age)
    (h : AllOf k p s.line) : AllOf k p t.line := by
  by_cases hb : Block.line ∈ g.blocks
  · cases m with
    | count c _ hc => exact h
    | place e =>
      rw [placeTold_line]
      exact h.enqueue (by simpa [Tag.kinds, eq_comm] using hk)
    | mute q => exact h.mute hp q
    | settle q =>
      refine h.map (fun e => ?_) fun e he => ?_
      · split <;> rfl
      · split
        · exact hp.settled e he
        · exact he
    | age => exact absurd rfl ha
    | line f c _ hc => cases f <;> exact h.of_queue (by rw [State.onLine_line, hc])
    | queries => exact h
    | rejoin => exact h
    | walkTo w =>
      have watched : ∀ u : State, (watchOwned (u.onWalk fun k => { k with state := w, stateCount := 0 })).line = u.line :=
        fun u => (watchOwned_frame _).1 .line (by decide)
      unfold setWalkState; dsimp only
      rw [watched]
      split
      · exact h.mute hp _
      · exact h
    | grant peer k =>
      obtain ⟨e, -, he, hl⟩ := placeGrant_line peer k s
      rw [hl]
      exact AllOf.enqueue (s := s.onShare fun h => { h with grantNumber := h.grantNumber + 1 }) h
        (by rw [he]; simpa [Tag.kinds, eq_comm] using hk)
    | raised c d => exact (raiseQuiet_alarmLine c d s).allOf (by simpa [Tag.kinds] using hk) h
    | cleared c d => exact (clearAlarm_alarmLine c d s).allOf (by simpa [Tag.kinds] using hk) h
    | dropped d => exact (loanDropped_alarmLine d s).allOf (by simpa [Tag.kinds] using hk) h
    | report r => exact (reportAlarm_alarmLine r false true s).allOf (by simpa [Tag.kinds] using hk) h
    | _ => exact absurd hb (by simp [Tag.blocks])
  · rwa [m.frame.1 .line hb]

theorem Moves.allOf (m : Moves gs s t) (hp : Lasting p) (hg : gs.all (Tag.spares k) = true) (ha : Tag.age ∉ gs)
    (h : AllOf k p s.line) : AllOf k p t.line :=
  m.keeps (P := fun u => AllOf k p u.line) (fun g hm u v m hu => m.allOf hp (fun hk => by
    have spared := List.all_eq_true.1 hg g hm
    simp [Tag.spares, hk] at spared) (fun he => ha (he ▸ hm)) hu) h

/-- The entry does not come to its wait limit at the next cycle start (R17). -/
def FarFromLimit (e : Entry) : Prop := e.waited + 1 < 8

theorem lasting_farFromLimit : Lasting FarFromLimit := ⟨fun _ h => h, fun _ h => h⟩

theorem lasting_none : Lasting fun _ => False := ⟨fun _ h => h, fun _ h => h⟩

theorem ticked_allOf (h : AllOf k p s.line) (hp : ∀ e n, p e → p { e with rank := n }) : AllOf k p (ticked s).line :=
  (h.map (f := fun e => { e with rank := 0 }) (fun _ => rfl) fun e => hp e 0 : AllOf k p _)

/-- The entries that expire at a cycle start are none of a kind whose entries stand far from the limit. -/
theorem AllOf.survives {c : DWord} {q : List Entry} (h : ∀ e ∈ q, e.kind = k → FarFromLimit e)
    (hk : k ≠ .reference) : ∀ e ∈ queueGone c q, e.kind ≠ k := by
  intro e he hke
  obtain ⟨hm, hx⟩ := List.mem_filter.1 he
  obtain ⟨x, hx', rfl⟩ := List.mem_map.1 hm
  have kind : x.aged.kind = x.kind := by unfold Entry.aged; split <;> rfl
  have waited : x.aged.waited ≤ x.waited + 1 := by unfold Entry.aged; split <;> simp
  have far : x.waited + 1 < 8 := h x hx' (kind.symm.trans hke)
  have waits : waitOut c x.aged = true := by
    simp only [expiresNow, Bool.and_eq_true] at hx
    exact hx.2
  unfold waitOut at waits
  split at waits
  · next hr => exact hk (hke.symm.trans hr)
  · cases waits
  · cases waits
  · have : 8 ≤ x.aged.waited := of_decide_eq_true waits
    omega

/-- Entries of other kinds end without an act of the walk. -/
theorem entryExpired_walk {e : Entry} (h : e.kind ≠ .xferAsk) : (entryExpired s e).walk = s.walk := by
  unfold entryExpired outcomeFailed
  split
  · split <;> rfl
  · rfl
  · exact (returnFailed_frame _ _ _ _).1 .walk (by decide)
  · next hk => exact absurd hk h
  · split
    · exact (enterReclaiming_frame _).1 .walk (by decide)
    · rfl
  · rfl

theorem ageQueue_walk (h : ∀ e ∈ queueGone s.time.cycle s.line.queue, e.kind ≠ .xferAsk) :
    (ageQueue s).walk = s.walk := by
  have all : ∀ (l : List Entry) (u : State), (∀ e ∈ l, e.kind ≠ .xferAsk) → (l.foldl entryExpired u).walk = u.walk := by
    intro l
    induction l with
    | nil => exact fun _ _ => rfl
    | cons e l ih =>
      intro u hl
      exact (ih (entryExpired u e) fun x hx => hl x (List.mem_cons_of_mem _ hx)).trans
        (entryExpired_walk (hl e List.mem_cons_self))
  rw [ageQueue_eq]
  exact all _ _ h

/-- The moves of a cycle start between the ageing of the queue and the drive chain. -/
def afterAgeTags : List Tag :=
  lineCountTags ++ (([.long] ++ pictureTags ++ (termTags ++ quarantineTags ++ refreshTags))
    ++ (ringTags ++ (annunciatorTags ++ cabTags)))

theorem afterAge_moves (s : State) : Moves afterAgeTags (ageQueue s) (cabbed s) :=
  (((duplicateCycle_moves _).mono fun _ h => List.mem_append_left _ (List.mem_append_left _ h)).trans
    ((faultCycle_moves _).mono fun _ h => List.mem_append_left _ (List.mem_append_right _ h))).trans
      (((afterLine_counts s).mono fun _ h => List.mem_append_right _ (List.mem_append_left _ h)).trans
        (((ringCycle_moves _).mono fun _ h =>
            List.mem_append_right _ (List.mem_append_right _ (List.mem_append_left _ h))).trans
          ((fromRing_moves s).mono fun _ h =>
            List.mem_append_right _ (List.mem_append_right _ (List.mem_append_right _ h)))))

/-! ### A station still in RUN -/

theorem Moves.run (m : Moves gs s t) (h : t.alarms.mode = .run) : s.alarms.mode = .run := by
  cases hs : s.alarms.mode with
  | run => rfl
  | tripped => rw [m.tripped hs] at h; cases h

/-- A station still in RUN was so before, its walk as it was. -/
def Steady (s t : State) : Prop := t.alarms.mode = .run → s.alarms.mode = .run ∧ t.walk = s.walk

theorem Steady.trans (h : Steady s t) (k : Steady t u) : Steady s u := fun hu => by
  obtain ⟨ht, walk⟩ := k hu
  obtain ⟨hs, walk'⟩ := h ht
  exact ⟨hs, walk.trans walk'⟩

theorem Moves.steady (m : Moves gs s t) (hg : gs.all (Tag.leaves .walk) = true) : Steady s t := fun ht =>
  ⟨m.run ht, m.block .walk hg⟩

/-- A raise of TRIP severity that a station heeds trips it; any other leaves its walk. -/
theorem raise_steady (c : AlarmCode) (d : Option Nat) (s : State) : Steady s (raise c d s) := fun ht => by
  have quiet : raise c d s = raiseQuiet c d s := by
    by_cases h : c.severity = .trip ∧ (raiseRecord c d s).2 ≠ .ignored
    · have tripped : (raise c d s).alarms.mode = .tripped := by
        unfold raise; dsimp only
        rw [if_pos h]
        split
        · exact enterTripped_mode _
        · exact (placeTrip_moves _ _ _ _).tripped (enterTripped_mode _)
      rw [tripped] at ht
      cases ht
    · unfold raise; dsimp only
      rw [if_neg h]
      rfl
  rw [quiet] at ht ⊢
  have m := raiseQuiet_frame c d s
  exact ⟨(raiseQuiet_mode c d s).symm.trans ht, m.1 .walk (by decide)⟩

theorem Strides.steady (m : Strides gs s t) (hg : gs.all (Tag.leaves .walk) = true) : Steady s t :=
  m.rel (fun _ h => ⟨h, rfl⟩) (fun _ _ _ h k => h.trans k)
    (fun g hm _ _ m => (m.moves (List.mem_singleton_self g)).steady (by simpa using List.all_eq_true.1 hg g hm))
    fun c d s _ => raise_steady c d s

theorem checked_steady (s : State) : Steady s (checked s) := (checked_strides s).steady (by decide)

end

end Sys2Proof.Machine

end

section
/-! PROOFS. The events of the WALK axis function (R151, R152, R154, R155, R160). -/

namespace Sys2Proof.Machine

section
variable {s t x y u : State} {i : Inputs} {gs : List Tag}

theorem place_events (e : Entry) (s : State) : (place e s).events = s.events :=
  enqueue_events (a := (enqueue e s).2) rfl

/-! ### A walk state held, with its count -/

/-- The moves of a tag leave a walk state, and how long it stands. -/
def Tag.holds (w : WalkState) : Tag → Bool
  | .walkTo v _ => v != w
  | .walk p => p != .counts
  | _ => true

theorem Moves.walkHeld (m : Moves gs s t) {w : WalkState} (hg : gs.all (Tag.holds w) = true) (h : s.walk.state = w) :
    t.walk.state = w ∧ t.walk.stateCount = s.walk.stateCount := by
  refine m.keeps (P := fun v => v.walk.state = w ∧ v.walk.stateCount = s.walk.stateCount) (fun g hm u v m hu => ?_) ⟨h, rfl⟩
  have holds := List.all_eq_true.1 hg g hm
  by_cases hb : Block.walk ∈ g.blocks
  · cases m with
    | walk p f _ ho =>
      rw [State.onWalk_walk]
      refine ⟨(WalkField.state ho).1.trans hu.1, Eq.trans ?_ hu.2⟩
      cases p with
      | counts => cases holds
      | stepBegin => rw [ho.1]
      | _ => rw [ho]
    | walkTo w' =>
      rw [hu.1] at holds
      simp [Tag.holds] at holds
    | coil => exact hu
    | _ => exact absurd hb (by simp [Tag.blocks])
  · rwa [show v.walk = u.walk from m.frame.1 .walk hb]

/-! ### The walk's step -/

/-- The walk's transition is judged in `u`. -/
structure WalkStage (i : Inputs) (s x u : State) : Prop where
  form : axisStep x = permissiveCycle (walkTransition u)
  stepped : u = stepCycle (walkCounted x)
  inputs : u.inputs = i
  before : Moves (beforeStepTags ++ (.walk .counts :: stepTags)) (ticked s) u
  quiet : ∀ e, Tag.note e ∉ beforeStepTags → e ≠ .stepOvertime → e ∉ u.events

theorem AxisWork.walk (h : AxisWork i s x y t) (hr : s.role = .walk) :
    WalkStage i s x (stepCycle (walkCounted x)) := by
  have moves : Moves (.walk .counts :: stepTags) x (stepCycle (walkCounted x)) :=
    ((walkCounted_moves x).mono (by decide)).trans ((stepCycle_moves _).mono (by decide))
  refine ⟨(axisStep_walk ((role_of_startup h.startup.1).trans hr)).trans (walkStep_eq x), rfl,
    (moves.block .inputs (by decide)).trans h.inputs,
    (h.before.mono (List.subset_append_left _ _)).trans (moves.mono (List.subset_append_right _ _)), ?_⟩
  intro e hn he hm
  refine h.stepQuiet hn ((moves.events_none ?_).1 hm)
  simp [stepTags, he]

/-- The walk's transition stands to the end of the cycle start. -/
def afterWalkTags : List Tag := permissiveTags ++ (outTags ++ (afterTags ++ lateTags))

theorem AxisWork.afterWalk (h : AxisWork i s x y t) (hr : s.role = .walk) :
    Moves afterWalkTags (walkTransition (stepCycle (walkCounted x))) t := by
  have rest := h.fromStep
  rw [(h.walk hr).form] at rest
  exact ((permissiveCycle_moves _).mono (List.subset_append_left _ _)).trans (rest.mono (List.subset_append_right _ _))

theorem AxisWork.walkNoted (h : AxisWork i s x y t) (hr : s.role = .walk) {e : Event} (hn : Tag.note e ∉ afterWalkTags) :
    e ∈ t.events ↔ e ∈ (walkTransition (stepCycle (walkCounted x))).events := (h.afterWalk hr).events_none hn

/-! ### The transition from each state -/

theorem walkTransition_asking (h : s.walk.state = .asking) : walkTransition s = askingCycle s := by
  rw [walkTransition, h]

theorem walkTransition_transferring (h : s.walk.state = .transferring) : walkTransition s = transferringCycle s := by
  rw [walkTransition, h]

theorem walkTransition_returning (h : s.walk.state = .returning) : walkTransition s = returningCycle s := by
  rw [walkTransition, h]

/-- A step in progress has no transition of its own. -/
theorem walkTransition_inStep (h : s.walk.state = .stepping ∨ s.walk.state = .settling) : walkTransition s = s := by
  rcases h with h | h <;> rw [walkTransition, h]

/-- An event that a transition notes. -/
theorem transition_notes {e : Event} (he : e ∈ (walkTransition s).events) (hn : e ∉ s.events) :
    Tag.note e ∈ transitionFrom s.walk.state := ((walkTransition_from s).events_sub he).resolve_left hn

theorem transferRefused_state (n : Nat) (s : State) : (transferRefused n s).walk.state = .parked := by
  rw [transferRefused, setWalkState_walk]

theorem askingCycle_falls (hm : s.ring.currentWalkMode = true) (hl : s.params.walk.askWait ≤ s.walk.askWait + 1) :
    askingCycle s = (transferRefused detailNoAnswer (placeAbort causeAskWait
      (s.onWalk fun k => { k with askWait := s.walk.askWait + 1 }))).note .askWaitExpiry := by
  unfold askingCycle; dsimp only
  rw [if_neg (by simp [walkModeSet, hm])]
  exact if_pos hl

/-- The ask wait ends in PARKED. -/
theorem askingCycle_notes (he : Event.askWaitExpiry ∈ (askingCycle s).events) (hn : Event.askWaitExpiry ∉ s.events) :
    s.params.walk.askWait ≤ s.walk.askWait + 1 ∧ (askingCycle s).walk.state = .parked := by
  have placed : ∀ c (u : State), (placeAbort c u).events = u.events := fun c u => place_events _ u
  unfold askingCycle at he ⊢; dsimp only at he ⊢
  split at he
  · rw [setWalkState_events, placed] at he
    exact absurd he hn
  · next hm =>
    split at he
    · next hl =>
      rw [if_neg hm, if_pos hl]
      exact ⟨hl, (congrArg Walk.state (State.note_walk _ _)).trans (transferRefused_state _ _)⟩
    · exact absurd he hn

theorem AxisWork.askEnds (h : AxisWork i s x y t) (he : Event.askWaitExpiry ∈ t.events) : s.walk.state = .asking
    ∧ s.params.walk.askWait ≤ s.walk.askWait + 1 ∧ t.walk.state = .parked := by
  have walk : s.role = .walk := by
    have mem := h.stepRole (by decide) (by decide) he
    revert mem
    cases s.role <;> decide
  have stage := h.walk walk
  have rest := h.afterWalk walk
  have noted := (h.walkNoted walk (by decide)).1 he
  generalize stepCycle (walkCounted x) = u at stage rest noted
  have quiet : Event.askWaitExpiry ∉ u.events := stage.quiet _ (by decide) (by decide)
  have asking : u.walk.state = .asking := by
    have mem := transition_notes noted quiet
    revert mem
    cases u.walk.state <;> decide
  rw [walkTransition_asking asking] at noted rest
  obtain ⟨limit, parked⟩ := askingCycle_notes noted quiet
  have wait := stage.before.walkField (fun k => k.askWait) (fun _ _ _ _ _ => rfl) fun p hp k k' ho => by
    cases p with
    | askWait => exact absurd hp (by decide)
    | stepBegin => rw [ho.1]
    | _ => rw [ho]
  refine ⟨stage.before.walkStood (s := ticked s) (by decide) asking, ?_, rest.walkStays (by decide) parked⟩
  rw [← params_of_startup (s := s) stage.before.startup, ← show _ = s.walk.askWait from wait]
  exact limit

/-- A walk that asks, with no XFER-ASK near its wait limit, still asks at its step of a station in RUN. -/
theorem checked_asking (ha : s.role = .walk) (hs : s.walk.state = .asking)
    (hq : ∀ e ∈ s.line.queue, e.kind = .xferAsk → e.waited + 1 < 8)
    (hm : (checked (cabbed (fallen i s))).alarms.mode = .run) :
    (checked (cabbed (fallen i s))).walk.state = .asking := by
  have cab : s.role ≠ .cab := by rw [ha]; decide
  have fall := fallen_axis_moves i cab
  have far : AllOf .xferAsk FarFromLimit (fallen i s).line :=
    fall.allOf lasting_farFromLimit (by decide) (by decide) (ticked_allOf hq fun _ _ h => h)
  have asks : (fallen i s).walk.state = .asking := fall.walkStays (s := ticked s) (by decide) hs
  generalize fallen i s = f at far asks hm
  have aged : (ageQueue f).walk.state = .asking := by
    rw [ageQueue_walk (AllOf.survives far (by decide))]
    exact asks
  have found : (cabbed f).walk.state = .asking := (afterAge_moves f).walkStays (by decide) aged
  generalize cabbed f = c at found hm
  rw [(checked_steady c hm).2]
  exact found

theorem AxisWork.askWait (h : AxisWork i s x y t) (hr : s.role = .walk) (hx : x.walk.state = .asking)
    (hl : s.params.walk.askWait ≤ s.walk.askWait + 1) (hm : t.ring.currentWalkMode = true) :
    Event.askWaitExpiry ∈ t.events := by
  have stage := h.walk hr
  have rest := h.afterWalk hr
  have noted := h.walkNoted hr (e := .askWaitExpiry) (by decide)
  have moves : Moves (.walk .counts :: stepTags) x (stepCycle (walkCounted x)) :=
    ((walkCounted_moves x).mono (by decide)).trans ((stepCycle_moves _).mono (by decide))
  have asking := moves.walkStays (by decide) hx
  generalize stepCycle (walkCounted x) = u at stage rest noted asking
  have wait := stage.before.walkField (fun k => k.askWait) (fun _ _ _ _ _ => rfl) fun p hp k k' ho => by
    cases p with
    | askWait => exact absurd hp (by decide)
    | stepBegin => rw [ho.1]
    | _ => rw [ho]
  have mode : u.ring.currentWalkMode = true := by
    rcases ((walkTransition_moves u).mono (List.subset_append_left _ afterWalkTags)).trans
      (rest.mono (List.subset_append_right _ _)) |>.rearmed (by decide) with hring | hring <;> rw [hring] at hm <;> exact hm
  rw [noted, walkTransition_asking asking, askingCycle_falls mode]
  · exact List.mem_cons_self
  · rw [params_of_startup (s := s) stage.before.startup, show u.walk.askWait = s.walk.askWait from wait]
    exact hl

/-! ### A transfer or return past its limit (R152, R154, R155) -/

theorem enterReady_events (s : State) : (enterReady s).events = s.events := by
  unfold enterReady
  rw [setRearm_events, place_events, setWalkState_events]

/-- The coil is off in FAULTED, and TRANSFER FAILED stands or was lost. -/
structure Faulted (n : Nat) (s : State) : Prop where
  state : s.walk.state = .faulted
  coil : s.walk.coil = false
  held : Held .transferFailed n s

theorem enterFaulted_faulted (hj : s.joined = true) {n : Nat} (hn : Grown n s.alarms.lost) (d : Nat) :
    Faulted n (enterFaulted d s) := by
  have walk := enterFaulted_walk d s
  refine ⟨by rw [walk], by rw [walk], ?_⟩
  have placed : Moves [.coil, .walkTo s.walk.state .faulted, .place .xferAbort] s
      (place { kind := .xferAbort, target := Config.broadcast, words := reasonWords d }
        (setWalkState .faulted (setCoil false s))) :=
    (((Move.coil s).moves (by simp)).trans ((Move.walkTo .faulted (setCoil false s)).moves (by simp [setCoil]))).trans
      (place_moves _ (new_entry _ _ _ _ _ _) (by simp) (by simp [Kind.cls]) (by simp))
  exact held_raise (placed.joined.trans hj) .transferFailed (some d) (hn.trans placed.lost)

theorem transferringCycle_failed (hw : s.walkSide = false) (hl : s.globals.contactorLimit ≤ s.walk.stateCount) :
    transferringCycle s = (enterFaulted 1 s).note .transferFailed := by
  rw [transferringCycle, if_neg (by simp [hw]), if_pos hl]

theorem returningCycle_failed (hd : s.dragSide = false) (hl : s.globals.contactorLimit ≤ s.walk.stateCount) :
    returningCycle s = (enterFaulted 2 s).note .transferFailed := by
  rw [returningCycle, if_neg (by simp [hd]), if_pos hl]

/-- A transition notes its failure only in TRANSFERRING and RETURNING, and leaves the walk FAULTED. -/
theorem transition_failed (he : Event.transferFailed ∈ (walkTransition s).events) (hn : Event.transferFailed ∉ s.events)
    (hj : s.joined = true) {n : Nat} (hl : Grown n s.alarms.lost) :
    (s.walk.state = .transferring ∨ s.walk.state = .returning) ∧ Faulted n (walkTransition s) := by
  have noted : ∀ d, Faulted n ((enterFaulted d s).note .transferFailed) := fun d =>
    have faulted := enterFaulted_faulted hj hl d
    ⟨faulted.state, faulted.coil, faulted.held⟩
  have mem := transition_notes he hn
  cases hw : s.walk.state with
  | transferring =>
    refine ⟨.inl rfl, ?_⟩
    rw [walkTransition_transferring hw] at he ⊢
    unfold transferringCycle at he ⊢
    split at he
    · rw [enterReady_events] at he
      exact absurd he hn
    · next hs =>
      split at he
      · next hc =>
        rw [if_neg hs, if_pos hc]
        exact noted 1
      · exact absurd he hn
  | returning =>
    refine ⟨.inr rfl, ?_⟩
    rw [walkTransition_returning hw] at he ⊢
    unfold returningCycle at he ⊢; dsimp only at he ⊢
    split at he
    · rw [setWalkState_events, place_events] at he
      exact absurd (((returnAll_moves s).events_none (by decide)).1 he) hn
    · next hs =>
      split at he
      · next hc =>
        rw [if_neg hs, if_pos hc]
        exact noted 2
      · exact absurd he hn
  | _ => rw [hw] at mem; exact absurd mem (by decide)

theorem AxisWork.fails (h : AxisWork i s x y t) (hj : s.joined = true) (he : Event.transferFailed ∈ t.events) :
    (s.walk.state = .transferring ∨ s.walk.state = .returning) ∧ t.walk.state = .faulted ∧ t.walk.coil = false
      ∧ standsOrLost .transferFailed s t := by
  have walk : s.role = .walk := by
    have mem := h.stepRole (by decide) (by decide) he
    revert mem
    cases s.role <;> decide
  have stage := h.walk walk
  have rest := h.afterWalk walk
  have noted := (h.walkNoted walk (by decide)).1 he
  generalize stepCycle (walkCounted x) = u at stage rest noted
  have quiet : Event.transferFailed ∉ u.events := stage.quiet _ (by decide) (by decide)
  have joined : u.joined = true := stage.before.joined.trans hj
  have lost : Grown s.alarms.lost u.alarms.lost := stage.before.lost
  obtain ⟨state, faulted⟩ := transition_failed noted quiet joined lost
  refine ⟨state.imp ?_ ?_, rest.walkStays (by decide) faulted.state, rest.coilOff faulted.coil,
    (rest.held (by decide) (by decide) faulted.held).standsOrLost⟩
  · exact stage.before.walkStood (s := ticked s) (by decide)
  · exact stage.before.walkStood (s := ticked s) (by decide)

/-- The transition of a walk that transfers, or returns, past its limit. -/
theorem AxisWork.transferEnds (h : AxisWork i s x y t) (hr : s.role = .walk)
    (hx : (x.walk.state = .transferring ∧ ({ s with inputs := i } : State).walkSide = false)
      ∨ (x.walk.state = .returning ∧ ({ s with inputs := i } : State).dragSide = false))
    (hc : x.walk.stateCount = s.walk.stateCount)
    (hl : s.globals.contactorLimit ≤ min 65535 (s.walk.stateCount + 1)) : Event.transferFailed ∈ t.events := by
  have stage := h.walk hr
  have stepped : ∀ w, x.walk.state = w → (stepCycle (walkCounted x)).walk.state = w
      ∧ (stepCycle (walkCounted x)).walk.stateCount = satAdd Config.counterMax x.walk.stateCount 1 := fun w hw =>
    (stepCycle_moves (walkCounted x)).walkHeld (by cases w <;> decide) hw
  rw [h.walkNoted hr (by decide)]
  generalize stepCycle (walkCounted x) = u at stage stepped ⊢
  have startup : u.startup = s.startup := stage.before.startup
  have limit : ∀ w, x.walk.state = w → u.globals.contactorLimit ≤ u.walk.stateCount := fun w hw => by
    rw [globals_of_startup startup, (stepped w hw).2, hc]
    exact hl
  rcases hx with ⟨hw, side⟩ | ⟨hw, side⟩
  · rw [walkTransition_transferring (stepped _ hw).1, transferringCycle_failed
      ((walkSide_congr (s := ({ s with inputs := i } : State)) startup stage.inputs).trans side) (limit _ hw)]
    exact List.mem_cons_self
  · rw [walkTransition_returning (stepped _ hw).1, returningCycle_failed
      ((dragSide_congr (s := ({ s with inputs := i } : State)) startup stage.inputs).trans side) (limit _ hw)]
    exact List.mem_cons_self

/-- A transfer under way goes on, with its count, to the walk's step of a station in RUN. -/
theorem checked_transferring (ha : s.role = .walk) (hs : s.walk.state = .transferring)
    (hm : (checked (cabbed (fallen i s))).alarms.mode = .run) :
    (checked (cabbed (fallen i s))).walk.state = .transferring
      ∧ (checked (cabbed (fallen i s))).walk.stateCount = s.walk.stateCount := by
  have cab : s.role ≠ .cab := by rw [ha]; decide
  have held := (cabbed_axis_moves (s := s) i cab).walkHeld (by decide) hs
  generalize cabbed (fallen i s) = c at held hm
  rw [(checked_steady c hm).2]
  exact held

/-! ### The step's time limit (R160) -/

theorem stepCycle_eq (h : walkInStep s = true) : stepCycle s =
    if s.walk.stepCount < s.params.walk.stepLimit ∧ s.params.walk.stepLimit ≤ satAdd Config.counterMax s.walk.stepCount 1 then
      (raiseQuiet .stepOvertime none (s.onWalk fun k => { k with stepCount := satAdd Config.counterMax s.walk.stepCount 1 })).note
        .stepOvertime
    else s.onWalk fun k => { k with stepCount := satAdd Config.counterMax s.walk.stepCount 1 } := if_pos h

theorem walkInStep_iff : walkInStep s = true ↔ s.walk.state = .stepping ∨ s.walk.state = .settling := by
  simp [walkInStep]

/-- The step count notes its event only where it reaches the limit. -/
theorem stepCycle_notes (he : Event.stepOvertime ∈ (stepCycle s).events) (hn : Event.stepOvertime ∉ s.events) :
    (s.walk.state = .stepping ∨ s.walk.state = .settling) ∧ s.walk.stepCount < s.params.walk.stepLimit
      ∧ s.params.walk.stepLimit ≤ satAdd Config.counterMax s.walk.stepCount 1
      ∧ (stepCycle s).walk.stepCount = satAdd Config.counterMax s.walk.stepCount 1 := by
  by_cases hi : walkInStep s = true
  · rw [stepCycle_eq hi] at he ⊢
    split at he
    · next hl =>
      rw [if_pos hl]
      exact ⟨walkInStep_iff.1 hi, hl.1, hl.2, congrArg Walk.stepCount ((raiseQuiet_frame _ _ _).1 .walk (by decide))⟩
    · exact absurd he hn
  · rw [stepCycle, if_neg hi] at he
    exact absurd he hn

end

end Sys2Proof.Machine

end

section
/-! PROOFS. The walk's step time limit and the contactor checks (R147, R148, R160). -/

namespace Sys2Proof.Machine

section
variable {s t x y z : State} {i : Inputs}

/-! ### The walk of a station in RUN from its step to the end of the cycle start -/

theorem chainAfter_steady (hr : s.role = .walk) (hw : s.walk.state ≠ .ready) : Steady s (chainAfter s) := by
  have noYield : yieldJudge s = s := yieldJudge_idle fun h => by rw [hr] at h; exact absurd h.1 (by decide)
  have noStart : walkStart s = s := if_neg fun h => hw h.2.1
  have ran : ∀ u : State, Steady u (u.onDrive fun d => { d with ran := true }) := fun u h => ⟨h, rfl⟩
  unfold chainAfter
  rw [noYield, noStart]
  exact ((contactorChecks_strides s).steady (by decide)).trans (ran _)

/-! ### The step's time limit -/

/-- The walk's step as the cycle start finds it, its count advanced. -/
theorem AxisWork.stepEnds (h : AxisWork i s x y t) (hk : 100 ≤ s.params.walk.stepLimit ∧ s.params.walk.stepLimit ≤ 10000)
    (hj : s.joined = true) (hr : s.role = .walk) (he : Event.stepOvertime ∈ t.events) :
    s.walk.stepCount + 1 = s.params.walk.stepLimit
      ∧ (t.walk.stepCount = s.params.walk.stepLimit ∨ t.alarms.mode = .tripped) := by
  have stage := h.walk hr
  have before : Moves (beforeStepTags ++ [.walk .counts]) (ticked s) (walkCounted x) :=
    (h.before.mono (List.subset_append_left _ _)).trans ((walkCounted_moves x).mono (List.subset_append_right _ _))
  have began : StepsFrom s.walk (walkCounted x).walk := before.stepsFrom (by decide)
  have params := params_of_startup (s := s) before.startup
  have role : y.role = .walk := (role_of_startup h.startup.2).trans hr
  have noted := (h.walkNoted hr (by decide)).1 he
  have stepped := ((walkTransition_moves _).events_none (by decide)).1 noted
  have quiet : Event.stepOvertime ∉ (walkCounted x).events := h.stepQuiet (by decide)
  have joined : (axisStep x).joined = true :=
    (axisStep_moves x).joined.trans ((joined_of_startup h.startup.1).trans hj)
  have axis : (axisStep x).role.isAxis = true := by
    rw [(axisStep_moves x).role, role_of_startup h.startup.1, hr]
    rfl
  have out : Steady (axisStep x) y := h.formed ▸ (chainOutputs_strides joined axis).steady (by decide)
  have late := h.late.steady (by simp only [lateTags, List.all_append]; decide)
  rw [stage.form] at out
  generalize walkCounted x = w at stepped quiet began params out
  obtain ⟨state, below, reached, count⟩ := stepCycle_notes stepped quiet
  have sat : satAdd Config.counterMax w.walk.stepCount 1 = min 65535 (w.walk.stepCount + 1) := rfl
  rw [sat, params] at reached
  rw [params] at below
  have steps : w.walk.stepCount = s.walk.stepCount := began.resolve_right fun hz => by omega
  refine ⟨by omega, ?_⟩
  cases hm : t.alarms.mode with
  | tripped => exact .inr rfl
  | run =>
    refine .inl ?_
    have inStep : ∀ q, w.walk.state = q → (stepCycle w).walk.state = q := fun q hq =>
      ((stepCycle_moves w).walkHeld (by cases q <;> decide) hq).1
    have same : walkTransition (stepCycle w) = stepCycle w :=
      walkTransition_inStep (state.imp (inStep _) (inStep _))
    rw [same] at out
    obtain ⟨after, last⟩ := late hm
    obtain ⟨-, walk⟩ := out ((chainAfter_moves y).run after)
    have permits := permissiveCycle_moves (stepCycle w)
    have notReady : y.walk.state ≠ .ready := by
      rw [walk]
      rcases state with hq | hq
      · rw [(permits.walkHeld (by decide) (inStep _ hq)).1]; decide
      · rw [(permits.walkHeld (by decide) (inStep _ hq)).1]; decide
    have stepCount := permits.walkField (fun k => k.stepCount) (fun _ _ _ _ _ => rfl) fun p hp k k' ho => by
      cases p with
      | stepCount | stepBegin => exact absurd hp (by decide)
      | _ => rw [ho]
    rw [last, (chainAfter_steady role notReady after).2, walk, show _ = (stepCycle w).walk.stepCount from stepCount, count, sat]
    omega

/-- A step in progress goes on to the walk's step of a station in RUN, where the cycle start shows no edge. -/
theorem checked_inStep (ha : s.role = .walk) (hs : s.walk.state = .stepping ∨ s.walk.state = .settling)
    (he : NoEdges s.inputs.din i.din s) (hm : (checked (cabbed (fallen i s))).alarms.mode = .run) :
    ((checked (cabbed (fallen i s))).walk.state = .stepping ∨ (checked (cabbed (fallen i s))).walk.state = .settling)
      ∧ (checked (cabbed (fallen i s))).walk.stepCount = s.walk.stepCount := by
  have pace := placePace_moves (ticked s)
  have other : ¬ ((placePace (ticked s)).role = .cab ∧ (placePace (ticked s)).joined = true) := fun h => by
    rw [show (placePace (ticked s)).role = s.role from pace.role, ha] at h
    exact absurd h.1 (by decide)
  have fell : Moves [.place .pace, .settle, .inputs] (ticked s) (fallen i s) := by
    rw [fallen_quiet i he, sampled_other other]
    exact (pace.mono (by decide)).trans ((Move.inputs i _).moves (by decide))
  have moves : Moves ([.place .pace, .settle, .inputs] ++ earlyTags) (ticked s) (cabbed (fallen i s)) :=
    (fell.mono (List.subset_append_left _ _)).trans ((cabbed_moves _).mono (List.subset_append_right _ _))
  generalize cabbed (fallen i s) = c at moves hm
  rw [(checked_steady c hm).2]
  refine ⟨hs.imp (moves.walkStays (s := ticked s) (by decide)) (moves.walkStays (s := ticked s) (by decide)), ?_⟩
  exact moves.walkField (fun k => k.stepCount) (fun _ _ _ _ _ => rfl) fun p hp k k' ho => by
    cases p with
    | stepCount | stepBegin => exact absurd hp (by decide)
    | _ => rw [ho]

theorem AxisWork.stepOvertime (h : AxisWork i s x y t) (hr : s.role = .walk)
    (hx : x.walk.state = .stepping ∨ x.walk.state = .settling) (hc : x.walk.stepCount = s.walk.stepCount)
    (hs : s.walk.stepCount + 1 = s.params.walk.stepLimit) (hl : s.params.walk.stepLimit ≤ 65535) :
    Event.stepOvertime ∈ t.events := by
  have startup : (walkCounted x).startup = s.startup := (walkCounted_moves x).startup.trans h.startup.1
  have params := params_of_startup startup
  have inStep : walkInStep (walkCounted x) = true := walkInStep_iff.2 hx
  have count : (walkCounted x).walk.stepCount = s.walk.stepCount := hc
  rw [h.walkNoted hr (by decide)]
  refine (walkTransition_moves _).events_mono ?_
  rw [stepCycle_eq inStep, if_pos]
  · exact List.mem_cons_self
  · have sat : satAdd Config.counterMax s.walk.stepCount 1 = min 65535 (s.walk.stepCount + 1) := rfl
    rw [params, count, sat]
    omega

/-! ### The contactor checks (R147, R148) -/

/-- The contactor is checked in `z`. -/
structure ContactorStage (i : Inputs) (s z t : State) : Prop where
  before : Moves (beforeStepTags ++ axisTags ++ outTags ++ (yieldTags ++ startTags)) (ticked s) z
  late : Moves (.drive .ran :: lateTags) (contactorChecks z) t
  inputs : z.inputs = i
  quiet : ∀ e, Tag.note e ∉ beforeStepTags ++ axisTags ++ outTags ++ (yieldTags ++ startTags) → e ∉ z.events

theorem AxisWork.contactor (h : AxisWork i s x y t) : ContactorStage i s (walkStart (yieldJudge y)) t := by
  have after : Moves (yieldTags ++ startTags) y (walkStart (yieldJudge y)) :=
    ((yieldJudge_moves y).mono (List.subset_append_left _ _)).trans ((walkStart_moves _).mono (List.subset_append_right _ _))
  have before := (h.toAfter.mono (List.subset_append_left _ (yieldTags ++ startTags))).trans
    (after.mono (List.subset_append_right _ _))
  have ran : Moves [.drive .ran] (contactorChecks (walkStart (yieldJudge y))) (chainAfter y) :=
    (Move.drive .ran (fun d => { d with ran := true }) _ rfl).moves (by decide)
  refine ⟨before, (ran.mono (by simp)).trans (h.late.mono (List.subset_cons_self _ _)), ?_, fun e hn he =>
    nomatch (before.events_none hn).1 he⟩
  exact (after.block .inputs (by decide)).trans ((h.between.block .inputs (by decide)).trans
    (((axisStep_moves x).block .inputs (by decide)).trans h.inputs))

namespace ContactorStage
variable (h : ContactorStage i s z t)
include h

theorem startup : z.startup = s.startup ∧ t.startup = s.startup := by
  have hz : z.startup = s.startup := h.before.startup
  exact ⟨hz, h.late.startup.trans ((contactorChecks_moves z).startup.trans hz)⟩

theorem found : z.contactor = s.contactor :=
  h.before.block .contactor (by simp only [beforeStepTags, List.all_append]; decide)

theorem left : t.contactor = (contactorChecks z).contactor :=
  h.late.block .contactor (by simp only [lateTags, List.all_cons, List.all_append]; decide)

theorem noted {e : Event} (hn : Tag.note e ∉ (Tag.drive .ran :: lateTags)) :
    e ∈ t.events ↔ e ∈ (contactorChecks z).events :=
  h.late.events_none hn

theorem inputsLeft : t.inputs = i :=
  (h.late.block .inputs (by simp only [lateTags, List.all_cons, List.all_append]; decide)).trans
    (((contactorChecks_moves z).block .inputs (by decide)).trans h.inputs)

end ContactorStage

theorem contactorChecks_drag (h : s.role = .drag) : contactorChecks s = checkDisagree s := by rw [contactorChecks, h]

theorem contactorChecks_walk (h : s.role = .walk) : contactorChecks s = checkContrary (checkDisagree s) := by
  rw [contactorChecks, h]

/-- Both contactors open or both closed: the reading that R147 counts. -/
theorem checkDisagree_counts (hd : s.dragSide = false) (hw : s.walkSide = false) : checkDisagree s =
    if contactorAllowance s < bump8 s.contactor.disagree ∧ s.contactor.raised = false then
      (raise .contactorDisagree (some (if s.bothClosed then 1 else 2)) (s.onContactor fun c =>
        { c with disagree := bump8 s.contactor.disagree, raised := true })).note .contactorDisagree
    else s.onContactor fun c => { c with disagree := bump8 s.contactor.disagree } := by
  unfold checkDisagree; dsimp only
  rw [if_neg (by simp [hd, hw])]
  by_cases hf : contactorAllowance s < bump8 s.contactor.disagree ∧ s.contactor.raised = false
  · rw [if_pos hf, if_pos (by simp [hf])]
    simp only [hf, decide_true, Bool.not_false, Bool.and_self, Bool.or_true]
    rfl
  · have first : (decide (contactorAllowance s < bump8 s.contactor.disagree) && !s.contactor.raised) = false := by
      rw [Bool.eq_false_iff]
      simpa using hf
    rw [if_neg hf, first, if_neg (by decide)]
    simp only [Bool.or_false]

theorem raise_contactor (c : AlarmCode) (d : Option Nat) (s : State) : (raise c d s).contactor = s.contactor :=
  (raise_frame c d s).1 .contactor (by decide)

theorem clearAlarm_contactor (c : AlarmCode) (d : Option Nat) (s : State) : (clearAlarm c d s).contactor = s.contactor :=
  (clearAlarm_frame c d s).1 .contactor (by decide)

/-- The disagreement check leaves the contrary count, the contrary check the other two. -/
theorem checkDisagree_contrary (s : State) : (checkDisagree s).contactor.contrary = s.contactor.contrary := by
  unfold checkDisagree; dsimp only
  split
  · rw [clearAlarm_contactor, clearAlarm_contactor]
    rfl
  · split
    · rw [State.note_contactor, raise_contactor]
      rfl
    · rfl

theorem checkContrary_raised (s : State) : (checkContrary s).contactor.raised = s.contactor.raised := by
  unfold checkContrary; dsimp only
  split
  · split
    · rw [State.note_contactor, raise_contactor]
      rfl
    · rfl
  · rw [clearAlarm_contactor]
    rfl

theorem contactorChecks_raised (hr : s.role = .drag ∨ s.role = .walk) :
    (contactorChecks s).contactor.raised = (checkDisagree s).contactor.raised := by
  rcases hr with hr | hr
  · rw [contactorChecks_drag hr]
  · rw [contactorChecks_walk hr, checkContrary_raised]

/-- The disagreement check notes its event only where it trips the station. -/
theorem checkDisagree_notes (he : Event.contactorDisagree ∈ (checkDisagree s).events)
    (hn : Event.contactorDisagree ∉ s.events) (hj : s.joined = true) (ha : s.role.isAxis = true) :
    s.dragSide = false ∧ s.walkSide = false ∧ (checkDisagree s).contactor.raised = true ∧ Safe (checkDisagree s) := by
  have cleared : ∀ d (u : State), (clearAlarm .contactorDisagree d u).events = u.events := fun d u => clearAlarm_events _ d u
  by_cases hs : s.dragSide = false ∧ s.walkSide = false
  · obtain ⟨hd, hw⟩ := hs
    refine ⟨hd, hw, ?_⟩
    rw [checkDisagree_counts hd hw] at he ⊢
    split at he
    · next hf =>
      rw [if_pos hf]
      refine ⟨?_, raise_safe (s := s.onContactor fun c => { c with disagree := bump8 s.contactor.disagree, raised := true })
        rfl hj ha _⟩
      rw [State.note_contactor, raise_contactor]
      rfl
    · exact absurd he hn
  · unfold checkDisagree at he; dsimp only at he
    rw [if_pos (by
      by_contra hc
      exact hs (by simpa using hc)), cleared, cleared] at he
    exact absurd he hn

theorem checkContrary_counts (h : isContrary s = true) : checkContrary s =
    if s.contactor.contrary ≤ s.globals.contactorLimit ∧ s.globals.contactorLimit < bump8 s.contactor.contrary then
      (raise .contactorDisagree (some 3) (s.onContactor fun c => { c with contrary := bump8 s.contactor.contrary })).note
        .contactorContrary
    else s.onContactor fun c => { c with contrary := bump8 s.contactor.contrary } := if_pos h

/-- The contrary check notes its event only where its count passes the limit, which trips the station. -/
theorem checkContrary_notes (he : Event.contactorContrary ∈ (checkContrary s).events)
    (hn : Event.contactorContrary ∉ s.events) (hj : s.joined = true) (ha : s.role.isAxis = true) :
    (checkContrary s).contactor.contrary = s.globals.contactorLimit + 1 ∧ Safe (checkContrary s) := by
  by_cases hc : isContrary s = true
  · rw [checkContrary_counts hc] at he ⊢
    split at he
    · next hf =>
      rw [if_pos hf]
      refine ⟨?_, raise_safe (s := s.onContactor fun c => { c with contrary := bump8 s.contactor.contrary }) rfl hj ha _⟩
      have up : bump8 s.contactor.contrary = min 255 (s.contactor.contrary + 1) := rfl
      rw [State.note_contactor, raise_contactor]
      show bump8 s.contactor.contrary = _
      omega
    · exact absurd he hn
  · rw [checkContrary, if_neg hc, clearAlarm_events] at he
    exact absurd he hn

end

end Sys2Proof.Machine

end

section
/-! PROOFS. The contactor checks of a cycle start (R147, R148), and the events of the axis functions together. -/

namespace Sys2Proof.Machine

section
variable {s t x y z : State} {i : Inputs}

namespace ContactorStage
variable (h : ContactorStage i s z t)
include h

theorem role : z.role = s.role := role_of_startup h.startup.1

theorem atRole {e : Event} (he : e ∈ t.events) (hn : Tag.note e ∉ (Tag.drive .ran :: lateTags))
    (hq : e ∉ z.events) : s.role = .drag ∨ s.role = .walk := by
  have noted := (h.noted hn).1 he
  rw [← h.role]
  cases hr : z.role with
  | drag => exact .inl rfl
  | walk => exact .inr rfl
  | _ => rw [contactorChecks, hr] at noted; exact absurd noted hq

/-- The contactor's readings are those of the cycle start's sample. -/
theorem sides : z.dragSide = ({ s with inputs := i } : State).dragSide ∧ z.walkSide = ({ s with inputs := i } : State).walkSide
    ∧ z.bothOpen = ({ s with inputs := i } : State).bothOpen :=
  ⟨dragSide_congr (s := ({ s with inputs := i } : State)) h.startup.1 h.inputs,
    walkSide_congr (s := ({ s with inputs := i } : State)) h.startup.1 h.inputs,
    bothOpen_congr (s := ({ s with inputs := i } : State)) h.startup.1 h.inputs⟩

theorem disagrees (hj : s.joined = true) (he : Event.contactorDisagree ∈ t.events) : t.contactor.raised = true
    ∧ t.dragSide = false ∧ t.walkSide = false ∧ Safe t := by
  have quiet : Event.contactorDisagree ∉ z.events := h.quiet _ (by simp only [beforeStepTags, List.mem_append]; decide)
  have role := h.atRole he (by decide) quiet
  have noted := (h.noted (by decide)).1 he
  have joined : z.joined = true := (joined_of_startup h.startup.1).trans hj
  have axis : z.role.isAxis = true := by
    rw [h.role]
    rcases role with hr | hr <;> rw [hr] <;> rfl
  have roles : z.role = .drag ∨ z.role = .walk := by rw [h.role]; exact role
  have checks : Moves (Tag.drive .ran :: contactorTags) (checkDisagree z) (contactorChecks z) := by
    rcases roles with hr | hr
    · rw [contactorChecks_drag hr]; exact .refl _ _
    · rw [contactorChecks_walk hr]; exact (checkContrary_moves _).mono (by decide)
  have first : Event.contactorDisagree ∈ (checkDisagree z).events := by
    rcases roles with hr | hr
    · rwa [contactorChecks_drag hr] at noted
    · rw [contactorChecks_walk hr] at noted
      exact ((checkContrary_moves _).events_none (by decide)).1 noted
  obtain ⟨drag, walk, raised, safe⟩ := checkDisagree_notes first quiet joined axis
  have inputs : t.inputs = z.inputs := h.inputsLeft.trans h.inputs.symm
  have startup : t.startup = z.startup := h.startup.2.trans h.startup.1.symm
  exact ⟨by rw [h.left, contactorChecks_raised roles, raised], (dragSide_congr startup inputs).trans drag,
    (walkSide_congr startup inputs).trans walk, h.late.safe (checks.safe safe)⟩

theorem contrary (hj : s.joined = true) (he : Event.contactorContrary ∈ t.events) :
    t.contactor.contrary = s.globals.contactorLimit + 1 ∧ Safe t := by
  have quiet : Event.contactorContrary ∉ z.events := h.quiet _ (by simp only [beforeStepTags, List.mem_append]; decide)
  have noted := (h.noted (by decide)).1 he
  have first := checkDisagree_moves z
  have quiet' : Event.contactorContrary ∉ (checkDisagree z).events := fun hm => quiet ((first.events_none (by decide)).1 hm)
  have walk : z.role = .walk := by
    rcases h.atRole he (by decide) quiet with hr | hr
    · rw [contactorChecks_drag (h.role.trans hr)] at noted
      exact absurd noted quiet'
    · exact h.role.trans hr
  rw [contactorChecks_walk walk] at noted
  have startup : (checkDisagree z).startup = s.startup := first.startup.trans h.startup.1
  obtain ⟨count, safe⟩ := checkContrary_notes noted quiet' ((joined_of_startup startup).trans hj) (by
    rw [first.role, walk]; rfl)
  have late := h.late
  rw [contactorChecks_walk walk] at late
  refine ⟨?_, late.safe safe⟩
  rw [h.left, contactorChecks_walk walk, count, globals_of_startup startup]

/-- A disagreement past its allowance (R147). -/
theorem disagreeFalls (hr : s.role = .drag ∨ s.role = .walk) (hd : ({ s with inputs := i } : State).dragSide = false)
    (hw : ({ s with inputs := i } : State).walkSide = false) (hc : s.contactor.raised = false)
    (ha : contactorAllowance z < min 255 (s.contactor.disagree + 1)) : Event.contactorDisagree ∈ t.events := by
  obtain ⟨drag, walk, -⟩ := h.sides
  have first : Event.contactorDisagree ∈ (checkDisagree z).events := by
    rw [checkDisagree_counts (drag.trans hd) (walk.trans hw), if_pos (by rw [h.found]; exact ⟨ha, hc⟩)]
    exact List.mem_cons_self
  refine h.late.events_mono ?_
  rcases hr with hr | hr
  · rw [contactorChecks_drag (h.role.trans hr)]
    exact first
  · rw [contactorChecks_walk (h.role.trans hr)]
    exact (checkContrary_moves _).events_mono first

/-- A contrary reading past its limit (R148). -/
theorem contraryFalls (hr : s.role = .walk) (hc : s.contactor.contrary = s.globals.contactorLimit)
    (hl : s.globals.contactorLimit < 255) (hs : (s.walk.coil = false ∧ ({ s with inputs := i } : State).walkSide = true)
      ∨ (t.walk.coil = true ∧ ({ s with inputs := i } : State).dragSide = true)) : Event.contactorContrary ∈ t.events := by
  obtain ⟨drag, walk, -⟩ := h.sides
  have first := checkDisagree_moves z
  have startup : (checkDisagree z).startup = z.startup := first.startup
  have inputs : (checkDisagree z).inputs = z.inputs := first.block .inputs (by decide)
  have late := h.late
  rw [contactorChecks_walk (h.role.trans hr)] at late
  have on : t.walk.coil = true → (checkDisagree z).walk.coil = true := fun ht => by
    by_contra hc
    have off := (((checkContrary_moves (checkDisagree z)).mono (List.subset_append_left _ (Tag.drive .ran :: lateTags))).trans
      (late.mono (List.subset_append_right _ _))).coilOff (Bool.eq_false_iff.2 hc)
    rw [off] at ht
    cases ht
  have off : s.walk.coil = false → (checkDisagree z).walk.coil = false := fun hs =>
    first.coilOff (h.before.coilOff (s := ticked s) hs)
  have contrary : isContrary (checkDisagree z) = true := by
    rw [isContrary]
    rcases hs with ⟨hc, side⟩ | ⟨hc, side⟩
    · rw [off hc, if_neg (by decide), walkSide_congr startup inputs, walk]
      exact side
    · rw [on hc, if_pos rfl, dragSide_congr startup inputs, drag]
      exact side
  refine late.events_mono ?_
  rw [checkContrary_counts contrary, if_pos]
  · exact List.mem_cons_self
  · have up : bump8 s.contactor.contrary = min 255 (s.contactor.contrary + 1) := rfl
    rw [checkDisagree_contrary, h.found, globals_of_startup startup, globals_of_startup h.startup.1, up]
    omega

end ContactorStage

/-! ### The allowance of R147 -/

/-- A drag found in YIELDED with its contactor open on the walk's side was so before. -/
theorem ownershipCycle_yielded (hw : s.walkSide = false) (h : (ownershipCycle s).rope.ownership = .yielded) :
    s.rope.ownership = .yielded := by
  cases ho : s.rope.ownership with
  | yielded => rfl
  | digging =>
    have form : ownershipCycle s = s := by rw [ownershipCycle, ho]; exact if_neg (by simp [hw])
    rw [form, ho] at h
    cases h
  | yielding =>
    have form : ownershipCycle s = s := by rw [ownershipCycle, ho]; exact if_neg (by simp [hw])
    rw [form, ho] at h
    cases h
  | reclaiming =>
    have form : ownershipCycle s = if !s.ring.rearm then setOwnership .digging s else s := by
      rw [ownershipCycle, ho]
      exact if_neg (by simp [hw])
    rw [form] at h
    split at h
    · rw [setOwnership_rope] at h
      cases h
    · rw [ho] at h
      cases h

/-- The states of a walk that does not travel, with the one it asks in. -/
def WalkState.home : WalkState → Bool
  | .parked | .asking | .faulted => true
  | _ => false

/-- The allowance is the contactor limit while a transfer travels with both contactors open (R147). -/
theorem contactorAllowance_eq (s : State) : contactorAllowance s = if s.bothOpen = true
      ∧ ((s.role = .walk ∧ (s.walk.state = .transferring ∨ s.walk.state = .returning))
        ∨ (s.role = .drag ∧ s.rope.ownership = .yielded)) then s.globals.contactorLimit else 5 := by
  unfold contactorAllowance
  cases hr : s.role <;> simp [Config.disagreeAllowance]

theorem AxisWork.allowance (h : AxisWork i s x y t) (hw : ({ s with inputs := i } : State).walkSide = false) :
    contactorAllowance (walkStart (yieldJudge y)) ≤ if ({ s with inputs := i } : State).bothOpen = true
        ∧ (s.role = .drag → s.rope.ownership = .yielded)
        ∧ (s.role = .walk → s.walk.state ≠ .parked ∧ s.walk.state ≠ .faulted)
      then max 5 s.globals.contactorLimit else 5 := by
  have stage := h.contactor
  have startup := stage.startup.1
  have before := stage.before
  have opens := stage.sides.2.2
  have after : Moves (outTags ++ (yieldTags ++ startTags)) (axisStep x) (walkStart (yieldJudge y)) :=
    (h.between.mono (List.subset_append_left _ _)).trans
      ((((yieldJudge_moves y).mono (List.subset_append_left _ _)).trans
        ((walkStart_moves _).mono (List.subset_append_right _ _))).mono (List.subset_append_right _ (yieldTags ++ startTags)))
  generalize walkStart (yieldJudge y) = z at startup before opens after ⊢
  have role : z.role = s.role := role_of_startup startup
  rw [contactorAllowance_eq, role, globals_of_startup startup, opens]
  by_cases travels : ({ s with inputs := i } : State).bothOpen = true
      ∧ ((s.role = .walk ∧ (z.walk.state = .transferring ∨ z.walk.state = .returning))
        ∨ (s.role = .drag ∧ z.rope.ownership = .yielded))
  · rw [if_pos travels, if_pos]
    · exact le_max_right _ _
    · refine ⟨travels.1, fun hr => ?_, fun hr => ?_⟩
      · obtain ⟨-, hy⟩ := travels.2.resolve_left fun hw => by rw [hr] at hw; exact absurd hw.1 (by decide)
        obtain ⟨v, found⟩ := h.ownership hr
        rw [found.form] at after
        have side : v.walkSide = false :=
          (walkSide_congr (s := ({ s with inputs := i } : State)) found.before.startup found.inputs).trans hw
        exact found.before.ownStood (s := ticked s) (by decide) (ownershipCycle_yielded side (after.ownStood (by decide) hy))
      · obtain ⟨-, hy⟩ := travels.2.resolve_right fun hd => by rw [hr] at hd; exact absurd hd.1 (by decide)
        have away : z.walk.state.home = false := by rcases hy with hy | hy <;> rw [hy] <;> rfl
        have home : s.walk.state.home = true → z.walk.state.home = true :=
          before.walkWithin (s := ticked s) WalkState.home (by simp only [beforeStepTags, List.all_append]; decide)
        refine ⟨fun hp => ?_, fun hp => ?_⟩
        · rw [home (by rw [hp]; rfl)] at away
          cases away
        · rw [home (by rw [hp]; rfl)] at away
          cases away
  · rw [if_neg travels]
    split
    · exact le_max_left _ _
    · exact le_refl _

end

end Sys2Proof.Machine

end

section
/-! PROOFS. The events of the axis functions at a cycle start, together. -/

namespace Sys2Proof.Machine

section
variable {s : State} {i : Inputs} {e : Event}

/-- An event of the axis functions that falls due falls in the drive chain's cycle of a joined axis station. -/
theorem due_axis (h : fallsDue e i s = true) (hn : Tag.note e ∉ fallTags ++ earlyTags ++ lateTags) :
    exec (e.command i) s = .next (cycleWork (fallen i s)) ∧ e ∈ (cycleWork (fallen i s)).events ∧ s.joined = true
      ∧ ∃ x y, AxisWork i s x y (cycleWork (fallen i s)) := by
  have noted := (fallsDue_iff.1 h).2
  obtain ⟨joined, axis⟩ := work_axis noted hn
  exact ⟨exec_due h, noted, joined, _, _, axisWork joined axis⟩

end

end Sys2Proof.Machine

open Sys2Proof Sys2Proof.Machine

/-- Settles O50: each event is noted in one step of the drive chain's cycle, whose fields only that step forms. -/
theorem axisEventsFall : Obligations.AxisEventsFall := by
  refine ⟨fun i s => ⟨fun h => ?_, fun h => ?_, fun h => ?_⟩,
    fun i s => ⟨fun h => ?_, fun h => ?_, fun h => ?_, fun h => ?_, fun hk h => ?_⟩, fun i s hr hj => ?_⟩
  · obtain ⟨runs, noted, -, x, y, work⟩ := due_axis h (by decide)
    generalize cycleWork (fallen i s) = t at runs noted work
    have hoist : s.role = .hoist := by
      have mem := work.stepRole (by decide) (by decide) noted
      revert mem
      cases s.role <;> decide
    obtain ⟨v, stage⟩ := work.slack hoist
    obtain ⟨four, low⟩ := stage.notes.1 noted
    have five : t.rope.slack = 5 := stage.count.trans (slackCount_reaches.2 ⟨four, low⟩).2
    refine ⟨t, runs, hoist, stage.slack.symm.trans four, five, ?_⟩
    rw [slackLimitOn, role_of_startup (s := s) (work.fromStep.startup.trans
      ((axisStep_moves x).startup.trans work.startup.1)), hoist, five]
    rfl
  · obtain ⟨runs, noted, -, x, y, work⟩ := due_axis h (by decide)
    obtain ⟨yielding, limit, digging, sent⟩ := work.yieldEnds noted
    exact ⟨_, runs, yielding, limit, digging, sent⟩
  · obtain ⟨runs, noted, -, x, y, work⟩ := due_axis h (by decide)
    obtain ⟨yielded, reclaiming, rearm⟩ := work.reclaims noted
    exact ⟨_, runs, yielded, reclaiming, rearm⟩
  · obtain ⟨runs, noted, -, x, y, work⟩ := due_axis h (by decide)
    obtain ⟨asking, limit, parked⟩ := work.askEnds noted
    exact ⟨_, runs, asking, limit, parked⟩
  · obtain ⟨runs, noted, joined, x, y, work⟩ := due_axis h (by decide)
    obtain ⟨state, faulted, coil, stands⟩ := work.fails joined noted
    exact ⟨_, runs, state, faulted, coil, stands⟩
  · obtain ⟨runs, noted, joined, x, y, work⟩ := due_axis h (by decide)
    obtain ⟨raised, drag, walk, mode, safe⟩ := work.contactor.disagrees joined noted
    exact ⟨_, runs, raised, drag, walk, mode, safe⟩
  · obtain ⟨runs, noted, joined, x, y, work⟩ := due_axis h (by decide)
    obtain ⟨contrary, mode, safe⟩ := work.contactor.contrary joined noted
    exact ⟨_, runs, contrary, mode, safe⟩
  · obtain ⟨runs, noted, joined, x, y, work⟩ := due_axis h (by decide)
    have walk : s.role = .walk := by
      have mem := work.stepRole (by decide) (by decide) noted
      revert mem
      cases s.role <;> decide
    obtain ⟨-, -, low, high⟩ := hk.walk (.inr (.inr (beq_iff_eq.1 joined))) walk
    obtain ⟨count, reached⟩ := work.stepEnds ⟨low, high⟩ joined walk noted
    exact ⟨_, runs, count, reached.imp_right .inl⟩
  · refine ⟨_, exec_cycleStart hr, ?_⟩
    have fall := fun {e : Event} (he : e ∈ (cycleWork (fallen i s)).events) => exec_falls hr he
    have work := fun ha => axisWork (i := i) (s := s) hj ha
    have asks := checked_asking (i := i) (s := s)
    have transfers := checked_transferring (i := i) (s := s)
    have steps := checked_inStep (i := i) (s := s)
    generalize checked (cabbed (fallen i s)) = x at work asks transfers steps
    generalize cycleWork (fallen i s) = t at fall work
    generalize chainOutputs (axisStep x) = y at work
    have run : ∀ ha, t.alarms.mode = .run → x.alarms.mode = .run := fun ha hm =>
      (axisStep_moves x).run ((work ha).fromStep.run hm)
    refine ⟨fun h hs hb hl => ?_, fun h ho hs hw hl hm => ?_, fun h ho hd hs hp hl => ?_, fun h ha hq hl hm hr => ?_,
      fun h ht hw hl hr => ?_, fun h ht hd hl => ?_, fun h hd hw hc ha => ?_, fun h hc hl hs => ?_,
      fun h hs he hc hl hm => ?_⟩
    · obtain ⟨v, stage⟩ := (work (by rw [h]; rfl)).slack h
      refine fall (e := .slackRope) (stage.notes.2 ⟨stage.slack.trans hs, stage.bucket.symm.trans hb, ?_⟩)
      rw [stage.params, ← stage.load]
      exact hl
    · exact fall (e := .yieldLimit) ((work (by rw [h]; rfl)).yieldLimit h ⟨ho, hs⟩ hw hl hm)
    · exact fall (e := .yieldWaitExpiry) ((work (by rw [h]; rfl)).yieldWait h ho hd hs hp hl)
    · have axis : s.role.isAxis = true := by rw [h]; rfl
      exact fall (e := .askWaitExpiry) ((work axis).askWait h (asks h ha hq (run axis hr)) hl hm)
    · have axis : s.role.isAxis = true := by rw [h]; rfl
      obtain ⟨state, count⟩ := transfers h ht (run axis hr)
      exact fall (e := .transferFailed) ((work axis).transferEnds h (.inl ⟨state, hw⟩) count hl)
    · have found := work (by rw [h]; rfl)
      obtain ⟨state, count⟩ := found.before.walkHeld (s := ticked s) (by decide) ht
      exact fall (e := .transferFailed) (found.transferEnds h (.inr ⟨state, hd⟩) count hl)
    · have axis : s.role.isAxis = true := by rcases h with h | h <;> rw [h] <;> rfl
      exact fall (e := .contactorDisagree) ((work axis).contactor.disagreeFalls h hd hw hc
        (lt_of_le_of_lt ((work axis).allowance hw) ha))
    · exact fall (e := .contactorContrary) ((work (by rw [h]; rfl)).contactor.contraryFalls h hc hl hs)
    · have axis : s.role.isAxis = true := by rw [h]; rfl
      obtain ⟨state, count⟩ := steps h hs he (run axis hm)
      exact fall (e := .stepOvertime) ((work axis).stepOvertime h state count hc hl)

end

section
/-! PROOFS. What the moves of a cycle start leave of the share unit: its fields, and the records and the ask of a
station none of whose bulletins is queued. -/

namespace Sys2Proof.Machine

section
variable {s t u : State} {gs : List Tag} {α : Type} {i : Inputs}

/-! ### Fields of the share unit -/

/-- What a move leaves of the share unit, said of a field that neither a promise nor a grant number is. -/
theorem Move.shareField {g : Tag} (m : Move g s t) (f : Share → α)
    (hw : ∀ h n k, f { h with grantNumber := k, promised := n } = f h)
    (hp : ∀ p, g = .share p → ∀ h h', p.only h h' → f h' = f h)
    (hr : g = .failReturn ∨ g = .markLoans ∨ g = .termOut → ∀ h n l, f { h with borrowed := n, borrowedRecords := l } = f h)
    (hl : g = .lentTerms → ∀ h, f (Machine.tickLent h) = f h)
    (hq : g = .endQuarantine → s.share.fresh = true → ∀ h n, f { h with own := n, fresh := false } = f h) :
    f t.share = f s.share := by
  have told : ∀ {v : State}, (∃ n, v.share = { s.share with promised := n }) → f v.share = f s.share := fun ⟨n, hv⟩ => by
    rw [hv]
    exact hw s.share n s.share.grantNumber
  by_cases hb : Block.share ∈ g.blocks
  · cases m with
    | place e => exact told (placeTold_form e s)
    | tell e => exact told (tellLender_form e s)
    | grant peer k =>
      obtain ⟨g, n, hu⟩ := placeGrant_form peer k s
      rw [hu]
      exact hw s.share n g
    | share p x _ ho => exact hp p rfl _ _ ho
    | failReturn peer ret =>
      rw [State.onShare_share]
      unfold Machine.failReturn
      split
      · rfl
      · split
        · exact hr (.inl rfl) _ _ _
        · exact hr (.inl rfl) s.share s.share.borrowed _
    | markLoans x => exact hr (.inr (.inl rfl)) s.share s.share.borrowed _
    | termOut r => exact hr (.inr (.inr rfl)) _ _ _
    | lentTerms => exact hl rfl _
    | endQuarantine _ hf => exact hq rfl hf _ _
    | _ => exact absurd hb (by simp [Tag.blocks])
  · rw [m.frame.1 .share hb]

/-- The moves of a tag leave the pending ask; leave the borrowed records. -/
def Tag.leavesAsk : Tag → Bool
  | .share .ask => false
  | _ => true
def Tag.leavesLoans : Tag → Bool
  | .failReturn | .markLoans | .termOut => false
  | _ => true

theorem Move.ask {g : Tag} (m : Move g s t) (hg : g.leavesAsk = true) : t.share.ask = s.share.ask :=
  m.shareField (fun h => h.ask) (fun _ _ _ => rfl) (fun p hp h h' ho => by
    subst hp
    cases p with
    | ask => cases hg
    | _ => rw [ho]) (fun _ _ _ _ => rfl) (fun _ _ => rfl) fun _ _ _ _ => rfl

theorem Move.loans {g : Tag} (m : Move g s t) (hg : g.leavesLoans = true) :
    t.share.borrowedRecords = s.share.borrowedRecords :=
  m.shareField (fun h => h.borrowedRecords) (fun _ _ _ => rfl) (fun p _ h h' ho => by cases p <;> rw [ho])
    (fun hr => by rcases hr with rfl | rfl | rfl <;> cases hg) (fun _ _ => rfl) fun _ _ _ _ => rfl

theorem Moves.ask (m : Moves gs s t) (hg : gs.all Tag.leavesAsk = true) : t.share.ask = s.share.ask :=
  m.same (f := fun u => u.share.ask) fun g hm _ _ m => m.ask (List.all_eq_true.1 hg g hm)

theorem Moves.loans (m : Moves gs s t) (hg : gs.all Tag.leavesLoans = true) :
    t.share.borrowedRecords = s.share.borrowedRecords :=
  m.same (f := fun u => u.share.borrowedRecords) fun g hm _ _ m => m.loans (List.all_eq_true.1 hg g hm)

/-- A count of the share unit that only its own rule changes. -/
theorem Moves.pressure (m : Moves gs s t) (hg : Tag.share .pressure ∉ gs) : t.share.pressure = s.share.pressure :=
  m.same (f := fun u => u.share.pressure) fun g hm _ _ m =>
    m.shareField (fun h => h.pressure) (fun _ _ _ => rfl) (fun p hp h h' ho => by
      cases p with
      | pressure => exact absurd (hp ▸ hm) hg
      | _ => rw [ho]) (fun _ _ _ _ => rfl) (fun _ _ => rfl) fun _ _ _ _ => rfl

theorem Moves.voluntary (m : Moves gs s t) (hg : Tag.share .voluntary ∉ gs) : t.share.voluntary = s.share.voluntary :=
  m.same (f := fun u => u.share.voluntary) fun g hm _ _ m =>
    m.shareField (fun h => h.voluntary) (fun _ _ _ => rfl) (fun p hp h h' ho => by
      cases p with
      | voluntary => exact absurd (hp ▸ hm) hg
      | _ => rw [ho]) (fun _ _ _ _ => rfl) (fun _ _ => rfl) fun _ _ _ _ => rfl

/-- The fresh flag ends only with the quarantine. -/
theorem Moves.fresh (m : Moves gs s t) (hg : Tag.endQuarantine ∉ gs) : t.share.fresh = s.share.fresh :=
  m.same (f := fun u => u.share.fresh) fun g hm _ _ m =>
    m.shareField (fun h => h.fresh) (fun _ _ _ => rfl) (fun p _ h h' ho => by cases p <;> rw [ho]) (fun _ _ _ _ => rfl)
      (fun _ _ => rfl) fun hq => absurd (hq ▸ hm) hg

/-- What a station that is not fresh holds of its own and has lent. -/
def Share.lending (h : Share) : Bool × Nat × Nat × List LentRecord := (h.fresh, h.own, h.lent, h.lentRecords)

theorem lending_eq {h h' : Share} (e : h.lending = h'.lending) : h.fresh = h'.fresh ∧ h.own = h'.own ∧ h.lent = h'.lent
    ∧ h.lentRecords = h'.lentRecords := by
  simpa only [Share.lending, Prod.mk.injEq] using e

theorem Moves.lending (m : Moves gs s t) (hg : Tag.lentTerms ∉ gs) (hf : s.share.fresh = false) :
    t.share.lending = s.share.lending := by
  refine m.keeps (P := fun u => u.share.lending = s.share.lending) (fun g hm u v m hu => ?_) rfl
  refine (m.shareField Share.lending (fun _ _ _ => rfl) (fun p _ h h' ho => by cases p <;> rw [ho] <;> rfl)
    (fun _ _ _ _ => rfl) (fun hl => absurd (hl ▸ hm) hg) fun _ hfresh => ?_).trans hu
  have stood : u.share.fresh = false := (congrArg Prod.fst hu).trans hf
  rw [stood] at hfresh
  cases hfresh

/-! ### The peers of the borrowed records -/

/-- No borrowed record is of the peer. -/
def NoLoanOf (n : Nat) (l : List BorrowedRecord) : Prop := ∀ x ∈ l, x.peer ≠ n

theorem failReturn_records (peer : Nat) (ret : Nat × Word) (h : Share) :
    ∀ x ∈ (failReturn peer ret h).borrowedRecords, ∃ y ∈ h.borrowedRecords, x.peer = y.peer := by
  unfold failReturn
  split
  · exact fun x hx => ⟨x, hx, rfl⟩
  · split
    · exact fun x hx => ⟨x, List.mem_of_mem_filter hx, rfl⟩
    · intro x hx
      obtain ⟨y, hy, rfl⟩ := List.mem_map.1 hx
      refine ⟨y, hy, ?_⟩
      split <;> rfl

theorem Move.noLoanOf {g : Tag} (m : Move g s t) {n : Nat} (h : NoLoanOf n s.share.borrowedRecords) :
    NoLoanOf n t.share.borrowedRecords := by
  by_cases hg : g.leavesLoans = true
  · rwa [m.loans hg]
  · cases m with
    | failReturn peer ret =>
      intro x hx
      obtain ⟨y, hy, he⟩ := failReturn_records peer ret s.share x hx
      exact he ▸ h y hy
    | markLoans f _ hf =>
      intro x hx
      obtain ⟨y, hy, rfl⟩ := List.mem_map.1 hx
      rw [(hf y).1]
      exact h y hy
    | termOut r => exact fun x hx => h x (List.mem_of_mem_filter hx)
    | _ => exact absurd rfl hg

theorem Moves.noLoanOf (m : Moves gs s t) {n : Nat} (h : NoLoanOf n s.share.borrowedRecords) :
    NoLoanOf n t.share.borrowedRecords :=
  m.keeps (P := fun u => NoLoanOf n u.share.borrowedRecords) (fun _ _ _ _ m => m.noLoanOf) h

/-- No move of a cycle start adds a borrowed record. -/
theorem Move.loansShrink {g : Tag} (m : Move g s t) :
    t.share.borrowedRecords.length ≤ s.share.borrowedRecords.length := by
  by_cases hg : g.leavesLoans = true
  · rw [m.loans hg]
  · cases m with
    | failReturn peer ret =>
      rw [State.onShare_share]
      unfold Machine.failReturn
      split
      · exact le_refl _
      · split
        · exact List.length_filter_le _ _
        · exact (List.length_map _).le
    | markLoans f => exact (List.length_map _).le
    | termOut r => exact List.length_filter_le _ _
    | _ => exact absurd rfl hg

theorem Moves.loansShrink (m : Moves gs s t) : t.share.borrowedRecords.length ≤ s.share.borrowedRecords.length :=
  m.rel (R := fun u v => v.share.borrowedRecords.length ≤ u.share.borrowedRecords.length) (fun _ => le_refl _)
    (fun _ _ _ h k => k.trans h) fun _ _ _ _ m => m.loansShrink

/-! ### What the owner of a kind keeps while none of its bulletins is queued -/

/-- No bulletin of the kind is queued. -/
def NoneQueued (k : Kind) (l : LineUnit) : Prop := ∀ e ∈ l.queue, e.kind ≠ k

theorem Moves.noneQueued (m : Moves gs s t) {k : Kind} (hg : gs.all (Tag.spares k) = true) (ha : Tag.age ∉ gs)
    (h : NoneQueued k s.line) : NoneQueued k t.line := m.allOf lasting_none hg ha h

/-- The field that only the owner of a kind's bulletins changes as they end. -/
structure OwnedBy (k : Kind) (f : Share → α) : Prop where
  others : ∀ e, e.kind ≠ k → ∀ s, f (outcomeFailed e s).share = f s.share
  told : ∀ h n g, f { h with grantNumber := g, promised := n } = f h

/-- Nothing of the kind comes to be queued, and the field stands. -/
def OwnerKept (k : Kind) (f : Share → α) (s t : State) : Prop :=
  NoneQueued k s.line → NoneQueued k t.line ∧ f t.share = f s.share

variable {k : Kind} {f : Share → α}

theorem OwnerKept.trans (h : OwnerKept k f s t) (h' : OwnerKept k f t u) : OwnerKept k f s u := fun hs => by
  obtain ⟨ht, same⟩ := h hs
  obtain ⟨hu, same'⟩ := h' ht
  exact ⟨hu, same'.trans same⟩

theorem transferRefused_share (n : Nat) (s : State) : (transferRefused n s).share = s.share :=
  ((setWalkState_frame _ _).1 .share (by decide)).trans ((raiseAndClear_frame _ _ s).1 .share (by decide))

theorem loanDropped_share (n : Nat) (s : State) : (loanDropped n s).share = s.share :=
  (raiseAndClear_frame _ _ s).1 .share (by decide)

theorem enterReclaiming_share (s : State) : (enterReclaiming s).share = s.share :=
  (enterReclaiming_frame s).1 .share (by decide)

theorem ownedBy_ask : OwnedBy .shareAsk fun h => h.ask := by
  refine ⟨fun e he s => ?_, fun _ _ _ => rfl⟩
  unfold outcomeFailed
  split
  · next hk => exact absurd hk he
  · rfl
  · rw [returnFailed_share]
    have failed : ∀ h : Share, (failReturn e.target.toNat (countOf e.words, grantOf e.words) h).ask = h.ask := fun h => by
      unfold failReturn
      split
      · rfl
      · split <;> rfl
    split
    · exact failed _
    · rw [loanDropped_share]; exact failed _
  · split
    · rw [transferRefused_share]
    · rfl
  · split
    · rw [enterReclaiming_share]
    · rfl
  · rfl

theorem ownedBy_return : OwnedBy .shareReturn fun h => h.borrowedRecords := by
  refine ⟨fun e he s => ?_, fun _ _ _ => rfl⟩
  unfold outcomeFailed
  split
  · split <;> rfl
  · rfl
  · next hk => exact absurd hk he
  · split
    · rw [transferRefused_share]
    · rfl
  · split
    · rw [enterReclaiming_share]
    · rfl
  · rfl

theorem outcomeFailed_noneQueued (e : Entry) (hk : k ≠ .alarm) (h : NoneQueued k s.line) :
    NoneQueued k (outcomeFailed e s).line := by
  by_cases hg : e.kind = .shareGrant
  · rw [outcomeFailed_grant hg, (tellLender_frame e s).1 .line (by decide)]
    exact h
  · exact (outcomeFailed_moves hg s).noneQueued (by revert hk; cases k <;> decide) (by decide) h

/-- An entry that a placement evicts was queued. -/
theorem evicted_kind {e x : Entry} (h : enqueue e s = (t, .evicted x)) : ∃ y ∈ s.line.queue, y.kind = x.kind := by
  have elder : ∀ y ∈ (replaceElders e.kind s).line.queue, ∃ z ∈ s.line.queue, z.kind = y.kind := by
    intro y hy
    rw [replaceElders_queue] at hy
    split at hy
    · obtain ⟨z, hz, rfl⟩ := List.mem_map.1 hy
      refine ⟨z, List.mem_of_mem_filter hz, ?_⟩
      split <;> rfl
    · exact ⟨y, hy, rfl⟩
  rcases enqueue_cases e s with ⟨-, he⟩ | ⟨-, -, -, he⟩ | ⟨-, he⟩
  · rw [he] at h; cases h
  · rw [he] at h; cases h
  · rw [he] at h
    rcases admitGeneral_cases e.ranked (replaceElders e.kind s) with ⟨-, ha⟩ | ⟨-, j, y, hy, ha⟩ | ⟨-, ha⟩
    · rw [ha] at h; cases h
    · rw [ha] at h; cases h; exact elder x (List.mem_of_getElem? hy.here)
    · rw [ha] at h; cases h

theorem placeTrip_ownerKept (hf : OwnedBy k f) (hk : k ≠ .alarm) (ht : k ≠ .trip) (c : AlarmCode) (d : Option Nat)
    (x : Stamp) (s : State) : OwnerKept k f s (placeTrip c d x s) := fun hs => by
  unfold placeTrip
  have queued : ∀ {e : Entry} {t : State} {a : Admission}, enqueue e s = (t, a) → e.kind = .trip → NoneQueued k t.line := by
    intro e t a he hke
    have m : AllOf k (fun _ => False) (enqueue e s).1.line := AllOf.enqueue (s := s) hs (by rw [hke]; exact ht.symm)
    rwa [he] at m
  split
  · next t e he =>
    obtain ⟨y, hy, hky⟩ := evicted_kind he
    exact ⟨outcomeFailed_noneQueued e hk (queued he rfl),
      (hf.others e (fun hke => hs y hy (hky.trans hke)) t).trans (congrArg f (enqueue_share he))⟩
  · next he => exact ⟨queued he rfl, congrArg f (enqueue_share he)⟩

theorem raise_ownerKept (hf : OwnedBy k f) (hk : k ≠ .alarm ∧ k ≠ .trip ∧ k ≠ .xferAbort) (c : AlarmCode) (d : Option Nat)
    (s : State) (hc : c ≠ .shareLoanDropped) : OwnerKept k f s (raise c d s) := by
  have record : OwnerKept k f s (raiseRecord c d s).1 := fun hs =>
    have m := (Move.raised c d s hc).moves (gs := [.raised c]) (by simp)
    ⟨m.noneQueued (by simp [Tag.spares, Tag.kinds, hk.1]) (by simp) hs,
      congrArg f (m.block .share (by simp [Tag.leaves, Tag.blocks]))⟩
  have tripped : OwnerKept k f (raiseRecord c d s).1 (enterTripped (raiseRecord c d s).1) := fun hs =>
    have m := enterTripped_moves (raiseRecord c d s).1
    ⟨m.noneQueued (by obtain ⟨h1, h2, h3⟩ := hk; revert h1 h2 h3; cases k <;> decide) (by decide) hs,
      m.same (f := fun u => f u.share) fun g hg _ _ mv => mv.shareField f hf.told
        (fun p hp => absurd (hp ▸ hg) (by cases p <;> decide))
        (fun hr => by rcases hr with rfl | rfl | rfl <;> exact absurd hg (by decide))
        (fun hl => absurd (hl ▸ hg) (by decide)) fun hq => absurd (hq ▸ hg) (by decide)⟩
  unfold raise; dsimp only
  split
  · split
    · exact record.trans tripped
    · exact (record.trans tripped).trans (placeTrip_ownerKept hf hk.1 hk.2.1 _ _ _ _)
  · exact record

/-- Strides that place none of the kind, and of which none but an outcome changes the field. -/
theorem Strides.ownerKept (m : Strides gs s t) (hf : OwnedBy k f) (hk : k ≠ .alarm ∧ k ≠ .trip ∧ k ≠ .xferAbort)
    (hg : gs.all (Tag.spares k) = true) (ha : Tag.age ∉ gs)
    (hm : ∀ g ∈ gs, ∀ u v, Move g u v → f v.share = f u.share) : OwnerKept k f s t :=
  m.rel (fun _ h => ⟨h, rfl⟩) (fun _ _ _ h h' => h.trans h') (fun g hmem u v m h =>
    ⟨m.allOf lasting_none (fun hin => by
        have spared := List.all_eq_true.1 hg g hmem
        simp [Tag.spares, hin] at spared) (fun he => ha (he ▸ hmem)) h, hm g hmem u v m⟩)
    fun c d u hc => raise_ownerKept hf hk c d u hc

/-- The ageing of a queue without the kind. -/
theorem ageQueue_ownerKept (hf : OwnedBy k f) (hk : k ≠ .alarm) (s : State) : OwnerKept k f s (ageQueue s) := fun hs => by
  have aged : ∀ e : Entry, e.aged.kind = e.kind := fun e => by unfold Entry.aged; split <;> rfl
  have all : ∀ (l : List Entry) (u : State), (∀ e ∈ l, e.kind ≠ k) → OwnerKept k f u (l.foldl entryExpired u) := by
    intro l
    induction l with
    | nil => exact fun u _ h => ⟨h, rfl⟩
    | cons e l ih =>
      intro u hl
      have first : OwnerKept k f u (entryExpired u e) := fun hu =>
        ⟨outcomeFailed_noneQueued e hk hu, hf.others e (hl e List.mem_cons_self) _⟩
      exact first.trans (ih (entryExpired u e) fun x hx => hl x (List.mem_cons_of_mem _ hx))
  rw [ageQueue_eq]
  refine all _ _ (fun e he => ?_) fun e he => ?_
  · obtain ⟨x, hx, rfl⟩ := List.mem_map.1 (List.mem_of_mem_filter he)
    rw [aged]
    exact hs x hx
  · obtain ⟨y, hy, rfl⟩ := List.mem_map.1 he
    obtain ⟨x, hx, rfl⟩ := List.mem_map.1 (List.mem_of_mem_filter hy)
    have kind : (if x.aged.inFlight then x.aged.markExpired s.time.cycle else x.aged).kind = x.kind := by
      rw [← aged x]
      unfold Entry.markExpired
      split
      · split <;> rfl
      · rfl
    rw [kind]
    exact hs x hx

end

end Sys2Proof.Machine

end

section
/-! PROOFS. The pending ask and the borrowed records as the share unit's cycle finds them, and the bulletins of the share
unit that stand to the end of a cycle start (R15, R16). -/

namespace Sys2Proof.Machine

section
variable {s t u : State} {gs : List Tag} {i : Inputs}

/-! ### The chain as strides -/

/-- The strides of the drive chain's cycle at a role, a walk from the state it is in. -/
def chainStrides (r : Role) (w : WalkState) : List Tag :=
  (measureTags ++ checkStrides) ++ stepStrides r w ++ outStrides ++ afterStrides

theorem chainCycle_strides (s : State) :
    Strides (chainStrides s.role (checked s).walk.state) s (chainCycle s) := by
  unfold chainCycle
  split
  · next h =>
    obtain ⟨hj, ha⟩ : s.joined = true ∧ s.role.isAxis = true := by simpa using h
    have checks := checked_strides s
    have form : chainInputs s = axisStep (checked s) := rfl
    have startup : (checked s).startup = s.startup := (driveChecks_moves _).startup.trans (measured_moves s).startup
    have step := axisStep_strides (checked s)
    rw [role_of_startup startup] at step
    have moved := axisStep_moves (checked s)
    have joined : (axisStep (checked s)).joined = true := moved.joined.trans ((joined_of_startup startup).trans hj)
    have axis : (axisStep (checked s)).role.isAxis = true := by rw [moved.role, role_of_startup startup, ha]
    have out := chainOutputs_strides joined axis
    have after := chainAfter_strides (chainOutputs (axisStep (checked s)))
    rw [form]
    exact (((checks.mono fun _ h => List.mem_append_left _ (List.mem_append_left _ (List.mem_append_left _ h))).trans
      (step.mono fun _ h => List.mem_append_left _ (List.mem_append_left _ (List.mem_append_right _ h)))).trans
        (out.mono fun _ h => List.mem_append_left _ (List.mem_append_right _ h))).trans
          (after.mono fun _ h => List.mem_append_right _ h)
  · exact .refl _ s

/-! ### The ask and the borrowed records up to the share unit's cycle -/

/-- The moves of a tag queue no SHARE-ASK and leave the ask; queue no SHARE-RETURN and leave the borrowed records. -/
def Tag.keepsAsk (g : Tag) : Bool := g.spares .shareAsk && g.leavesAsk && g != .age
def Tag.keepsLoans (g : Tag) : Bool := g.spares .shareReturn && g.leavesLoans && g != .age

theorem Strides.asks (m : Strides gs s t) (hg : gs.all Tag.keepsAsk = true) : OwnerKept .shareAsk (fun h => h.ask) s t := by
  have keeps : ∀ g ∈ gs, g.spares .shareAsk = true ∧ g.leavesAsk = true ∧ g ≠ .age := fun g hm => by
    simpa [Tag.keepsAsk, and_assoc] using List.all_eq_true.1 hg g hm
  exact m.ownerKept ownedBy_ask (by decide) (List.all_eq_true.2 fun g hm => (keeps g hm).1)
    (fun hm => (keeps _ hm).2.2 rfl) fun g hm _ _ mv => mv.ask (keeps g hm).2.1

theorem Strides.loansKept (m : Strides gs s t) (hg : gs.all Tag.keepsLoans = true) :
    OwnerKept .shareReturn (fun h => h.borrowedRecords) s t := by
  have keeps : ∀ g ∈ gs, g.spares .shareReturn = true ∧ g.leavesLoans = true ∧ g ≠ .age := fun g hm => by
    simpa [Tag.keepsLoans, and_assoc] using List.all_eq_true.1 hg g hm
  exact m.ownerKept ownedBy_return (by decide) (List.all_eq_true.2 fun g hm => (keeps g hm).1)
    (fun hm => (keeps _ hm).2.2 rfl) fun g hm _ _ mv => mv.loans (keeps g hm).2.1

theorem stepStrides_keepsAsk (r : Role) (w : WalkState) : (stepStrides r w).all Tag.keepsAsk = true := by
  cases r <;> cases w <;> decide

/-- Only a walk in RETURNING returns its loans in its step. -/
theorem stepStrides_keepsLoans {r : Role} {w : WalkState} (h : r = .walk → w ≠ .returning) :
    (stepStrides r w).all Tag.keepsLoans = true := by
  cases r with
  | walk =>
    have away := h rfl
    revert away
    cases w <;> decide
  | _ => cases w <;> decide

theorem ticked_noneQueued {k : Kind} (h : NoneQueued k s.line) : NoneQueued k (ticked s).line :=
  ticked_allOf h fun _ _ h => h

/-- The pending ask as the share unit's cycle finds it. -/
theorem chained_ask (h : NoneQueued .shareAsk s.line) : (chained (fallen i s)).share.ask = s.share.ask := by
  have fall := (fallen_strides i s).asks (by decide)
  have aged := ageQueue_ownerKept ownedBy_ask (by decide) (fallen i s)
  have early := (afterAge_moves (fallen i s)).strides.asks (by decide)
  have chain : OwnerKept .shareAsk (fun h => h.ask) (cabbed (fallen i s)) (chained (fallen i s)) := by
    unfold chained
    generalize cabbed (fallen i s) = c
    refine (chainCycle_strides c).asks ?_
    simp only [chainStrides, List.all_append, stepStrides_keepsAsk]
    decide
  exact (((fall.trans aged).trans early).trans chain (ticked_noneQueued h)).2

/-- The moves of the first part of a cycle start that is no long cycle, once the queue has aged. -/
theorem shortCounts_aged (s : State) : Moves (lineCountTags ++ ([.long] ++ pictureTags)) (ageQueue s) (shortCounts s) :=
  (((duplicateCycle_moves _).mono fun _ h => List.mem_append_left _ (List.mem_append_left _ h)).trans
    ((faultCycle_moves _).mono fun _ h => List.mem_append_left _ (List.mem_append_right _ h))).trans
      (((countLong_moves _).mono fun _ h => List.mem_append_right _ (List.mem_append_left _ h)).trans
        ((pictureCycle_moves _).mono fun _ h => List.mem_append_right _ (List.mem_append_right _ h)))

/-- The borrowed records as the long cycle's work, and that of a cycle start that is none, finds them. -/
theorem shortCounts_loans : OwnerKept .shareReturn (fun h => h.borrowedRecords) (ticked s) (shortCounts (fallen i s)) :=
  (((fallen_strides i s).loansKept (by decide)).trans (ageQueue_ownerKept ownedBy_return (by decide) (fallen i s))).trans
    ((shortCounts_aged _).strides.loansKept (by decide))

/-- The borrowed records as the share unit's cycle finds them. -/
theorem chained_loans (hl : isLongCycle (fallen i s) = false) (hw : s.role = .walk → s.walk.state ≠ .returning) :
    OwnerKept .shareReturn (fun h => h.borrowedRecords) (ticked s) (chained (fallen i s)) := by
  have short := shortCounts_loans (i := i) (s := s)
  have counts : cycleCounts (fallen i s) = shortCounts (fallen i s) := by
    rw [cycleCounts_eq, if_neg (by rw [hl]; decide)]
  have early : OwnerKept .shareReturn (fun h => h.borrowedRecords) (shortCounts (fallen i s)) (cabbed (fallen i s)) := by
    have ring := ringCycle_moves (cycleCounts (fallen i s))
    rw [counts] at ring
    have m : Moves (ringTags ++ (annunciatorTags ++ cabTags)) (shortCounts (fallen i s)) (cabbed (fallen i s)) := by
      unfold cabbed ringed
      rw [counts]
      exact (ring.mono (List.subset_append_left _ _)).trans
        ((((annunciatorCycle_moves _).mono (List.subset_append_left _ _)).trans
          ((cabCycle_moves _).mono (List.subset_append_right _ _))).mono (List.subset_append_right _ _))
    exact m.strides.loansKept (by decide)
  have startup : (cabbed (fallen i s)).startup = s.startup := (cabbed_moves _).startup.trans (fallen_startup i s)
  have away : s.role = .walk → (checked (cabbed (fallen i s))).walk.state ≠ .returning := fun hr hx => by
    have found := cabbed_axis_moves (s := s) i (by rw [hr]; decide)
    generalize cabbed (fallen i s) = c at found hx
    have m : Moves beforeStepTags (ticked s) (checked c) :=
      (found.mono (List.subset_append_left _ _)).trans
        ((((measured_moves _).mono (List.subset_append_left _ _)).trans
          ((driveChecks_moves _).mono (List.subset_append_right _ _))).mono
            (List.subset_append_right _ (measureTags ++ checksTags)))
    exact hw hr (m.walkStood (s := ticked s) (by decide) hx)
  refine (short.trans early).trans ?_
  unfold chained
  generalize cabbed (fallen i s) = c at startup away
  refine (chainCycle_strides c).loansKept ?_
  have step := stepStrides_keepsLoans (r := c.role) (w := (checked c).walk.state) fun hr =>
    away ((role_of_startup startup).symm.trans hr)
  simp only [chainStrides, List.all_append, step]
  decide

/-! ### A bulletin of the share unit that stands -/

/-- A placement of no lower class leaves an entry that none replaces. -/
theorem enqueue_holds {e x : Entry} (hx : x ∈ s.line.queue) (hr : isReplacing x.kind = false) (hc : x.kind.cls ≤ e.kind.cls) :
    x ∈ (enqueue e s).1.line.queue := by
  have elders : x ∈ (replaceElders e.kind s).line.queue := by
    rw [replaceElders_queue]
    split
    · next hk =>
      have other : (x.kind == e.kind) = false := beq_false_of_ne fun h => by rw [h, hk] at hr; cases hr
      exact List.mem_map.2 ⟨x, List.mem_filter.2 ⟨hx, by rw [other]; rfl⟩, by rw [other]; rfl⟩
    · exact hx
  rcases enqueue_cases e s with ⟨-, he⟩ | ⟨-, -, -, he⟩ | ⟨-, he⟩ <;> rw [he]
  · exact hx
  · exact mem_standIn.2 (.inr hx)
  · rcases admitGeneral_cases e.ranked (replaceElders e.kind s) with ⟨-, ha⟩ | ⟨-, k, y, hy, ha⟩ | ⟨-, ha⟩ <;> rw [ha]
    · exact mem_standIn.2 (.inr elders)
    · refine mem_standIn.2 (.inr ?_)
      have above : e.kind.cls < y.kind.cls := hy.above
      have perm := perm_cons_eraseIdx hy.here
      rcases List.mem_cons.1 (perm.mem_iff.1 elders) with rfl | hm
      · omega
      · exact hm
    · exact elders

/-- Some entry has the property. -/
def Queued (p : Entry → Prop) (l : LineUnit) : Prop := ∃ e ∈ l.queue, p e

/-- The property is of bulletins that no placement but a TRIP's evicts. -/
structure Fixed (p : Entry → Prop) : Prop extends Lasting p where
  stays : ∀ e, p e → e.kind.cls ≤ 1 ∧ isReplacing e.kind = false

variable {p : Entry → Prop}

theorem Queued.enqueue {e : Entry} (h : Queued p s.line) (hp : Fixed p) (he : e.kind ≠ .trip) :
    Queued p (enqueue e s).1.line := by
  obtain ⟨x, hx, hpx⟩ := h
  obtain ⟨low, keeps⟩ := hp.stays x hpx
  have high : 1 ≤ e.kind.cls := by
    revert he
    cases e.kind <;> decide
  exact ⟨x, enqueue_holds hx keeps (low.trans high), hpx⟩

theorem AlarmLine.queued (h : AlarmLine s t) (hp : Fixed p) (hs : Queued p s.line) : Queued p t.line :=
  h.keeps (Q := Queued p) (fun e u _ he hu => hu.enqueue (s := u) (e := e) hp (by rw [he]; decide)) hs

theorem Queued.map {l : LineUnit} (h : Queued p l) {f : Entry → Entry} (hf : ∀ e, p e → p (f e)) :
    Queued p { l with queue := l.queue.map f } := by
  obtain ⟨x, hx, hpx⟩ := h
  exact ⟨f x, List.mem_map_of_mem hx, hf x hpx⟩

theorem Queued.of_queue {l l' : LineUnit} (h : Queued p l) (hq : l'.queue = l.queue) : Queued p l' := by
  obtain ⟨x, hx, hpx⟩ := h
  exact ⟨x, hq ▸ hx, hpx⟩

theorem Move.queued {g : Tag} (m : Move g s t) (hp : Fixed p) (ht : g ≠ .place .trip) (ha : g ≠ .age)
    (h : Queued p s.line) : Queued p t.line := by
  by_cases hb : Block.line ∈ g.blocks
  · cases m with
    | count c _ hc => exact h
    | place e =>
      rw [placeTold_line]
      exact h.enqueue hp fun hk => ht (by rw [hk])
    | mute q => exact h.map (hp.toLasting.mute q)
    | settle q =>
      refine h.map fun e he => ?_
      split
      · exact hp.settled e he
      · exact he
    | age => exact absurd rfl ha
    | line f c _ hc => cases f <;> exact h.of_queue (by rw [State.onLine_line, hc])
    | queries => exact h
    | rejoin => exact h
    | walkTo w =>
      have watched : ∀ u : State, (watchOwned (u.onWalk fun k => { k with state := w, stateCount := 0 })).line = u.line :=
        fun u => (watchOwned_frame _).1 .line (by decide)
      unfold setWalkState; dsimp only
      rw [watched]
      split
      · exact h.map (hp.toLasting.mute _)
      · exact h
    | grant peer k =>
      obtain ⟨e, -, he, hl⟩ := placeGrant_line peer k s
      rw [hl]
      exact Queued.enqueue (s := s.onShare fun h => { h with grantNumber := h.grantNumber + 1 }) h hp (by rw [he]; decide)
    | raised c d => exact (raiseQuiet_alarmLine c d s).queued hp h
    | cleared c d => exact (clearAlarm_alarmLine c d s).queued hp h
    | dropped d => exact (loanDropped_alarmLine d s).queued hp h
    | report r => exact (reportAlarm_alarmLine r false true s).queued hp h
    | _ => exact absurd hb (by simp [Tag.blocks])
  · rwa [m.frame.1 .line hb]

theorem Moves.queued (m : Moves gs s t) (hp : Fixed p) (ht : Tag.place .trip ∉ gs) (ha : Tag.age ∉ gs)
    (h : Queued p s.line) : Queued p t.line :=
  m.keeps (P := fun u => Queued p u.line) (fun _ hm _ _ m => m.queued hp (fun e => ht (e ▸ hm)) fun e => ha (e ▸ hm)) h

/-- A bulletin newly placed stands in the queue. -/
theorem enqueue_admitted {e : Entry} {a : Admission} (h : enqueue e s = (t, a)) (ha : a ≠ .refused) :
    ∃ x ∈ t.line.queue, x = e.ranked ∨ x = { e.ranked with reserved := true } := by
  rcases enqueue_cases e s with ⟨-, he⟩ | ⟨-, -, -, he⟩ | ⟨-, he⟩
  · rw [he] at h; cases h; exact absurd rfl ha
  · rw [he] at h; cases h; exact ⟨_, mem_standIn.2 (.inl rfl), .inr rfl⟩
  · rw [he] at h
    rcases admitGeneral_cases e.ranked (replaceElders e.kind s) with ⟨-, hc⟩ | ⟨-, j, y, hy, hc⟩ | ⟨-, hc⟩
    · rw [hc] at h; cases h; exact ⟨_, mem_standIn.2 (.inl rfl), .inl rfl⟩
    · rw [hc] at h; cases h; exact ⟨_, mem_standIn.2 (.inl rfl), .inl rfl⟩
    · rw [hc] at h; cases h; exact absurd rfl ha

end

end Sys2Proof.Machine

end

section
/-! PROOFS. The share unit at a long cycle: the end of the quarantine, a term that runs out, a grace that runs out; and
the wait of the pending ask (R97, R98, R101, R105, R106). -/

namespace Sys2Proof.Machine

section
variable {s t : State} {i : Inputs}

/-! ### A long cycle's work after the share unit's -/

/-- The moves that follow the share unit's long cycle. -/
def afterLongTags : List Tag := refreshTags ++ countsOnTags

theorem afterLong_moves (hl : isLongCycle s = true) :
    Moves afterLongTags (shareLongCycle (shortCounts s)) (cycleWork s) := by
  have counts : cycleCounts s = (tableLongCycle (refreshRound (shareLongCycle (shortCounts s)))).note .longCycle := by
    rw [cycleCounts_eq, if_pos hl, longCycleWork]
  have rest := afterCounts_moves s
  rw [counts] at rest
  exact ((((refreshRound_moves _).mono (List.subset_append_left _ _)).trans (tableLongCycle_moves _)).trans
    ((Move.note _ _).moves (by decide))).mono (List.subset_append_left _ _) |>.trans
      (rest.mono (List.subset_append_right _ _))

/-- The long cycle's work as it begins. -/
theorem shortCounts_startup (i : Inputs) (s : State) : (shortCounts (fallen i s)).startup = s.startup :=
  (shortCounts_moves _).startup.trans (fallen_startup i s)

theorem shareLongCycle_eq (hj : s.joined = true) :
    shareLongCycle (shortCounts (fallen i s)) = quarantineStep (lentTerms (borrowedTerms (shortCounts (fallen i s)))) := by
  unfold shareLongCycle
  rw [if_pos ((joined_of_startup (shortCounts_startup i s)).trans hj)]

/-- The moves up to the long cycle's work. -/
def untilLongTags : List Tag := fallTags ++ (lineTags ++ ([.long] ++ pictureTags))

theorem untilLong_moves (i : Inputs) (s : State) : Moves untilLongTags (ticked s) (shortCounts (fallen i s)) :=
  ((fallen_moves i s).mono (List.subset_append_left _ _)).trans
    ((shortCounts_moves _).mono (List.subset_append_right _ _))

theorem untilLent_moves (i : Inputs) (s : State) :
    Moves (untilLongTags ++ termTags) (ticked s) (borrowedTerms (shortCounts (fallen i s))) :=
  ((untilLong_moves i s).mono (List.subset_append_left _ _)).trans
    ((borrowedTerms_moves _).mono (List.subset_append_right _ _))

theorem untilExam_moves (i : Inputs) (s : State) :
    Moves ((untilLongTags ++ termTags) ++ lentTags) (ticked s) (lentTerms (borrowedTerms (shortCounts (fallen i s)))) :=
  ((untilLent_moves i s).mono (List.subset_append_left _ _)).trans
    ((lentTerms_moves _).mono (List.subset_append_right _ _))

/-! ### The end of the quarantine (R98) -/

theorem quarantineStep_ends (hf : s.share.fresh = true) (hq : s.globals.loanTerm + 1 ≤ s.share.quarantine)
    (ht : s.globals.loanTerm ≤ 255) (hp : ∀ n, n < 8 → n ≠ s.station → (s.peer n).foreign = false) :
    ∃ u : State, quarantineStep s = (clearAlarm .stationStarted none u).note .quarantineEnd
      ∧ u.share.fresh = false ∧ u.share.own = (s.entryOf s.station).homeShare ∧ u.alarms = s.alarms
      ∧ u.startup = s.startup := by
  have passed : s.share.fresh = true ∧ s.globals.loanTerm + 2 ≤ min 257 (s.share.quarantine + 1) := ⟨hf, by omega⟩
  have none : ((List.range 8).filter fun n => n != s.station && (s.peer n).foreign) = [] :=
    List.filter_eq_nil_iff.2 fun n hn h => by
      obtain ⟨other, foreign⟩ : n ≠ s.station ∧ (s.peer n).foreign = true := by simpa using h
      rw [hp n (List.mem_range.1 hn) other] at foreign
      cases foreign
  have empty : ((List.range 8).filter fun n => n != s.station && (s.peer n).foreign).isEmpty = true := by
    rw [none]
    rfl
  refine ⟨(s.onShare fun h => { h with quarantine := min 257 (h.quarantine + 1) }).onShare fun h =>
    { h with own := (s.entryOf s.station).homeShare, fresh := false }, ?_, rfl, rfl, rfl, rfl⟩
  unfold quarantineStep; dsimp only
  exact (if_pos passed).trans (if_pos empty)

theorem work_quarantine (hj : s.joined = true) (hl : isLongCycle (fallen i s) = true) (hf : s.share.fresh = true)
    (hq : s.globals.loanTerm + 1 ≤ s.share.quarantine) (ht : s.globals.loanTerm ≤ 255)
    (hp : ∀ n, n < 8 → n ≠ s.station → (s.peer n).foreign = false) (ho : ListsOrdered s) :
    Event.quarantineEnd ∈ (cycleWork (fallen i s)).events ∧ (cycleWork (fallen i s)).share.fresh = false
      ∧ (cycleWork (fallen i s)).share.own = (s.entryOf s.station).homeShare
      ∧ KeyCleared .stationStarted none (cycleWork (fallen i s)).alarms.list := by
  have rest := afterLong_moves hl
  rw [shareLongCycle_eq hj] at rest
  have before := untilExam_moves i s
  have count : (lentTerms (borrowedTerms (shortCounts (fallen i s)))).share.quarantine = s.share.quarantine :=
    before.quarantine (by simp only [untilLongTags, List.all_append]; decide)
  have fresh : (lentTerms (borrowedTerms (shortCounts (fallen i s)))).share.fresh = s.share.fresh :=
    before.fresh (by simp only [untilLongTags, List.mem_append]; decide)
  have startup : (lentTerms (borrowedTerms (shortCounts (fallen i s)))).startup = s.startup := before.startup
  have lists : ListsOrdered (lentTerms (borrowedTerms (shortCounts (fallen i s)))) :=
    before.listsOrdered ⟨ho.1, ho.2, ho.3, ho.4⟩
  have peers : ∀ n, ((lentTerms (borrowedTerms (shortCounts (fallen i s)))).peer n).foreign = (s.peer n).foreign := fun n => by
    have terms : Moves (termTags ++ lentTags) (shortCounts (fallen i s)) (lentTerms (borrowedTerms (shortCounts (fallen i s)))) :=
      ((borrowedTerms_moves _).mono (List.subset_append_left _ _)).trans
        ((lentTerms_moves _).mono (List.subset_append_right _ _))
    have aged := terms.peers (by decide)
    have short : (shortCounts (fallen i s)).picture.peers = (fallen i s).picture.peers.map ageRecord := by
      rw [shortCounts, pictureCycle_peers, (countLong_moves _).peers (by decide), (lineCycle_moves _).peers (by decide)]
    rw [peer_of_aged (aged.trans short) rfl n, fallen_peer i s n]
    unfold ageRecord
    split <;> rfl
  generalize lentTerms (borrowedTerms (shortCounts (fallen i s))) = u at *
  obtain ⟨v, form, free, own, alarms, same⟩ := quarantineStep_ends (s := u) (fresh.trans hf)
    (by rw [globals_of_startup startup, count]; exact hq) (by rw [globals_of_startup startup]; exact ht)
    (fun n hn hne => (peers n).trans (hp n hn (by rwa [station_of_startup startup] at hne)))
  have cleared : (clearAlarm .stationStarted none v).share = v.share := (clearAlarm_frame _ _ v).1 .share (by decide)
  have key : KeyCleared .stationStarted none (clearAlarm .stationStarted none v).alarms.list := fun _ hr hc hd =>
    clearAlarm_state ((joined_of_startup (same.trans startup)).trans hj) (by rw [alarms]; exact lists.listKeys) hr hc hd
  rw [form] at rest
  have held := rest.lending (by
    simp only [afterLongTags, countsOnTags, ringOnTags, chainOnTags, chainTags, List.mem_append]; decide)
    (by rw [State.note_share, cleared]; exact free)
  rw [State.note_share, cleared] at held
  obtain ⟨stays, owns, -⟩ := lending_eq held
  refine ⟨rest.events_mono List.mem_cons_self, stays.trans free, ?_, rest.keyCleared (by
    simp only [afterLongTags, countsOnTags, ringOnTags, chainOnTags, chainTags, List.any_append]; decide) key⟩
  rw [owns, own, entryOf_of_startup startup]

/-! ### A borrowed term that runs out (R105) -/

theorem foldl_termOut {l : List BorrowedRecord} {r : BorrowedRecord} (h : r ∈ l) (s : State) :
    NoLoanOf r.peer (l.foldl borrowedTermOut s).share.borrowedRecords
      ∧ Event.loanTermEnd ∈ (l.foldl borrowedTermOut s).events := by
  induction l generalizing s with
  | nil => cases h
  | cons x l ih =>
    rcases List.mem_cons.1 h with rfl | h
    · let u := (s.onShare fun h =>
        { h with borrowed := h.borrowed - r.count,
                 borrowedRecords := h.borrowedRecords.filter fun x => x.peer != r.peer }).note .loanTermEnd
      have gone : NoLoanOf r.peer u.share.borrowedRecords := fun x hx => by
        simpa using (List.mem_filter.1 hx).2
      have m : Moves termTags u (borrowedTermOut s r) :=
        .ite (fun _ => .refl _ u) fun _ => (sendReturn_moves _ _ _ _).mono (by decide)
      have rest : Moves termTags u (l.foldl borrowedTermOut (borrowedTermOut s r)) :=
        m.trans (.foldl _ (fun t r _ => borrowedTermOut_moves t r) _)
      exact ⟨rest.noLoanOf gone, rest.events_mono List.mem_cons_self⟩
    · exact ih h _

theorem work_termOut (hj : s.joined = true) (hl : isLongCycle (fallen i s) = true) (hn : NoneQueued .shareReturn s.line)
    {r : BorrowedRecord} (hr : r ∈ s.share.borrowedRecords) (ht : r.term ≤ 1) :
    Event.loanTermEnd ∈ (cycleWork (fallen i s)).events
      ∧ NoLoanOf r.peer (cycleWork (fallen i s)).share.borrowedRecords := by
  have rest := afterLong_moves hl
  rw [shareLongCycle_eq hj] at rest
  have loans : (shortCounts (fallen i s)).share.borrowedRecords = s.share.borrowedRecords :=
    (shortCounts_loans (ticked_noneQueued hn)).2
  have joined := (joined_of_startup (shortCounts_startup i s)).trans hj
  generalize shortCounts (fallen i s) = u at *
  have due : { r with term := r.term - 1 } ∈ (u.share.borrowedRecords.map fun r => { r with term := r.term - 1 }).filter
      fun r => r.term == 0 :=
    List.mem_filter.2 ⟨List.mem_map_of_mem (loans ▸ hr), beq_iff_eq.2 (Nat.sub_eq_zero_of_le ht)⟩
  obtain ⟨gone, noted⟩ := foldl_termOut due (u.onShare fun h =>
    { h with borrowedRecords := h.borrowedRecords.map fun r => { r with term := r.term - 1 } })
  have lent := lentTerms_moves (borrowedTerms u)
  have exam := quarantineStep_moves (s := lentTerms (borrowedTerms u))
    (((borrowedTerms_moves u).joined.symm ▸ lent.joined).trans joined)
  exact ⟨rest.events_mono (exam.events_mono (lent.events_mono noted)), rest.noLoanOf (exam.noLoanOf (lent.noLoanOf gone))⟩

/-! ### A grace that runs out (R106) -/

/-- The grace of a lent record ends at this long cycle. -/
def LentRecord.graceEnds (r : LentRecord) : Bool := r.grace.any (· ≤ 1)

theorem tick_count (r : LentRecord) : r.tick.count = r.count := by
  unfold LentRecord.tick
  split
  · rfl
  · split <;> rfl

theorem tick_grace (r : LentRecord) : (r.tick.grace == some 0) = r.graceEnds := by
  unfold LentRecord.tick LentRecord.graceEnds
  split
  · next g hg =>
    rw [hg, Bool.eq_iff_iff]
    simp
    omega
  · next hg =>
    rw [hg]
    split <;> rfl

theorem tickLent_back (h : Share) : tickLent h = { h with
    own := h.own + ((h.lentRecords.filter LentRecord.graceEnds).map (·.count)).sum,
    lent := h.lent - ((h.lentRecords.filter LentRecord.graceEnds).map (·.count)).sum,
    lentRecords := (h.lentRecords.filter fun r => !r.graceEnds).map LentRecord.tick } := by
  have back : (((h.lentRecords.map LentRecord.tick).filter fun r => r.grace == some 0).map (·.count))
      = (h.lentRecords.filter LentRecord.graceEnds).map (·.count) := by
    rw [List.filter_map, List.map_map, show ((fun r : LentRecord => r.grace == some 0) ∘ LentRecord.tick) = LentRecord.graceEnds
      from funext tick_grace]
    exact List.map_congr_left fun r _ => tick_count r
  have left : ((h.lentRecords.map LentRecord.tick).filter fun r => r.grace != some 0)
      = (h.lentRecords.filter fun r => !r.graceEnds).map LentRecord.tick := by
    rw [List.filter_map, show ((fun r : LentRecord => r.grace != some 0) ∘ LentRecord.tick) = fun r => !r.graceEnds
      from funext fun r => congrArg (!·) (tick_grace r)]
  unfold tickLent; dsimp only
  rw [back, left]

/-- A long cycle at which a lent record's term or grace runs out is noted (log entry 1). -/
theorem lentTerms_noted {r : LentRecord} (hr : r ∈ s.share.lentRecords)
    (h : r.graceEnds = true ∨ r.grace = none ∧ r.term ≤ 1) : lentTerms s = (s.onShare tickLent).note .loanGraceEnd := by
  rw [lentTerms_eq, if_pos]
  rcases h with h | ⟨hg, ht⟩
  · have back : r.tick ∈ (s.share.lentRecords.map LentRecord.tick).filter fun r => r.grace == some 0 :=
      List.mem_filter.2 ⟨List.mem_map_of_mem hr, (tick_grace r).trans h⟩
    simp [List.isEmpty_eq_false_iff.2 (List.ne_nil_of_mem back)]
  · have turned : (s.share.lentRecords.any fun r => r.grace.isNone && decide (r.term ≤ 1)) = true :=
      List.any_eq_true.2 ⟨r, hr, by rw [hg, decide_eq_true ht]; rfl⟩
    rw [turned]
    rfl

theorem work_grace (hj : s.joined = true) (hl : isLongCycle (fallen i s) = true) (hf : s.share.fresh = false)
    {r : LentRecord} (hr : r ∈ s.share.lentRecords) (h : r.graceEnds = true ∨ r.grace = none ∧ r.term ≤ 1) :
    Event.loanGraceEnd ∈ (cycleWork (fallen i s)).events
      ∧ (cycleWork (fallen i s)).share.lending = (tickLent s.share).lending := by
  have rest := afterLong_moves hl
  rw [shareLongCycle_eq hj] at rest
  have before := untilLent_moves i s
  have same := before.lending (by simp only [untilLongTags, List.mem_append]; decide) hf
  have joined := before.joined.trans hj
  generalize borrowedTerms (shortCounts (fallen i s)) = u at *
  obtain ⟨fresh, own, lent, records⟩ : u.share.fresh = s.share.fresh ∧ u.share.own = s.share.own
      ∧ u.share.lent = s.share.lent ∧ u.share.lentRecords = s.share.lentRecords := lending_eq same
  have form := lentTerms_noted (s := u) (records ▸ hr) h
  have ticks : (lentTerms u).share.lending = (tickLent s.share).lending := by
    rw [form, State.note_share, State.onShare_share, tickLent_back, tickLent_back]
    simp only [Share.lending, fresh, own, lent, records]
  have exam := quarantineStep_moves (s := lentTerms u) ((lentTerms_moves u).joined.trans joined)
  have free : (lentTerms u).share.fresh = false := (congrArg Prod.fst ticks).trans hf
  have m : Moves (examTags ++ afterLongTags) (lentTerms u) (cycleWork (fallen i s)) :=
    (exam.mono (List.subset_append_left _ _)).trans (rest.mono (List.subset_append_right _ _))
  refine ⟨m.events_mono (form ▸ List.mem_cons_self), (m.lending ?_ free).trans ticks⟩
  simp only [afterLongTags, countsOnTags, ringOnTags, chainOnTags, chainTags, List.mem_append]
  decide

/-! ### The wait of the pending ask (R101) -/

/-- No ask pends, or one newly placed. -/
def AskEnded (h : Share) : Prop := h.ask = none ∨ ∃ n, h.ask = some ⟨n, 0⟩

theorem askWaitCycle_ends {a : PendingAsk} (ha : s.share.ask = some a) (hw : 19 ≤ a.wait) :
    Event.askWaitEnd ∈ (askWaitCycle s).events ∧ (askWaitCycle s).share.ask = none := by
  have due : Config.shareWait ≤ a.wait + 1 := Nat.succ_le_succ hw
  unfold askWaitCycle
  rw [ha]
  dsimp only
  rw [if_pos due]
  exact ⟨List.mem_cons_self, rfl⟩

theorem placeRecall_ask (r : LentRecord) (s : State) : (placeRecall r s).share.ask = s.share.ask := by
  unfold placeRecall
  split
  · next t he => exact (congrArg Share.ask (enqueue_share he) : t.share.ask = s.share.ask)
  · next t _ _ he => exact (congrArg Share.ask (enqueue_share he) : t.share.ask = s.share.ask)

theorem placeAsk_asks (n : Nat) (s : State) :
    (placeAsk n s).share.ask = s.share.ask ∨ (placeAsk n s).share.ask = some ⟨n, 0⟩ := by
  unfold placeAsk
  split
  · next he => exact .inl (congrArg Share.ask (enqueue_share he))
  · exact .inr rfl

theorem pressureCycle_ask (h : s.share.ask = none) : AskEnded (pressureCycle s).share := by
  unfold pressureCycle; dsimp only
  generalize hu : (s.onShare fun h =>
    { h with pressure := if overdrawn s then satAdd Config.pressureLimit h.pressure 1 else 0 }) = u
  have none : u.share.ask = none := by rw [← hu]; exact h
  split
  · unfold pressureAct
    split
    · exact .inl none
    · split
      · exact .inl ((placeRecall_ask _ u).trans none)
      · split
        · exact .inl none
        · split
          · exact .inl none
          · next n _ => exact (placeAsk_asks n u).imp (·.trans none) fun h => ⟨n, h⟩
  · exact .inl none

theorem work_askWait (hj : s.joined = true) {a : PendingAsk} (ha : s.share.ask = some a) (hw : 19 ≤ a.wait)
    (hn : NoneQueued .shareAsk s.line) : Event.askWaitEnd ∈ (cycleWork (fallen i s)).events
      ∧ AskEnded (cycleWork (fallen i s)).share := by
  have rest := fromShare_moves (fallen i s)
  have startup : (chained (fallen i s)).startup = s.startup :=
    ((chainCycle_moves _).startup.trans (cabbed_moves _).startup).trans (fallen_startup i s)
  have joined := (joined_of_startup startup).trans hj
  have ask := (chained_ask (i := i) hn).trans ha
  unfold shared at rest
  generalize chained (fallen i s) = c at *
  obtain ⟨noted, none⟩ := askWaitCycle_ends ask hw
  have ended := pressureCycle_ask none
  have form : shareCycle c = shedCycle (voluntaryCycle (pressureCycle (askWaitCycle c))) := if_pos joined
  have press := pressureCycle_moves (askWaitCycle c)
  generalize pressureCycle (askWaitCycle c) = p at *
  have m : Moves (releaseTags ++ statusTags) p (cycleWork (fallen i s)) := by
    rw [form] at rest
    exact (((voluntaryCycle_moves p).mono (List.subset_append_left _ _)).trans
      ((shedCycle_moves _).mono fun _ h => List.mem_append_left _ (by simp [releaseTags, h]))).trans
        (rest.mono (List.subset_append_right _ _))
  refine ⟨m.events_mono (press.events_mono noted), ?_⟩
  rw [AskEnded, m.ask (by decide)]
  exact ended

end

end Sys2Proof.Machine

end

section
/-! PROOFS. The shed returns of a cycle start: what each placement leaves of its own record, and of the records of other
peers (R107, R108, R111). -/

namespace Sys2Proof.Machine

/-- The borrowed records of one peer. -/
def loansOf (n : Nat) (h : Share) : List BorrowedRecord := h.borrowedRecords.filter fun x => x.peer == n

/-- The SHARE-RETURN of a count to a peer. -/
def IsReturn (n k : Nat) (g : Word) (e : Entry) : Prop :=
  e.kind = .shareReturn ∧ e.target = BitVec.ofNat 4 n ∧ e.words = grantWords k g

/-- A record put to RETURNING a count. -/
def BorrowedRecord.returns (r : BorrowedRecord) (k : Nat) : BorrowedRecord :=
  { r with state := .returning, inFlight := some (k, r.grantNumber) }

/-- A record is RETURNING what it sheds and its SHARE-RETURN is queued, or the placement was refused and the loan
dropped (R107, R108). -/
def Shed (r : BorrowedRecord) (n : Nat) (s : State) : Prop :=
  (loansOf r.peer s.share = [r.returns r.shed] ∧ Queued (IsReturn r.peer r.shed r.grantNumber) s.line)
    ∨ (loansOf r.peer s.share = [] ∧ Risen n s.line.counters.refused)

section
variable {s t : State} {i : Inputs} {peer n : Nat}

theorem fixed_return (n k : Nat) (g : Word) : Fixed (IsReturn n k g) where
  muted _ h := h
  settled _ h := h
  stays e h := by
    rw [h.1]
    decide

/-- Records changed but for their peers. -/
theorem filter_map_peer {f : BorrowedRecord → BorrowedRecord} (hf : ∀ x, (f x).peer = x.peer) (n : Nat)
    (l : List BorrowedRecord) : (l.map f).filter (fun x => x.peer == n) = (l.filter fun x => x.peer == n).map f := by
  rw [List.filter_map]
  exact congrArg (fun p => (l.filter p).map f) (funext fun x => congrArg (· == n) (hf x))

/-- Records of other peers changed. -/
theorem filter_map_others {f : BorrowedRecord → BorrowedRecord} (hf : ∀ x, (f x).peer = x.peer)
    (hn : ∀ x, x.peer = n → f x = x) (l : List BorrowedRecord) :
    (l.map f).filter (fun x => x.peer == n) = l.filter fun x => x.peer == n := by
  rw [filter_map_peer hf]
  refine (List.map_congr_left fun x hx => ?_).trans (List.map_id _)
  exact hn x (by simpa using (List.mem_filter.1 hx).2)

theorem failReturn_other (hn : peer ≠ n) (ret : Nat × Word) (h : Share) :
    loansOf n (failReturn peer ret h) = loansOf n h := by
  have apart : ∀ x : BorrowedRecord, x.peer = n → isReturnOf peer ret x = false := fun x hx => by
    simp [isReturnOf, hx, hn.symm]
  unfold failReturn loansOf
  split
  · rfl
  · split
    · dsimp only
      rw [List.filter_filter]
      refine List.filter_congr fun x _ => ?_
      by_cases hx : x.peer = n
      · rw [apart x hx]; simp [hx]
      · simp [hx]
    · refine filter_map_others (fun x => ?_) (fun x hx => by rw [apart x hx]; rfl) _
      split <;> rfl

/-- The return that failed was of the only record of its peer: that loan is dropped (R108). -/
theorem failReturn_own {r : BorrowedRecord} {ret : Nat × Word} {h : Share} (ho : loansOf r.peer h = [r])
    (hi : r.inFlight = some ret) (hg : r.grantNumber = ret.2) : loansOf r.peer (failReturn r.peer ret h) = [] := by
  have mine : isReturnOf r.peer ret r = true := isReturnOf_iff.2 ⟨rfl, hi⟩
  have only : ∀ x ∈ h.borrowedRecords, x.peer = r.peer → x = r := fun x hx hp =>
    List.mem_singleton.1 (ho ▸ List.mem_filter.2 ⟨hx, beq_iff_eq.2 hp⟩)
  have here : r ∈ h.borrowedRecords :=
    (List.mem_filter.1 (show r ∈ loansOf r.peer h by rw [ho]; exact List.mem_singleton_self r)).1
  unfold failReturn loansOf
  split
  · next none => exact absurd mine (List.find?_eq_none.1 none r here)
  · next x hx =>
    obtain rfl := only x (List.mem_of_find?_eq_some hx) (isReturnOf_iff.1 (List.find?_some hx)).1
    rw [if_pos hg]
    refine List.filter_eq_nil_iff.2 fun y hy hp => ?_
    obtain ⟨hy, hr⟩ := List.mem_filter.1 hy
    rw [only y hy (by simpa using hp), mine] at hr
    cases hr

theorem returnRecord_other (hn : peer ≠ n) (k : Nat) (s : State) :
    loansOf n (returnRecord peer k s).share = loansOf n s.share := by
  unfold returnRecord
  split
  · rfl
  · next r hr =>
    have marked : loansOf n (s.onShare fun h => { h with borrowedRecords := h.borrowedRecords.map fun x =>
        if x.peer == peer then { x with state := .returning, inFlight := some (k, x.grantNumber) } else x }).share
        = loansOf n s.share :=
      filter_map_others (fun x => by split <;> rfl) (fun x hx => if_neg (by simpa [hx] using hn.symm)) _
    generalize s.onShare _ = u at marked ⊢
    rw [← marked]
    unfold sendReturn
    dsimp only
    split
    · next he => rw [returnFailed_shareUnit, failReturn_other hn, enqueue_share he]
    · next he => rw [enqueue_share he]

/-- A refused placement is counted. -/
theorem enqueue_refusal {e : Entry} (h : enqueue e s = (t, .refused)) :
    Risen s.line.counters.refused t.line.counters.refused := by
  rcases enqueue_cases e s with ⟨-, he⟩ | ⟨-, -, -, he⟩ | ⟨-, he⟩
  · rw [he] at h; cases h; exact risen_bump _
  · rw [he] at h; cases h
  · have counters : (replaceElders e.kind s).line.counters.refused = s.line.counters.refused :=
      (replaceElders_evicted e.kind s).2
    rw [he] at h
    rcases admitGeneral_cases e.ranked (replaceElders e.kind s) with ⟨-, hc⟩ | ⟨-, j, y, hy, hc⟩ | ⟨-, hc⟩
    · rw [hc] at h; cases h
    · rw [hc] at h; cases h
    · rw [hc] at h; cases h
      rw [← counters]
      exact risen_bump _

theorem Moves.refusals {gs : List Tag} (m : Moves gs s t) : Grown s.line.counters.refused t.line.counters.refused :=
  (m.lineSteps (b := true) fun _ _ _ => rfl).grown.refused

theorem returnRecord_own {r : BorrowedRecord} (ho : loansOf r.peer s.share = [r]) :
    Shed r s.line.counters.refused (returnRecord r.peer r.shed s) := by
  have found : s.share.borrowedRecords.find? (fun x => x.peer == r.peer) = some r := by
    rw [← List.head?_filter]
    exact congrArg List.head? ho
  unfold returnRecord
  rw [found]
  dsimp only
  have marked : loansOf r.peer (s.onShare fun h => { h with borrowedRecords := h.borrowedRecords.map fun x =>
      if x.peer == r.peer then { x with state := .returning, inFlight := some (r.shed, x.grantNumber) } else x }).share
      = [r.returns r.shed] := by
    refine (filter_map_peer (fun x => by split <;> rfl) _ _).trans ?_
    rw [show s.share.borrowedRecords.filter (fun x => x.peer == r.peer) = [r] from ho]
    exact congrArg (fun x => [x]) (if_pos (beq_self_eq_true r.peer))
  have line : (s.onShare fun h => { h with borrowedRecords := h.borrowedRecords.map fun x =>
      if x.peer == r.peer then { x with state := .returning, inFlight := some (r.shed, x.grantNumber) } else x }).line
      = s.line := rfl
  generalize s.onShare _ = u at marked line ⊢
  rw [← line]
  unfold sendReturn
  split
  · next t he =>
    have share := enqueue_share he
    have gone := failReturn_own (r := r.returns r.shed) (h := t.share) (by rw [share]; exact marked) rfl rfl
    exact .inr ⟨by rw [returnFailed_shareUnit]; exact gone, (enqueue_refusal he).then (returnFailed_moves _ _ _ t).refusals⟩
  · next t a hr he =>
    refine .inl ⟨by rw [enqueue_share he]; exact marked, ?_⟩
    obtain ⟨x, hx, rfl | rfl⟩ := enqueue_admitted he hr
    · exact ⟨_, hx, rfl, rfl, rfl⟩
    · exact ⟨_, hx, rfl, rfl, rfl⟩

theorem Shed.grown {r : BorrowedRecord} {k : Nat} (h : Shed r k s) (hn : Grown n k) : Shed r n s :=
  h.imp_right fun ⟨gone, risen⟩ => ⟨gone, hn.risen risen⟩

/-- What follows, if it leaves the peer's records and places no TRIP, leaves what became of its return. -/
theorem Shed.kept {gs : List Tag} {r : BorrowedRecord} (h : Shed r n s) (m : Moves gs s t) (ht : Tag.place .trip ∉ gs)
    (ha : Tag.age ∉ gs) (hl : loansOf r.peer t.share = loansOf r.peer s.share) : Shed r n t := by
  rcases h with ⟨loan, queued⟩ | ⟨gone, risen⟩
  · exact .inl ⟨hl.trans loan, m.queued (fixed_return _ _ _) ht ha queued⟩
  · exact .inr ⟨hl.trans gone, risen.then m.refusals⟩

/-- The shed returns that fall due, each of its own record. -/
def shedReturns (l : List BorrowedRecord) (s : State) : State := l.foldl (fun s r => returnRecord r.peer r.shed s) s

theorem shedReturns_moves (l : List BorrowedRecord) (s : State) : Moves shedTags s (shedReturns l s) :=
  .foldl l (fun t _ _ => returnRecord_moves _ _ t) s

theorem shedReturns_others {l : List BorrowedRecord} (h : l.filter (fun x => x.peer == n) = []) (s : State) :
    loansOf n (shedReturns l s).share = loansOf n s.share := by
  induction l generalizing s with
  | nil => rfl
  | cons x l ih =>
    have apart : ∀ y ∈ x :: l, y.peer ≠ n := fun y hy => by simpa using List.filter_eq_nil_iff.1 h y hy
    exact (ih (List.filter_eq_nil_iff.2 fun y hy => by simpa using apart y (List.mem_cons_of_mem x hy)) _).trans
      (returnRecord_other (apart x List.mem_cons_self) _ s)

theorem shedReturns_shed {l : List BorrowedRecord} {r : BorrowedRecord} (hl : l.filter (fun x => x.peer == r.peer) = [r])
    (ho : loansOf r.peer s.share = [r]) : Shed r s.line.counters.refused (shedReturns l s) := by
  induction l generalizing s with
  | nil => cases hl
  | cons x l ih =>
    by_cases hx : x.peer = r.peer
    · rw [List.filter_cons_of_pos (p := fun x : BorrowedRecord => x.peer == r.peer) (beq_iff_eq.2 hx)] at hl
      obtain ⟨rfl, rest⟩ := List.cons.inj hl
      exact (returnRecord_own ho).kept (shedReturns_moves l _) (by decide) (by decide) (shedReturns_others rest _)
    · rw [List.filter_cons_of_neg (p := fun x : BorrowedRecord => x.peer == r.peer) (by simpa using hx)] at hl
      exact (ih hl ((returnRecord_other hx _ s).trans ho)).grown (returnRecord_moves _ _ s).refusals

/-! ### The share unit's cycle at a SHEDDING record -/

/-- A record waits on to shed. -/
def BorrowedRecord.waits (r : BorrowedRecord) : BorrowedRecord :=
  if r.state == .shedding then { r with shedWait := min Config.shareWait (r.shedWait + 1) } else r

/-- The shed waits counted. -/
def shedCounted (s : State) : State :=
  s.onShare fun h => { h with borrowedRecords := h.borrowedRecords.map BorrowedRecord.waits }

/-- The record's shed return falls due: held is no less than the demand, or the wait is at its limit (R111). -/
def shedDue (s : State) (r : BorrowedRecord) : Bool :=
  r.state == .shedding && (decide (shareDemand s ≤ s.ceiling s.held) || decide (Config.shareWait ≤ r.shedWait))

theorem shedCycle_eq (s : State) : shedCycle s =
    shedReturns ((shedCounted s).share.borrowedRecords.filter (shedDue (shedCounted s))) (shedCounted s) := rfl

theorem shedCycle_shed {r : BorrowedRecord} (ho : loansOf r.peer s.share = [r])
    (hs : shedDue (shedCounted s) r.waits = true) : Shed r.waits s.line.counters.refused (shedCycle s) := by
  have peers : ∀ x : BorrowedRecord, x.waits.peer = x.peer := fun x => by
    unfold BorrowedRecord.waits
    split <;> rfl
  have counted : loansOf r.waits.peer (shedCounted s).share = [r.waits] := by
    rw [peers]
    exact (filter_map_peer peers _ _).trans (congrArg (List.map _) ho)
  rw [shedCycle_eq]
  refine shedReturns_shed ?_ counted
  rw [List.filter_filter, List.filter_congr fun x _ => Bool.and_comm _ _, ← List.filter_filter]
  exact (congrArg (List.filter _) counted).trans (List.filter_cons_of_pos hs)

/-- The voluntary return leaves a SHEDDING record. -/
theorem voluntaryCycle_shedding {r : BorrowedRecord} (ho : loansOf r.peer s.share = [r]) (hr : r.state = .shedding) :
    loansOf r.peer (voluntaryCycle s).share = [r] := by
  unfold voluntaryCycle
  split
  · exact ho
  · next q hq =>
    have holding : q.state = .holding := by simpa using List.find?_some hq
    have other : q.peer ≠ r.peer := fun hp => by
      have same : q ∈ loansOf r.peer s.share := List.mem_filter.2 ⟨List.mem_of_find?_eq_some hq, beq_iff_eq.2 hp⟩
      rw [ho] at same
      rw [List.mem_singleton.1 same, hr] at holding
      cases holding
    split
    · exact ho
    · split
      · exact (returnRecord_other other _ _).trans ho
      · exact ho

theorem loansOf_eq {l : List BorrowedRecord} {r : BorrowedRecord} (h : (l.map (·.peer)).Nodup) (hr : r ∈ l) :
    l.filter (fun x => x.peer == r.peer) = [r] := by
  induction l with
  | nil => cases hr
  | cons x l ih =>
    obtain ⟨apart, nodup⟩ := List.nodup_cons.1 h
    rcases List.mem_cons.1 hr with rfl | hm
    · rw [List.filter_cons_of_pos (p := fun x : BorrowedRecord => x.peer == r.peer)
        (beq_self_eq_true r.peer), List.filter_eq_nil_iff.2]
      exact fun y hy hp => apart (List.mem_map.2 ⟨y, hy, beq_iff_eq.1 hp⟩)
    · rw [List.filter_cons_of_neg (p := fun x : BorrowedRecord => x.peer == r.peer)
        fun hp => apart (List.mem_map.2 ⟨r, hm, (beq_iff_eq.1 hp).symm⟩)]
      exact ih nodup hm

theorem waits_shedding {r : BorrowedRecord} (h : r.state = .shedding) :
    r.waits = { r with shedWait := min 20 (r.shedWait + 1) } := by
  unfold BorrowedRecord.waits
  rw [h]
  rfl

theorem shedDue_waits {r : BorrowedRecord} (h : r.state = .shedding)
    (hc : s.role.isAxis = false ∨ s.drive.demand = 0 ∨ 19 ≤ r.shedWait) : shedDue s r.waits = true := by
  unfold shedDue shareDemand
  rw [waits_shedding h]
  rcases hc with hc | hc | hc
  · simp [h, hc]
  · simp [h, hc]
  · have limit : Config.shareWait ≤ min 20 (r.shedWait + 1) := show 20 ≤ _ by omega
    simp [h, limit]

theorem shareCycle_shed (hj : s.joined = true) {r : BorrowedRecord} (ho : loansOf r.peer s.share = [r])
    (hr : r.state = .shedding) (hc : s.role.isAxis = false ∨ s.drive.demand = 0 ∨ 19 ≤ r.shedWait) :
    Shed r.waits s.line.counters.refused (shareCycle s) := by
  rw [show shareCycle s = shedCycle (voluntaryCycle (pressureCycle (askWaitCycle s))) from if_pos hj]
  have early : Moves pressureTags s (pressureCycle (askWaitCycle s)) :=
    ((askWaitCycle_moves s).mono (List.subset_append_left _ _)).trans
      ((pressureCycle_moves _).mono (List.subset_append_right waitTags _))
  generalize pressureCycle (askWaitCycle s) = p at early ⊢
  have only : loansOf r.peer p.share = [r] := by
    unfold loansOf
    rw [early.loans (by decide)]
    exact ho
  have voluntary := voluntaryCycle_moves p
  have alone := voluntaryCycle_shedding only hr
  generalize voluntaryCycle p = v at alone voluntary ⊢
  have drive : (shedCounted v).drive = s.drive :=
    (voluntary.block .drive (by decide)).trans (early.block .drive (by decide))
  have role : (shedCounted v).role = s.role := voluntary.role.trans early.role
  exact (shedCycle_shed alone (shedDue_waits hr (by rw [role, drive]; exact hc))).grown
    (early.refusals.trans voluntary.refusals)

theorem work_shed (hj : s.joined = true) (hl : isLongCycle (fallen i s) = false) (hn : NoneQueued .shareReturn s.line)
    (hd : (s.share.borrowedRecords.map (·.peer)).Nodup) (hw : s.role = .walk → s.walk.state ≠ .returning)
    {r : BorrowedRecord} (hr : r ∈ s.share.borrowedRecords) (hs : r.state = .shedding)
    (hc : s.role.isAxis = false ∨ (cycleWork (fallen i s)).drive.demand = 0 ∨ 19 ≤ r.shedWait) :
    Shed r.waits s.line.counters.refused (cycleWork (fallen i s)) := by
  have drive : (cycleWork (fallen i s)).drive = (chained (fallen i s)).drive :=
    (fromChain_moves _).block .drive (by simp only [lateTags, List.all_append]; decide)
  rw [drive] at hc
  have rest := fromShare_moves (fallen i s)
  have moved : Moves (earlyTags ++ chainTags) (fallen i s) (chained (fallen i s)) :=
    ((cabbed_moves _).mono (List.subset_append_left _ _)).trans
      ((chainCycle_moves _).mono (List.subset_append_right _ _))
  have startup : (chained (fallen i s)).startup = s.startup := moved.startup.trans (fallen_startup i s)
  have loans : (chained (fallen i s)).share.borrowedRecords = s.share.borrowedRecords :=
    (chained_loans hl hw (ticked_noneQueued hn)).2
  have counts : Grown s.line.counters.refused (chained (fallen i s)).line.counters.refused :=
    Grown.trans (m := (fallen i s).line.counters.refused) (fallen_moves i s).refusals moved.refusals
  unfold shared at rest
  generalize chained (fallen i s) = c at *
  have only : loansOf r.peer c.share = [r] := by
    unfold loansOf
    rw [loans]
    exact loansOf_eq hd hr
  have shed := shareCycle_shed ((joined_of_startup startup).trans hj) only hs (by rw [role_of_startup startup]; exact hc)
  exact (shed.kept rest (by decide) (by decide) (by
    unfold loansOf
    rw [rest.loans (by decide)])).grown counts

end

end Sys2Proof.Machine

end

section
/-! PROOFS. The pressure act and the voluntary return, each from the event that the share unit's cycle notes (R100, R107). -/

namespace Sys2Proof.Machine

section
variable {s t : State} {i : Inputs} {e : Event} {n : Nat}

/-! ### An event that the share unit's cycle notes -/

/-- The moves up to the share unit's cycle. -/
def untilShareTags : List Tag := fallTags ++ (earlyTags ++ chainTags)

theorem untilShare_moves (i : Inputs) (s : State) : Moves untilShareTags (ticked s) (chained (fallen i s)) :=
  ((fallen_moves i s).mono (List.subset_append_left _ _)).trans
    ((((cabbed_moves _).mono (List.subset_append_left _ _)).trans
      ((chainCycle_moves _).mono (List.subset_append_right _ _))).mono (List.subset_append_right _ _))

/-- The event is noted by the share unit's cycle, the station joined. -/
theorem shareCycle_noted (h : e ∈ (cycleWork (fallen i s)).events) (hs : Tag.note e ∉ statusTags)
    (hb : Tag.note e ∉ untilShareTags) : e ∉ (chained (fallen i s)).events ∧ (chained (fallen i s)).joined = true
      ∧ e ∈ (shareCycle (chained (fallen i s))).events := by
  have quiet : e ∉ (chained (fallen i s)).events := fun he =>
    absurd ((untilShare_moves i s).events_sub he) (fun h => h.elim (fun h => nomatch h) hb)
  have noted : e ∈ (shareCycle (chained (fallen i s))).events := ((fromShare_moves _).events_none hs).1 h
  refine ⟨quiet, ?_, noted⟩
  by_contra hj
  rw [shareCycle, if_neg hj] at noted
  exact quiet noted

/-- The share unit's cycle of a joined station, in its two halves. -/
theorem shareCycle_eq (hj : s.joined = true) :
    shareCycle s = shedCycle (voluntaryCycle (pressureCycle (askWaitCycle s))) := if_pos hj

/-! ### The pressure act (R100) -/

/-- A SHARE-RECALL or a SHARE-ASK. -/
def IsClaim (e : Entry) : Prop := e.kind = .shareRecall ∨ e.kind = .shareAsk

theorem fixed_claim : Fixed IsClaim where
  muted _ h := h
  settled _ h := h
  stays e h := by
    rcases h with h | h <;> rw [h] <;> decide

/-- The pressure count stands, or a claim admitted has set it to 0. -/
def Pressed (n : Nat) (s : State) : Prop := s.share.pressure = n ∨ s.share.pressure = 0 ∧ Queued IsClaim s.line

theorem admitted_claim {x : Entry} {a : Admission} (h : enqueue x s = (t, a)) (ha : a ≠ .refused) (hx : IsClaim x) :
    Queued IsClaim t.line := by
  obtain ⟨y, hy, rfl | rfl⟩ := enqueue_admitted h ha
  · exact ⟨_, hy, hx⟩
  · exact ⟨_, hy, hx⟩

theorem placeRecall_pressed (r : LentRecord) (s : State) : Pressed s.share.pressure (placeRecall r s) := by
  unfold placeRecall
  split
  · next he => exact .inl (congrArg Share.pressure (enqueue_share he))
  · next t a ha he => exact .inr ⟨rfl, admitted_claim (t := t) he ha (.inl rfl)⟩

theorem placeAsk_pressed (peer : Nat) (s : State) : Pressed s.share.pressure (placeAsk peer s) := by
  unfold placeAsk
  split
  · next he => exact .inl (congrArg Share.pressure (enqueue_share he))
  · next t a ha he => exact .inr ⟨rfl, admitted_claim (t := t) he ha (.inr rfl)⟩

theorem pressureAct_noted (h : Event.pressure ∈ (pressureAct s).events) (hn : Event.pressure ∉ s.events) :
    s.share.fresh = false ∧ Pressed s.share.pressure (pressureAct s) := by
  unfold pressureAct at h ⊢
  split at h
  · exact absurd h hn
  · next hf =>
    rw [if_neg hf]
    refine ⟨by simpa using hf, ?_⟩
    split at h
    · exact placeRecall_pressed _ s
    · split at h
      · exact absurd h hn
      · next ha =>
        rw [if_neg ha]
        split at h
        · exact absurd h hn
        · exact placeAsk_pressed _ s

theorem pressureCycle_noted (h : Event.pressure ∈ (pressureCycle s).events) (hn : Event.pressure ∉ s.events) :
    4 ≤ s.share.pressure ∧ s.share.fresh = false ∧ Pressed 5 (pressureCycle s) := by
  have share : ∃ u : State, pressureCycle s = (if u.share.pressure = 5 then pressureAct u else u) ∧ u.events = s.events
      ∧ u.share.fresh = s.share.fresh
      ∧ u.share.pressure = if overdrawn s then min 5 (s.share.pressure + 1) else 0 := ⟨_, rfl, rfl, rfl, rfl⟩
  obtain ⟨u, form, events, fresh, count⟩ := share
  rw [form] at h ⊢
  rw [← events] at hn
  split at h
  · next hp =>
    rw [if_pos hp]
    obtain ⟨free, pressed⟩ := pressureAct_noted h hn
    refine ⟨?_, fresh ▸ free, by rwa [hp] at pressed⟩
    rw [hp] at count
    split at count
    · omega
    · cases count
  · exact absurd h hn

theorem due_pressure (h : fallsDue .pressure i s = true) : 4 ≤ s.share.pressure
    ∧ (cycleWork (fallen i s)).share.fresh = false ∧ Pressed 5 (cycleWork (fallen i s)) := by
  obtain ⟨quiet, joined, noted⟩ := shareCycle_noted (fallsDue_iff.1 h).2 (by decide)
    (by simp only [untilShareTags, earlyTags, chainTags, List.mem_append]; decide)
  have pressure : (chained (fallen i s)).share.pressure = s.share.pressure := (untilShare_moves i s).pressure
    (by simp only [untilShareTags, earlyTags, chainTags, List.mem_append]; decide)
  have rest := fromShare_moves (fallen i s)
  unfold shared at rest
  generalize chained (fallen i s) = c at *
  rw [shareCycle_eq joined] at noted rest
  have wait := askWaitCycle_moves c
  have press := pressureCycle_moves (askWaitCycle c)
  have release : Moves (releaseTags ++ statusTags) (pressureCycle (askWaitCycle c)) (cycleWork (fallen i s)) :=
    (((voluntaryCycle_moves _).mono (List.subset_append_left _ _)).trans
      ((shedCycle_moves _).mono fun _ h => List.mem_append_left _ (by simp [releaseTags, h]))).trans
        (rest.mono (List.subset_append_right _ _))
  have early : Event.pressure ∈ (pressureCycle (askWaitCycle c)).events :=
    ((voluntaryCycle_moves _).events_none (by decide)).1 (((shedCycle_moves _).events_none (by decide)).1 noted)
  obtain ⟨count, fresh, pressed⟩ := pressureCycle_noted early fun he => quiet ((wait.events_none (by decide)).1 he)
  refine ⟨?_, ((release.fresh (by decide)).trans (press.fresh (by decide))).trans fresh, ?_⟩
  · rwa [wait.pressure (by decide), pressure] at count
  · have stands := release.pressure (by decide)
    exact pressed.imp stands.trans fun ⟨zero, claim⟩ =>
      ⟨stands.trans zero, release.queued fixed_claim (by decide) (by decide) claim⟩

/-! ### The voluntary return (R107) -/

/-- A record is RETURNING, or fewer than `n` are borrowed. -/
def Returning (n : Nat) (s : State) : Prop :=
  (∃ r ∈ s.share.borrowedRecords, r.state = .returning) ∨ s.share.borrowedRecords.length < n

/-- A record put to RETURNING where it is of the peer. -/
def BorrowedRecord.returnsIf (peer k : Nat) (x : BorrowedRecord) : BorrowedRecord :=
  if x.peer == peer then x.returns k else x

/-- A placement of a return leaves the records marked, or drops one. -/
theorem returnRecord_marks (peer k : Nat) (s : State) : (returnRecord peer k s).share.borrowedRecords
      = s.share.borrowedRecords.map (BorrowedRecord.returnsIf peer k)
    ∨ (returnRecord peer k s).share.borrowedRecords.length < s.share.borrowedRecords.length := by
  unfold returnRecord
  split
  · next none =>
    refine .inl ((List.map_id _).symm.trans (List.map_congr_left fun x hx => ?_))
    exact (if_neg (List.find?_eq_none.1 none x hx)).symm
  · next r hr =>
    have marked : (s.onShare fun h => { h with borrowedRecords := h.borrowedRecords.map fun x =>
        if x.peer == peer then { x with state := .returning, inFlight := some (k, x.grantNumber) } else x
          }).share.borrowedRecords = s.share.borrowedRecords.map (BorrowedRecord.returnsIf peer k) := rfl
    dsimp only
    generalize s.onShare _ = u at marked ⊢
    unfold sendReturn
    split
    · next t he =>
      rw [returnFailed_shareUnit, enqueue_share he]
      unfold failReturn
      split
      · exact .inl marked
      · next y hy =>
        have here := List.mem_of_find?_eq_some hy
        obtain ⟨hp, hi⟩ := isReturnOf_iff.1 (List.find?_some hy)
        rw [marked] at here
        obtain ⟨x, -, rfl⟩ := List.mem_map.1 here
        have own : x.peer = peer := by
          rw [← hp]
          unfold BorrowedRecord.returnsIf
          split <;> rfl
        have number : (x.returnsIf peer k).grantNumber = r.grantNumber := by
          rw [BorrowedRecord.returnsIf, if_pos (beq_iff_eq.2 own)] at hi ⊢
          exact congrArg Prod.snd (Option.some.inj hi)
        rw [if_pos number]
        refine .inr ?_
        refine (List.length_filter_lt_length_iff_exists.2 ⟨_, List.mem_of_find?_eq_some hy, ?_⟩).trans_eq
          ((congrArg List.length marked).trans (List.length_map _))
        rw [List.find?_some hy]
        decide
    · next he => exact .inl (by rw [enqueue_share he]; exact marked)

theorem returnRecord_returning {peer k : Nat} (h : (∃ x ∈ s.share.borrowedRecords, x.peer = peer) ∨ Returning n s)
    (hn : s.share.borrowedRecords.length ≤ n) : Returning n (returnRecord peer k s) := by
  rcases returnRecord_marks peer k s with hm | hm
  · rcases h with ⟨x, hx, hp⟩ | ⟨x, hx, hs⟩ | h
    · exact .inl ⟨x.returnsIf peer k, hm ▸ List.mem_map_of_mem hx,
        by rw [BorrowedRecord.returnsIf, if_pos (beq_iff_eq.2 hp)]; rfl⟩
    · refine .inl ⟨x.returnsIf peer k, hm ▸ List.mem_map_of_mem hx, ?_⟩
      unfold BorrowedRecord.returnsIf
      split
      · rfl
      · exact hs
    · exact .inr (by rwa [hm, List.length_map])
  · exact .inr (hm.trans_le hn)

theorem shedReturns_returning (l : List BorrowedRecord) (h : Returning n s) (hn : s.share.borrowedRecords.length ≤ n) :
    Returning n (shedReturns l s) := by
  induction l generalizing s with
  | nil => exact h
  | cons r l ih =>
    exact ih (returnRecord_returning (.inr h) hn) ((returnRecord_moves r.peer r.shed s).loansShrink.trans hn)

theorem shedCycle_returning (h : Returning n s) (hn : s.share.borrowedRecords.length ≤ n) : Returning n (shedCycle s) := by
  rw [shedCycle_eq]
  refine shedReturns_returning _ ?_ ((List.length_map _).trans_le hn)
  rcases h with ⟨r, hr, hs⟩ | h
  · refine .inl ⟨r.waits, List.mem_map_of_mem hr, ?_⟩
    unfold BorrowedRecord.waits
    split <;> exact hs
  · exact .inr ((List.length_map _).trans_lt h)

theorem voluntaryCycle_noted (h : Event.voluntaryReturn ∈ (voluntaryCycle s).events)
    (hq : Event.voluntaryReturn ∉ s.events) (hn : s.share.borrowedRecords.length ≤ n) :
    19 ≤ s.share.voluntary ∧ (voluntaryCycle s).share.voluntary = 0 ∧ Returning n (voluntaryCycle s) := by
  unfold voluntaryCycle at h ⊢
  split at h
  · exact absurd h hq
  · next r hr =>
    split at h
    · exact absurd h hq
    · next hv =>
      rw [if_neg hv]
      split at h
      · next hw =>
        rw [if_pos hw]
        have m := returnRecord_moves r.peer r.count (s.onShare fun h => { h with voluntary := 0 })
        exact ⟨Nat.le_of_succ_le_succ hw, m.voluntary (by decide),
          returnRecord_returning (s := s.onShare fun h => { h with voluntary := 0 })
          (.inl ⟨r, List.mem_of_find?_eq_some hr, rfl⟩) hn⟩
      · exact absurd h hq

theorem due_voluntary (h : fallsDue .voluntaryReturn i s = true) : 19 ≤ s.share.voluntary
    ∧ (cycleWork (fallen i s)).share.voluntary = 0
    ∧ Returning s.share.borrowedRecords.length (cycleWork (fallen i s)) := by
  obtain ⟨quiet, joined, noted⟩ := shareCycle_noted (fallsDue_iff.1 h).2 (by decide)
    (by simp only [untilShareTags, earlyTags, chainTags, List.mem_append]; decide)
  have count : (chained (fallen i s)).share.voluntary = s.share.voluntary := (untilShare_moves i s).voluntary
    (by simp only [untilShareTags, earlyTags, chainTags, List.mem_append]; decide)
  have fewer : (chained (fallen i s)).share.borrowedRecords.length ≤ s.share.borrowedRecords.length :=
    (untilShare_moves i s).loansShrink
  have rest := fromShare_moves (fallen i s)
  unfold shared at rest
  generalize chained (fallen i s) = c at *
  rw [shareCycle_eq joined] at noted rest
  have early : Moves pressureTags c (pressureCycle (askWaitCycle c)) :=
    ((askWaitCycle_moves c).mono (List.subset_append_left _ _)).trans
      ((pressureCycle_moves _).mono (List.subset_append_right waitTags _))
  generalize pressureCycle (askWaitCycle c) = p at *
  have fewer' := early.loansShrink.trans fewer
  have voluntary := (voluntaryCycle_moves p).loansShrink.trans fewer'
  have shed := shedCycle_moves (voluntaryCycle p)
  obtain ⟨waited, zero, returning⟩ := voluntaryCycle_noted ((shed.events_none (by decide)).1 noted)
    (fun he => quiet ((early.events_none (by decide)).1 he)) fewer'
  refine ⟨?_, ((rest.voluntary (by decide)).trans (shed.voluntary (by decide))).trans zero, ?_⟩
  · rwa [early.voluntary (by decide), count] at waited
  · have after := shedCycle_returning returning voluntary
    rwa [Returning, ← rest.loans (by decide)] at after

/-! ### Whether the expiry is a long cycle -/

theorem longCycle_falls : isLongCycle (fallen i s) = true ↔ s.globals.longLength ≤ s.time.longCount + 1 := by
  unfold isLongCycle
  rw [fallen_globals, fallen_time]
  exact decide_eq_true_iff

end

end Sys2Proof.Machine

open Sys2Proof Sys2Proof.Machine

/-- Settles O48: each event is noted by the stage of the share unit that its rule names, and what that stage leaves
stands to the end of the cycle start. -/
theorem shareEventsFall : Obligations.ShareEventsFall := by
  refine ⟨fun i s hr hj => ⟨fun hl hf hq ht hp ho => ?_, fun hl hn r hm ht => ?_, fun hl hf => ?_, fun a ha hw hn => ?_,
    fun hl hn hd hw => ?_⟩, fun i s => ⟨fun h => ?_, fun h => ?_⟩⟩
  · obtain ⟨noted, fresh, own, cleared⟩ := work_quarantine (i := i) hj (longCycle_falls.2 hl) hf hq ht hp ho
    exact ⟨_, exec_falls hr noted, fresh, own, cleared⟩
  · obtain ⟨noted, gone⟩ := work_termOut (i := i) hj (longCycle_falls.2 hl) hn hm ht
    exact ⟨_, exec_falls hr noted, gone⟩
  · rintro ends back ⟨r, hm, h⟩
    obtain ⟨noted, lending⟩ := work_grace (i := i) hj (longCycle_falls.2 hl) hf hm h
    rw [tickLent_back] at lending
    obtain ⟨-, own, lent, records⟩ := lending_eq lending
    refine ⟨_, exec_falls hr noted, own, lent, fun x hx hg ht => ?_, ?_⟩
    · rw [records]
      have stays : (!x.graceEnds) = true := by rw [LentRecord.graceEnds, hg]; rfl
      have ticks : x.tick = { x with term := 0, grace := some 2 } := by
        rw [LentRecord.tick, hg]
        exact if_pos ht
      exact ticks ▸ List.mem_map_of_mem (List.mem_filter.2 ⟨hx, stays⟩)
    · rw [records, List.length_map]
      rfl
  · obtain ⟨noted, ended⟩ := work_askWait (i := i) hj ha hw hn
    exact ⟨_, exec_falls hr noted, ended⟩
  · refine ⟨_, exec_cycleStart hr, fun r hm hs hc => ?_⟩
    have walk : s.role = .walk → s.walk.state ≠ .returning := fun h => hw.resolve_left fun hne => hne h
    have short : isLongCycle (fallen i s) = false := by
      rw [Bool.eq_false_iff]
      exact fun h => absurd (longCycle_falls.1 h) hl.not_ge
    have shed := work_shed (i := i) hj short hn hd walk hm hs hc
    rw [waits_shedding hs] at shed
    rcases shed with ⟨loan, queued⟩ | ⟨gone, risen⟩
    · have here : _ ∈ loansOf r.peer (cycleWork (fallen i s)).share := loan ▸ List.mem_singleton_self _
      exact .inl ⟨⟨_, (List.mem_filter.1 here).1, rfl⟩, queued⟩
    · exact .inr ⟨fun x hx => by simpa using List.filter_eq_nil_iff.1 gone x hx, risen.imp And.left id⟩
  · obtain ⟨count, fresh, pressed⟩ := due_pressure h
    exact ⟨_, exec_due h, count, fresh, pressed⟩
  · exact ⟨_, exec_due h, due_voluntary h⟩

end

section
/-! PROOFS. Mark capture results at the rope, the swing and the walk (R117, R135 to R137, R158, R159). -/

namespace Sys2Proof.Machine

section
variable {u : UnitIndex} {before : Byte} {index : Option Bool} {s t y : State} {r : CaptureResult}

/-! ### A master edge delivers its result -/

/-- The unit's master edge is taken: its result goes to the axis function. -/
theorem captureAt_delivers (hj : s.joined = true) (hm : showsMaster (captureSel u s.params) before s.inputs.din = true) :
    ∃ r y, captureAt u before index s = deliverResult u r y ∧ Frame [.unit0, .unit1] s y
      ∧ ((captureAt u before index s).captureUnit u).lastResult = some r ∧ r.masterSnapshot = s.encoder := by
  have f := slaveShown_frame u before index s
  have joined : (slaveShown u before index s).joined = true := joined_of_frame f (by decide) |>.trans hj
  have encoder : (slaveShown u before index s).encoder = s.encoder := f.1 .encoder (by decide)
  rw [captureAt_eq, if_pos hm]
  generalize slaveShown u before index s = v at f joined encoder
  unfold masterEdgeAt
  rw [if_pos joined]
  dsimp only
  refine ⟨_, _, rfl, f.trans (onUnit_frame u v _), ?_, encoder⟩
  rw [deliverResult_units, (captureUnit_onUnit u _ v).1]
  rfl

/-- Unit 1 has a use at the walk alone (TABLE 2-4). -/
theorem captureAt_unit1 (hr : s.role ≠ .walk) : Frame [.unit0, .unit1] s (captureAt .unit1 before index s) := by
  have f := slaveShown_frame .unit1 before index s
  rw [captureAt_eq]
  refine .ite ?_ f
  refine f.trans ?_
  have role : (slaveShown .unit1 before index s).role = s.role := role_of_startup (f.1 .startup (by decide))
  generalize slaveShown .unit1 before index s = v at role
  unfold masterEdgeAt
  refine .ite ?_ (.refl _ v)
  dsimp only
  have recorded := onUnit_frame .unit1 v (recordResult (captureResult (captureSel .unit1 v.params) (v.captureUnit .unit1) v.now
    v.encoder v.units))
  have away : ∀ (r : CaptureResult) (w : State), w.role ≠ .walk → deliverResult .unit1 r w = w := by
    intro r w hw
    unfold deliverResult
    cases h : w.role with
    | walk => exact absurd h hw
    | _ => rfl
  rw [away _ _ (by rw [role_of_startup (recorded.1 .startup (by decide)), role]; exact hr)]
  exact recorded

/-- The sample of a unit's master edge command, before its captures: `b` held the discrete inputs before it. -/
structure EdgeSample (u : UnitIndex) (s x : State) (b : Byte) : Prop where
  frame : Frame [.inputs, .drive] s x
  hook : HookOnly s.drive x.drive
  own : showsMaster (captureSel u x.params) b x.inputs.din = true
  others : ∀ v, ¬ selects (captureSel v s.params) (captureSel u s.params).masterInput (captureSel u s.params).masterRising →
    showsSlave (captureSel v x.params) b x.inputs.din none = false ∧ showsMaster (captureSel v x.params) b x.inputs.din = false
  form : masterEdge u s = captureAt .unit1 b none (captureAt .unit0 b none x)

/-- A master edge command away from the cab: unit 0, then unit 1, at one sample. -/
theorem masterEdge_sample (u : UnitIndex) (hj : s.joined = true) (hr : s.role ≠ .cab) : ∃ x b, EdgeSample u s x b := by
  let sel := captureSel u s.params
  let i : Inputs := { s.inputs with din := withInput s.inputs.din sel.masterInput sel.masterRising }
  have away : ¬ (s.role = .cab ∧ s.joined = true) := fun h => hr h.1
  have hook : HookOnly s.drive (sampled i s).drive := by
    rw [sampled_other away]
    exact watchOwned_hookOnly { s with inputs := i }
  have same := sampled_same i s
  have din : (sampled i s).inputs.din = withInput s.inputs.din sel.masterInput sel.masterRising := congrArg Inputs.din same.inputs
  refine ⟨sampled i s, withInput s.inputs.din sel.masterInput (!sel.masterRising),
    ⟨sampled_frame away, hook, ?_, fun v hv => ?_, ?_⟩⟩
  · rw [params_of_startup same.startup, din]
    exact (showsMaster_inputChange _ _ _ _).2 ⟨rfl, rfl⟩
  · rw [params_of_startup same.startup, din]
    exact ⟨Bool.eq_false_iff.2 fun h => hv (.inl ((showsSlave_inputChange _ _ _ _).1 h)),
      Bool.eq_false_iff.2 fun h => hv (.inr ((showsMaster_inputChange _ _ _ _).1 h))⟩
  · rw [masterEdge_joined hj]
    rfl

/-- The state that a delivered result finds: the sample, and the units. -/
structure Delivered (s y : State) : Prop where
  frame : Frame [.inputs, .drive, .unit0, .unit1] s y
  hook : HookOnly s.drive y.drive

theorem EdgeSample.delivered {x : State} {b : Byte} (h : EdgeSample u s x b) (f : Frame [.unit0, .unit1] x y) : Delivered s y :=
  ⟨(h.frame.mono (by decide)).trans (f.mono (by decide)), by
    rw [show y.drive = x.drive from f.1 .drive (by decide)]; exact h.hook⟩

/-- Unit 0's master edge at a rope or swing station. -/
theorem masterEdge_unit0 (hj : s.joined = true) (hr : s.role ≠ .cab) (hw : s.role ≠ .walk) :
    ∃ r y, Delivered s y ∧ Frame [.unit0, .unit1] (deliverResult .unit0 r y) (masterEdge .unit0 s)
      ∧ (masterEdge .unit0 s).unit0.lastResult = some r ∧ r.masterSnapshot = s.encoder := by
  obtain ⟨x, b, sample⟩ := masterEdge_sample .unit0 hj hr
  have startup : x.startup = s.startup := sample.frame.1 .startup (by decide)
  obtain ⟨r, y, capture, f, last, snapshot⟩ := captureAt_delivers (index := none) ((joined_of_startup startup).trans hj)
    sample.own
  have same : (captureAt .unit0 b none x).startup = s.startup := (captureAt_same .unit0 b none x).startup.trans startup
  have rest := captureAt_unit1 (before := b) (index := none) (by rw [role_of_startup same]; exact hw)
  have units := (captureAt_units (u := .unit1) (before := b) (index := none) ((joined_of_startup same).trans hj)).2
  rw [← sample.form] at rest units
  exact ⟨r, y, sample.delivered f, capture ▸ rest, (congrArg CaptureUnit.lastResult units).trans last,
    snapshot.trans (sample.frame.1 .encoder (by decide))⟩

/-- A master edge that the other unit does not select. -/
theorem masterEdge_alone (u : UnitIndex) (hj : s.joined = true) (hr : s.role ≠ .cab)
    (hn : ¬ selects (captureSel (otherUnit u) s.params) (captureSel u s.params).masterInput (captureSel u s.params).masterRising) :
    ∃ r y, Delivered s y ∧ masterEdge u s = deliverResult u r y := by
  obtain ⟨x, b, sample⟩ := masterEdge_sample u hj hr
  obtain ⟨slave, master⟩ := sample.others (otherUnit u) hn
  have joined : x.joined = true := (joined_of_startup (sample.frame.1 .startup (by decide))).trans hj
  obtain ⟨r, y, capture, f, -, -⟩ := captureAt_delivers (index := none) joined sample.own
  refine ⟨r, y, sample.delivered f, sample.form.trans ?_⟩
  cases u with
  | unit0 =>
    have same := captureAt_same .unit0 b none x
    refine (captureAt_quiet ?_ ?_).trans capture
    · rw [params_of_startup same.startup, same.inputs]; exact slave
    · rw [params_of_startup same.startup, same.inputs]; exact master
  | unit1 =>
    rw [captureAt_quiet (u := .unit0) slave master]
    exact capture

/-! ### The rope's base (R117) -/

/-- The rope after a result: calibrated or corrected, or as it was where the correction is above 50 cm. -/
theorem ropeResult_rope (n : DWord) (s : State) :
    (s.rope.calibrated = true →
        50 < ((s.params.rope.refPosition : Int) - (ropeLength n s.params.rope.countsPerMetre + s.rope.base)).natAbs →
        (ropeResult n s).rope = s.rope)
      ∧ (s.rope.calibrated = false
          ∨ ((s.params.rope.refPosition : Int) - (ropeLength n s.params.rope.countsPerMetre + s.rope.base)).natAbs ≤ 50 →
        (ropeResult n s).rope = { s.rope with
          base := s.params.rope.refPosition - ropeLength n s.params.rope.countsPerMetre, calibrated := true }) := by
  have raised : ∀ u : State, (raiseQuiet .ropeMarkMismatch none u).rope = u.rope := fun u =>
    (raiseQuiet_frame _ _ u).1 .rope (by decide)
  have cleared : ∀ u : State, (clearAlarm .ropeMarkMismatch none u).rope = u.rope := fun u =>
    (clearAlarm_frame _ _ u).1 .rope (by decide)
  have tolerance : Config.ropeTolerance = (50 : Int) := rfl
  unfold ropeResult; dsimp only
  refine ⟨fun hc he => ?_, fun h => ?_⟩
  · rw [if_neg (by rw [hc]; decide), if_neg (by rw [tolerance]; omega), raised]
  · split
    · rfl
    · next hc =>
      rw [if_pos (by rw [tolerance]; exact_mod_cast h.resolve_left fun hf => hc (by rw [hf]; rfl)), cleared]
      rfl

/-! ### The swing's base (R135 to R137) -/

theorem angleDistance_spec (a b : Int) : -1800 ≤ angleDistance a b ∧ angleDistance a b ≤ 1799
    ∧ (a + angleDistance a b - b) % 3600 = 0 := by
  unfold angleDistance
  omega

/-- A distance in range is the shortest one. -/
theorem angleDistance_unique {a b d : Int} (hlo : -1800 ≤ d) (hhi : d ≤ 1799) (h : (a + d - b) % 3600 = 0) :
    angleDistance a b = d := by
  unfold angleDistance
  omega

/-- The swing after a usable result. -/
def swingMarked (e : Int) (w : Swing) : Swing :=
  { w with markError := e, calibrated := true, circle := { w.circle with base := moveBase w.circle.base e } }

theorem swingResult_unusable (h : swingUsable r = none) : swingResult r s = s := by
  unfold swingResult
  rw [h]

theorem swingResult_corrects {n : DWord} (h : swingUsable r = some n)
    (hc : s.swing.calibrated = false ∨ (swingError s n).natAbs ≤ s.params.swing.markTolerance) :
    (swingResult r s).swing = swingMarked (swingError s n) s.swing
      ∧ (s.swing.calibrated = true → s.joined = true → ListsOrdered s →
          KeyCleared .swingMarkMismatch none (swingResult r s).alarms.list) := by
  unfold swingResult
  rw [h]
  dsimp only
  rw [if_neg fun ⟨hw, ht⟩ => hc.elim (fun hf => by rw [hf] at hw; cases hw) ht.not_ge]
  split
  · refine ⟨(clearAlarm_frame _ _ _).1 .swing (by decide), fun _ hj ho => ?_⟩
    have key : ∀ u : State, u.startup = s.startup → u.alarms = s.alarms →
        KeyCleared .swingMarkMismatch none (clearAlarm .swingMarkMismatch none u).alarms.list := fun u hu ha _ hr hk hd =>
      clearAlarm_state ((joined_of_startup hu).trans hj) (by rw [ha]; exact ho.listKeys) hr hk hd
    exact key _ rfl rfl
  · next hw => exact ⟨rfl, fun hc => absurd hc hw⟩

theorem swingResult_mismatch {n : DWord} (h : swingUsable r = some n) (hc : s.swing.calibrated = true)
    (ht : s.params.swing.markTolerance < (swingError s n).natAbs) (hj : s.joined = true) :
    (swingResult r s).swing = { s.swing with markError := swingError s n }
      ∧ Held .swingMarkMismatch s.alarms.lost (swingResult r s) := by
  unfold swingResult
  rw [h]
  dsimp only
  rw [if_pos ⟨hc, ht⟩]
  exact ⟨(raiseQuiet_frame _ _ _).1 .swing (by decide),
    held_raise (s := s.onSwing fun w => { w with markError := swingError s n }) hj _ _ (.refl _)⟩

/-! ### The walk's step (R158, R159) -/

/-- The walk at a top centre, before it leaves STEPPING (R157, R158). -/
def topCentred (r : CaptureResult) (s : State) : Walk :=
  { s.walk with
    circle := { s.walk.circle with
      base := moveBase s.walk.circle.base (-(snapshotAngle s.walk.circle r.masterSnapshot s.params.walk.countsPerRev : Int)) },
    referenced := true, stepCounter := bump s.walk.stepCounter, camPhase := r.slave.map (·.difference) }

theorem walkTopCentre_walk (r : CaptureResult) (s : State) : (walkTopCentre r s).walk =
    if s.walk.state = .stepping then { topCentred r s with state := .settling, stateCount := 0 } else topCentred r s := by
  have settles : ∀ u : State, u.walk = topCentred r s →
      (if u.walk.state = .stepping then setWalkState .settling u else u).walk
        = if s.walk.state = .stepping then { topCentred r s with state := .settling, stateCount := 0 } else topCentred r s := by
    intro u h
    have state : u.walk.state = s.walk.state := (congrArg Walk.state h).trans rfl
    rw [state, ← h]
    split
    · exact setWalkState_walk _ _
    · rfl
  unfold walkTopCentre; dsimp only
  refine settles _ ?_
  split
  · exact (clearAlarm_frame _ _ _).1 .walk (by decide)
  · exact (raiseQuiet_frame _ _ _).1 .walk (by decide)

theorem walkTubRest_walk (s : State) : (walkTubRest s).walk =
    if s.walk.state = .settling then
      if s.drive.postTarget = 0 then { s.walk with state := .ready, stateCount := 0 }
      else { s.walk with state := .stepping, stateCount := 0, stepCount := 0 }
    else s.walk := by
  unfold walkTubRest
  split
  · dsimp only
    rw [show (clearAlarm .stepOvertime none _).walk = _ from (clearAlarm_frame _ _ _).1 .walk (by decide), setWalkState_walk]
    by_cases h : s.drive.postTarget = 0
    · rw [if_pos h, h]; rfl
    · rw [if_neg h, bne_iff_ne.2 h]; rfl
  · rfl

end

end Sys2Proof.Machine

end

section
/-! PROOFS. What a rope station and the swing measure at a cycle start whose sample shows no edge (R115, R116, R118, R121,
R134, R142). -/

namespace Sys2Proof.Machine

section
variable {s t x y : State} {gs : List Tag} {α : Type} {i : Inputs}

/-! ### The state that the axis function's step finds -/

/-- The moves of a sample without edges, and those up to the axis function's step. -/
def quietTags : List Tag := [.place .pace, .settle, .inputs]
def quietStepTags : List Tag := quietTags ++ earlyTags ++ (measureTags ++ checksTags)

theorem quietStep_moves (hr : s.role ≠ .cab) (h : NoEdges s.inputs.din i.din s) :
    Moves quietStepTags (ticked s) (checked (cabbed (fallen i s))) := by
  have pace := (placePace_moves (ticked s)).mono (hs := quietTags) (by decide)
  have startup : (placePace (ticked s)).startup = s.startup := pace.startup
  have form : fallen i s = watchOwned { placePace (ticked s) with inputs := i } := by
    rw [fallen_quiet i h, sampled_other]
    rintro ⟨hc, -⟩
    exact hr ((role_of_startup startup).symm.trans hc)
  have sample : Moves quietTags (ticked s) (fallen i s) := by
    rw [form]
    exact pace.trans ((Move.inputs i _).moves (by decide))
  have early := cabbed_moves (fallen i s)
  generalize cabbed (fallen i s) = c at early ⊢
  exact ((sample.mono (List.subset_append_left _ _)).trans (early.mono (List.subset_append_right _ _))).mono
      (List.subset_append_left _ _) |>.trans
    ((((measured_moves c).mono (List.subset_append_left _ _)).trans
      ((driveChecks_moves _).mono (List.subset_append_right _ _))).mono (List.subset_append_right _ _))

/-- The count change that the axis function's step finds (R75). -/
theorem checked_delta (hr : s.role ≠ .cab) (henc : (cabbed (fallen i s)).encoder = s.encoder) :
    (s.drive.prevEncoder = none → (checked (cabbed (fallen i s))).drive.delta = 0)
      ∧ ∀ e, s.drive.prevEncoder = some e → (checked (cabbed (fallen i s))).drive.delta = (s.encoder - e).toInt := by
  have prev : (cabbed (fallen i s)).drive.prevEncoder = s.drive.prevEncoder := by rw [(cabbed_drive i hr).rest]
  generalize cabbed (fallen i s) = c at henc prev ⊢
  have delta : (checked c).drive.delta = (measured c).drive.delta :=
    (driveChecks_moves (measured c)).driveField (fun d => d.delta) (fun _ _ _ _ _ _ _ _ _ _ => rfl) fun p hp d d' ho => by
      cases p with
      | measured => exact absurd hp (by decide)
      | _ => rw [ho]
  have form : (measured c).drive.delta = match c.drive.prevEncoder with
      | none => 0
      | some e => signedDiff c.encoder e := rfl
  rw [delta, form, prev, henc]
  exact ⟨fun h => by rw [h], fun e h => by rw [h]; rfl⟩

/-! ### A rope station (R115, R116, R118, R121) -/

/-- The position, the load and the calibration. -/
def Rope.values (r : Rope) : Int × Nat × Nat × Bool × Bool := (r.base, r.position, r.load, r.calibrated, r.calReport)

theorem Moves.ropeValues (m : Moves gs s t) (hg : gs.all (fun g => g ≠ .rope .measured ∧ g ≠ .rope .calibration
    ∧ g ≠ .rope .decalibration ∧ g ≠ .rope .report) = true) : t.rope.values = s.rope.values :=
  m.ropeField Rope.values (fun _ _ => rfl) fun p hp r r' ho => by
    have away := List.all_eq_true.1 hg _ hp
    cases p with
    | measured | calibration | decalibration | report => simp at away
    | _ => rw [ho]; rfl

/-- The values that a rope station's part of a cycle start forms. -/
def ropeFormed (s : State) : Int × Nat × Nat × Bool × Bool :=
  (s.rope.base, ropePosition s.encoder s.params.rope.countsPerMetre s.rope.base,
    ropeLoad s.inputs.ch2 s.params.rope.loadZero s.params.rope.loadSpan,
    if countImplausible s && !s.rope.encoderFault then false else s.rope.calibrated,
    if countImplausible s && !s.rope.encoderFault then false else s.rope.calibrated)

theorem ropeEncoder_rope (s : State) : (ropeEncoder s).rope.values = { s.rope with
    calibrated := if countImplausible s && !s.rope.encoderFault then false else s.rope.calibrated }.values := by
  unfold ropeEncoder; dsimp only
  split
  · exact (raise_moves (by decide) _ _).ropeValues (by decide)
  · split
    · rw [show (clearAlarm .encoderFault none _).rope = _ from (clearAlarm_frame _ _ _).1 .rope (by decide)]
      rfl
    · rfl

theorem ropeFirst_values (s : State) : (ropeFirst s).rope.values = ropeFormed s := by
  have limits := ((ropeOvertravel_moves (ropeEncoder (ropeMeasure s))).trans (ropeHardLimit_moves _)).ropeValues (by decide)
  have values := limits.trans (ropeEncoder_rope (ropeMeasure s))
  have report : ∀ u : State, (ropeReport u).rope.values =
      (u.rope.base, u.rope.position, u.rope.load, u.rope.calibrated, u.rope.calibrated) := fun _ => rfl
  have fields : ∀ r : Rope, r.values = (r.base, r.position, r.load, r.calibrated, r.calReport) := fun _ => rfl
  unfold ropeFirst
  rw [report]
  generalize ropeHardLimit (ropeOvertravel (ropeEncoder (ropeMeasure s))) = u at values ⊢
  simp only [fields, Prod.mk.injEq] at values
  obtain ⟨base, position, load, calibrated, -⟩ := values
  rw [base, position, load, calibrated]
  rfl

/-- A rope station's values after its step. -/
theorem axisStep_values (hr : s.role.isRope = true) : (axisStep s).rope.values = ropeFormed s := by
  cases h : s.role with
  | hoist =>
    rw [axisStep_hoist h, ← ropeFirst_values s]
    exact ((hoistSlack_moves _).ropeValues (by decide)).trans
      (((hoistClass_moves _).trans (hoistOverload_moves _)).ropeValues (by decide))
  | drag =>
    rw [axisStep_drag h, ← ropeFirst_values s]
    exact (ownershipCycle_moves _).ropeValues (by decide)
  | none | cab | swing | walk => rw [h] at hr; cases hr

theorem hoistOverload_rope (s : State) : ∃ b, (hoistOverload s).rope = { s.rope with overload := b } := by
  unfold hoistOverload; dsimp only
  split
  · exact ⟨_, (raiseQuiet_frame _ _ _).1 .rope (by decide)⟩
  · split
    · exact ⟨_, (clearAlarm_frame _ _ _).1 .rope (by decide)⟩
    · exact ⟨_, rfl⟩

/-- The hoist's bucket class is of the values that its step forms. -/
theorem axisStep_bucket (h : s.role = .hoist) :
    (axisStep s).rope.bucket = bucketClass s.params.rope (axisStep s).rope := by
  have params : (ropeFirst s).params = s.params := (ropeFirst_moves s).params
  rw [axisStep_hoist h]
  generalize ropeFirst s = u at params ⊢
  obtain ⟨b, overload⟩ := hoistOverload_rope (hoistClass u)
  rw [hoistSlack_rope, overload, ← params]
  rfl

/-- The rope of an axis station after its step stands in its values and its bucket class. -/
theorem AxisWork.ropeAfter (h : AxisWork i s x y t) : t.rope.values = (axisStep x).rope.values
    ∧ t.rope.bucket = (axisStep x).rope.bucket := by
  have rest := h.fromStep
  refine ⟨rest.ropeValues (by decide), rest.ropeField (fun r => r.bucket) (fun _ _ => rfl) fun p hp r r' ho => ?_⟩
  cases p with
  | bucket => exact absurd hp (by decide)
  | _ => rw [ho]

/-- What the cycle start finds of the rope, its sample showing no edge. -/
theorem quiet_rope (hr : s.role ≠ .cab) (h : NoEdges s.inputs.din i.din s) :
    (checked (cabbed (fallen i s))).rope.base = s.rope.base
      ∧ (checked (cabbed (fallen i s))).rope.calibrated = s.rope.calibrated
      ∧ (checked (cabbed (fallen i s))).rope.encoderFault = s.rope.encoderFault := by
  have kept := (quietStep_moves hr h).ropeField (fun r => (r.base, r.calibrated, r.encoderFault)) (fun _ _ => rfl)
    fun p hp r r' ho => by
      cases p with
      | encoderFault | calibration | decalibration => exact absurd hp (by simp only [quietStepTags, List.mem_append]; decide)
      | _ => rw [ho]
  simp only [Prod.mk.injEq] at kept
  exact kept

/-- A rope station's values after a cycle start; `c` says that the count change is not of rope motion. -/
structure RopeWorked (i : Inputs) (s t : State) (c : Bool) : Prop where
  values : t.rope.values = (s.rope.base, ropePosition s.encoder s.params.rope.countsPerMetre s.rope.base,
    ropeLoad i.ch2 s.params.rope.loadZero s.params.rope.loadSpan,
    if c && !s.rope.encoderFault then false else s.rope.calibrated,
    if c && !s.rope.encoderFault then false else s.rope.calibrated)
  first : s.drive.prevEncoder = none → c = false
  later : ∀ e, s.drive.prevEncoder = some e →
    c = decide (3 * s.params.drive.countsPerCycle < (s.encoder - e).toInt.natAbs)
  bucket : s.role = .hoist → t.rope.bucket = bucketClass s.params.rope t.rope

theorem bucketClass_congr {p : RopeParams} {r r' : Rope} (h : r.values = r'.values) : bucketClass p r = bucketClass p r' := by
  have fields : ∀ r : Rope, r.values = (r.base, r.position, r.load, r.calibrated, r.calReport) := fun _ => rfl
  simp only [fields, Prod.mk.injEq] at h
  obtain ⟨-, position, load, calibrated, -⟩ := h
  unfold bucketClass
  rw [position, load, calibrated]

theorem axis_of_rope {r : Role} (h : r.isRope = true) : r.isAxis = true := by
  cases r with
  | hoist | drag => rfl
  | _ => cases h

theorem work_rope (hj : s.joined = true) (hr : s.role.isRope = true) (h : NoEdges s.inputs.din i.din s) :
    ∃ c, RopeWorked i s (cycleWork (fallen i s)) c := by
  have axis := axis_of_rope hr
  have cab := noCab_of_axis axis
  have work := axisWork (i := i) hj axis
  have encoder : (checked (cabbed (fallen i s))).encoder = s.encoder := work.before.block .encoder (by
    simp only [beforeStepTags, List.all_append]
    decide)
  obtain ⟨first, later⟩ := checked_delta (i := i) cab (chainStart (i := i) hj axis).encoder
  obtain ⟨base, calibrated, fault⟩ := quiet_rope cab h
  have inputs := work.inputs
  have startup := work.startup.1
  obtain ⟨values, bucket⟩ := work.ropeAfter
  generalize checked (cabbed (fallen i s)) = x at *
  generalize cycleWork (fallen i s) = t at *
  have params := params_of_startup startup
  have role := role_of_startup startup
  have formed := values.trans (axisStep_values (by rw [role]; exact hr))
  refine ⟨countImplausible x, ?_, fun hn => ?_, fun e he => ?_, fun hh => ?_⟩
  · rw [formed, ropeFormed, base, encoder, params, inputs, fault, calibrated]
  · rw [countImplausible, first hn]
    rfl
  · rw [countImplausible, later e he, params]
  · rw [bucket, axisStep_bucket (role.trans hh), params]
    exact bucketClass_congr values.symm

/-! ### The swing (R134, R137, R142) -/

theorem Moves.swingField (m : Moves gs s t) (f : Swing → α)
    (hp : ∀ p, Tag.swing p ∈ gs → ∀ w w', p.only w w' → f w' = f w) : f t.swing = f s.swing :=
  m.same (f := fun u => f u.swing) fun g hg u v m => by
    by_cases hb : Block.swing ∈ g.blocks
    · cases m with
      | swing p _ _ ho => exact hp p hg _ _ ho
      | _ => exact absurd hb (by simp [Tag.blocks])
    · rw [show v.swing = u.swing from m.frame.1 .swing hb]

/-- The swing after a cycle start at which the count changed by `d`. -/
structure SwingWorked (i : Inputs) (s t : State) (d : Int) : Prop where
  circle : t.swing.circle = circleCycle s.encoder d s.params.swing.countsPerRev s.swing.circle
  calibrated : t.swing.calibrated = s.swing.calibrated
  markError : t.swing.markError = s.swing.markError
  report : t.swing.calReport = s.swing.calibrated
  parked : t.swing.parked = (s.swing.calibrated
    && decide ((angleDistance t.swing.circle.angle s.params.swing.walkAngle).natAbs ≤ s.params.swing.walkWindow)
    && (i.din.getLsbD s.params.brakeInput.number == s.params.brakeInput.high)
    && decide ((t.drive.speed.natAbs : Int) ≤ Config.stillSpeed))
  later : ∀ e, s.drive.prevEncoder = some e → d = (s.encoder - e).toInt

/-- The swing's values but for its refusal. -/
def Swing.values (w : Swing) : Circle × Bool × Int × Bool × Bool := (w.circle, w.calibrated, w.markError, w.calReport, w.parked)

theorem swingStep_values (s : State) : (swingStep s).swing.values =
    (circleCycle s.encoder s.drive.delta s.params.swing.countsPerRev s.swing.circle, s.swing.calibrated, s.swing.markError,
      s.swing.calibrated, s.swing.calibrated
        && decide ((angleDistance (circleCycle s.encoder s.drive.delta s.params.swing.countsPerRev s.swing.circle).angle
            s.params.swing.walkAngle).natAbs ≤ s.params.swing.walkWindow)
        && s.drive.brakeInput && decide ((s.drive.speed.natAbs : Int) ≤ Config.stillSpeed)) := rfl

theorem work_swing (hj : s.joined = true) (hr : s.role = .swing) (h : NoEdges s.inputs.din i.din s) :
    ∃ d, SwingWorked i s (cycleWork (fallen i s)) d := by
  have axis : s.role.isAxis = true := by rw [hr]; rfl
  have cab := noCab_of_axis axis
  have work := axisWork (i := i) hj axis
  have encoder : (checked (cabbed (fallen i s))).encoder = s.encoder := work.before.block .encoder (by
    simp only [beforeStepTags, List.all_append]
    decide)
  obtain ⟨-, later⟩ := checked_delta (i := i) cab (chainStart (i := i) hj axis).encoder
  have swing : (checked (cabbed (fallen i s))).swing = s.swing := (quietStep_moves cab h).block .swing (by
    simp only [quietStepTags, List.all_append]
    decide)
  have brake := work.brake
  have startup := work.startup.1
  have rest := work.fromStep
  generalize checked (cabbed (fallen i s)) = x at *
  generalize cycleWork (fallen i s) = t at *
  have params := params_of_startup startup
  rw [axisStep_swing ((role_of_startup startup).trans hr)] at rest
  have values : t.swing.values = (swingStep x).swing.values := rest.swingField Swing.values fun p hp w w' ho => by
    cases p with
    | refusal => rw [ho]; rfl
    | _ => exact absurd hp (by decide)
  have speed : t.drive.speed = x.drive.speed := rest.driveField (fun d => d.speed) (fun _ _ _ _ _ _ _ _ _ _ => rfl)
    fun p hp d d' ho => by
      cases p with
      | measured => exact absurd hp (by decide)
      | _ => rw [ho]
  rw [swingStep_values, swing, encoder, params, brake, ← speed] at values
  have fields : t.swing.values = (t.swing.circle, t.swing.calibrated, t.swing.markError, t.swing.calReport, t.swing.parked) := rfl
  simp only [fields, Prod.mk.injEq] at values
  obtain ⟨circle, calibrated, markError, report, parked⟩ := values
  exact ⟨x.drive.delta, circle, calibrated, markError, report, by rw [circle]; exact parked, later⟩

end

end Sys2Proof.Machine

end

section
/-! PROOFS. The marks and the measures as the station reports them (R35, R115 to R121, R134 to R142, R158, R159). -/

namespace Sys2Proof.Machine

section
variable {s y t : State} {r : CaptureResult} {i : Inputs}

theorem toNat_clampInt {hi : Int} (h : 0 ≤ hi) (x : Int) : ((clampInt 0 hi x).toNat : Int) = max 0 (min hi x) := by
  unfold clampInt
  split
  · omega
  · split <;> omega

theorem exec_masterEdge (u : UnitIndex) (s : State) : exec (.masterEdge u) s = .next (masterEdge u (begin s)) := rfl

theorem Delivered.startup (h : Delivered s y) : y.startup = s.startup := h.frame.1 .startup (by decide)

/-! ### The rope -/

/-- Unit 0's master edge at a rope station (R117). -/
theorem rope_corrected (hj : s.joined = true) (hr : s.role.isRope = true) :
    (s.rope.calibrated = true →
        50 < ((s.params.rope.refPosition : Int) - (ropeLength s.encoder s.params.rope.countsPerMetre + s.rope.base)).natAbs →
        (masterEdge .unit0 s).rope = s.rope)
      ∧ (s.rope.calibrated = false
          ∨ ((s.params.rope.refPosition : Int) - (ropeLength s.encoder s.params.rope.countsPerMetre + s.rope.base)).natAbs ≤ 50 →
        (masterEdge .unit0 s).rope = { s.rope with
          base := s.params.rope.refPosition - ropeLength s.encoder s.params.rope.countsPerMetre, calibrated := true }) := by
  obtain ⟨r, y, found, rest, -, snapshot⟩ := masterEdge_unit0 hj (noCab_of_axis (axis_of_rope hr))
    fun h => by rw [h] at hr; cases hr
  have rope : y.rope = s.rope := found.frame.1 .rope (by decide)
  have deliver : deliverResult .unit0 r y = ropeResult r.masterSnapshot y := by
    unfold deliverResult
    rw [role_of_startup found.startup]
    cases h : s.role with
    | hoist | drag => rfl
    | _ => rw [h] at hr; cases hr
  have corrected := ropeResult_rope s.encoder y
  rw [params_of_startup found.startup, rope] at corrected
  rw [show (masterEdge .unit0 s).rope = _ from rest.1 .rope (by decide), deliver, snapshot]
  exact corrected

/-! ### The swing -/

/-- The angle of a snapshot (R135). -/
theorem snapshotAngle_eq (c : Circle) (n : DWord) (k : Nat) : snapshotAngle c n k =
    (((match c.sample with
        | none => n.toInt
        | some e => c.count + (n - e).toInt) % (k : Int)).toNat * 3600 / k + c.base) % 3600 := by
  unfold snapshotAngle reduceSnapshot
  cases c.sample <;> rfl

/-- What a usable snapshot leaves at the swing; `e` is its mark error (R136, R137). -/
structure SwingCorrected (s t : State) (e : Int) : Prop where
  corrects : s.swing.calibrated = false ∨ e.natAbs ≤ s.params.swing.markTolerance → t.swing = swingMarked e s.swing
  clears : s.swing.calibrated = true → e.natAbs ≤ s.params.swing.markTolerance → ListsOrdered s →
    KeyCleared .swingMarkMismatch none t.alarms.list
  refuses : s.swing.calibrated = true → s.params.swing.markTolerance < e.natAbs →
    t.swing = { s.swing with markError := e } ∧ standsOrLost .swingMarkMismatch s t

/-- Unit 0's master edge at the swing. -/
theorem swing_corrected (hj : s.joined = true) (hr : s.role = .swing) : ∃ r, (masterEdge .unit0 s).unit0.lastResult = some r
    ∧ (swingUsable r = none → (masterEdge .unit0 s).swing = s.swing ∧ (masterEdge .unit0 s).alarms = s.alarms)
    ∧ ∀ n, swingUsable r = some n → SwingCorrected s (masterEdge .unit0 s) (swingError s n) := by
  obtain ⟨r, y, found, rest, last, -⟩ := masterEdge_unit0 hj (by rw [hr]; decide) (by rw [hr]; decide)
  have deliver : deliverResult .unit0 r y = swingResult r y := by
    unfold deliverResult
    rw [role_of_startup found.startup, hr]
  rw [deliver] at rest
  have swing : (masterEdge .unit0 s).swing = (swingResult r y).swing := rest.1 .swing (by decide)
  have alarms : (masterEdge .unit0 s).alarms = (swingResult r y).alarms := rest.1 .alarms (by decide)
  have stands : y.swing = s.swing := found.frame.1 .swing (by decide)
  have list : y.alarms = s.alarms := found.frame.1 .alarms (by decide)
  have table : y.table = s.table := found.frame.1 .table (by decide)
  have params := params_of_startup found.startup
  have joined := (joined_of_startup found.startup).trans hj
  refine ⟨r, last, fun h => ?_, fun n h => ?_⟩
  · rw [swing, alarms, swingResult_unusable h]
    exact ⟨stands, list⟩
  · have error : swingError y n = swingError s n := by rw [swingError, params, stands, swingError]
    have corrects := swingResult_corrects (s := y) h
    have refuses := swingResult_mismatch (s := y) h
    rw [stands, params, error] at corrects refuses
    refine ⟨fun hc => swing.trans (corrects hc).1, fun hc ht ho => ?_, fun hc ht => ?_⟩
    · rw [alarms]
      exact (corrects (.inr ht)).2 hc joined ⟨by rw [list]; exact ho.1, by rw [list]; exact ho.2, by rw [table]; exact ho.3,
        by rw [table]; exact ho.4⟩
    · obtain ⟨after, held⟩ := refuses hc ht joined
      refine ⟨swing.trans after, Held.standsOrLost ?_⟩
      rw [list] at held
      rw [Held, HeldOf, alarms]
      exact held

/-! ### The walk -/

theorem walk_topCentred (hj : s.joined = true) (hr : s.role = .walk)
    (hn : ¬ selects s.params.unit1 s.params.unit0.masterInput s.params.unit0.masterRising) :
    ∃ k : Walk, k.stepCounter = min 65535 (s.walk.stepCounter + 1) ∧ k.referenced = true ∧ k.state = s.walk.state
      ∧ (masterEdge .unit0 s).walk = if s.walk.state = .stepping then { k with state := .settling, stateCount := 0 } else k := by
  obtain ⟨r, y, found, form⟩ := masterEdge_alone .unit0 hj (by rw [hr]; decide) hn
  have walk : y.walk = s.walk := found.frame.1 .walk (by decide)
  have deliver : deliverResult .unit0 r y = walkTopCentre r y := by
    unfold deliverResult
    rw [role_of_startup found.startup, hr]
  have after := walkTopCentre_walk r y
  rw [← deliver, ← form, walk] at after
  exact ⟨topCentred r y, by rw [← walk]; rfl, rfl, by rw [← walk]; rfl, after⟩

theorem walk_tubRested (hj : s.joined = true) (hr : s.role = .walk)
    (hn : ¬ selects s.params.unit0 s.params.unit1.masterInput s.params.unit1.masterRising) :
    (masterEdge .unit1 s).walk =
      if s.walk.state = .settling then
        if s.drive.postTarget = 0 then { s.walk with state := .ready, stateCount := 0 }
        else { s.walk with state := .stepping, stateCount := 0, stepCount := 0 }
      else s.walk := by
  obtain ⟨r, y, found, form⟩ := masterEdge_alone .unit1 hj (by rw [hr]; decide) hn
  have walk : y.walk = s.walk := found.frame.1 .walk (by decide)
  have target : y.drive.postTarget = s.drive.postTarget := by rw [found.hook.rest]
  have deliver : deliverResult .unit1 r y = walkTubRest y := by
    unfold deliverResult
    rw [role_of_startup found.startup, hr]
  rw [form, deliver, walkTubRest_walk, walk, target]

/-! ### The measures -/

/-- The STATUS fields of the role. -/
theorem positionField_rope (hr : s.role.isRope = true) : s.positionField = s.rope.position := by
  unfold State.positionField
  cases h : s.role with
  | hoist | drag => rfl
  | _ => rw [h] at hr; cases hr

theorem fields_swing (hr : s.role = .swing) : s.positionField = s.swing.circle.angle ∧ s.calibratedField = s.swing.calReport := by
  unfold State.positionField State.calibratedField
  rw [hr]
  exact ⟨rfl, rfl⟩

/-- A shortest distance within a window, said of any distance that reaches the angle. -/
theorem angleDistance_within {a b : Int} {n : Nat} : (angleDistance a b).natAbs ≤ n
    ↔ ∃ d : Int, d.natAbs ≤ n ∧ -1800 ≤ d ∧ d ≤ 1799 ∧ (a + d - b) % 3600 = 0 := by
  refine ⟨fun h => ?_, fun ⟨d, hd, hlo, hhi, ha⟩ => by rwa [angleDistance_unique hlo hhi ha]⟩
  obtain ⟨lo, hi, spec⟩ := angleDistance_spec a b
  exact ⟨_, h, lo, hi, spec⟩

end

end Sys2Proof.Machine

open Sys2Proof Sys2Proof.Machine

/-- Settles O42: a captured mark's result at its axis function, and the measures that a cycle start without edges
forms. -/
theorem marksCorrectPositions : Obligations.MarksCorrectPositions := by
  intro s hj
  have after : ∀ i, (cycleWork (fallen i s)).startup = s.startup := fun i =>
    (cycleWork_moves _).startup.trans (fallen_startup i s)
  refine ⟨fun hr => ?_, fun hr ht i hn => ?_, fun hr hpos => ?_, fun hr ht hpos i hn => ?_,
    fun hr => ⟨fun hn => ?_, fun hn => ?_⟩⟩
  · obtain ⟨stands, corrects⟩ := rope_corrected (s := begin s) hj hr
    exact ⟨_, exec_masterEdge _ _, stands, corrects⟩
  · obtain ⟨c, worked⟩ := work_rope hj hr hn
    refine ⟨_, exec_cycleStart ht, ?_⟩
    have position := positionField_rope (s := cycleWork (fallen i s)) (by rw [role_of_startup (after i)]; exact hr)
    obtain ⟨values, first, later, bucket⟩ := worked
    generalize cycleWork (fallen i s) = t at *
    have fields : t.rope.values = (t.rope.base, t.rope.position, t.rope.load, t.rope.calibrated, t.rope.calReport) := rfl
    simp only [fields, Prod.mk.injEq] at values
    obtain ⟨base, at', load, calibrated, report⟩ := values
    refine ⟨base, position, ?_, ?_, fun hp => ?_, fun e he => ⟨fun h => ?_, fun h hf => ?_⟩,
      report.trans calibrated.symm, fun hh => ?_⟩
    · rw [at']
      exact toNat_clampInt (by decide) _
    · rw [load]
      exact toNat_clampInt (by decide) _
    · rw [calibrated, first hp]
      rfl
    · rw [calibrated, later e he]
      rcases h with h | h
      · rw [decide_eq_false h.not_gt]
        rfl
      · rw [h, Bool.not_true, Bool.and_false]
        rfl
    · rw [calibrated, later e he, decide_eq_true h, hf]
      rfl
    · rw [bucket hh]
      unfold bucketClass
      cases t.rope.calibrated <;> rfl
  · obtain ⟨r, last, unusable, usable⟩ := swing_corrected (s := begin s) hj hr
    refine ⟨_, r, exec_masterEdge _ _, last, fun hs => unusable ?_, fun m hm => ⟨fun hle => unusable ?_, fun hlt => ?_⟩⟩
    · rw [swingUsable, hs]
    · rw [swingUsable, hm]
      exact if_neg hle.not_gt
    · obtain ⟨corrects, clears, refuses⟩ := usable m.snapshot (by rw [swingUsable, hm]; exact if_pos hlt)
      obtain ⟨lo, hi, spec⟩ := angleDistance_spec (snapshotAngle s.swing.circle m.snapshot s.params.swing.countsPerRev)
        s.params.swing.markAngle
      have lists : ListsOrdered s → ListsOrdered (begin s) := fun ho => ⟨ho.1, ho.2, ho.3, ho.4⟩
      have angle := snapshotAngle_eq s.swing.circle m.snapshot s.params.swing.countsPerRev
      refine ⟨_, lo, hi, ?_, corrects, fun hc he ho x hx hk hd => clears hc he (lists ho) x hx hk hd, refuses⟩
      exact (congrArg (fun a : Nat => ((a : Int) + swingError s m.snapshot - s.params.swing.markAngle) % 3600)
        angle.symm).trans spec
  · obtain ⟨d, worked⟩ := work_swing hj hr hn
    refine ⟨_, exec_cycleStart ht, ?_⟩
    have role := role_of_startup (after i)
    have params := params_of_startup (after i)
    have inputs : (cycleWork (fallen i s)).inputs = i := (cycleWork_inputs _).trans (fallen_inputs i s)
    generalize cycleWork (fallen i s) = t at *
    obtain ⟨circle, calibrated, markError, calReport, parked, later⟩ := worked
    obtain ⟨position, report⟩ := fields_swing (role.trans hr)
    have turns : (0 : Int) < s.params.swing.countsPerRev := by exact_mod_cast hpos
    have reduced : ∀ n : Int, (reduceCount n s.params.swing.countsPerRev : Int) = n % s.params.swing.countsPerRev := fun n =>
      Int.toNat_of_nonneg (Int.emod_nonneg n turns.ne')
    refine ⟨by rw [circle]; rfl, by rw [circle]; rfl, fun hs => ?_, fun e x hx he => ?_, by rw [circle]; rfl, calibrated,
      markError, calReport, report.trans calReport, position, ?_⟩
    · rw [circle, circleCycle, circleCount, hs]
      exact reduced _
    · rw [circle, circleCycle, circleCount, hx, later e he]
      exact reduced _
    · have brake : t.inputActive s.params.brakeInput = (i.din.getLsbD s.params.brakeInput.number == s.params.brakeInput.high) := by
        rw [State.inputActive, inputs]
      have still : (t.drive.speed.natAbs : Int) ≤ Config.stillSpeed ↔ t.drive.speed.natAbs ≤ 5 := Int.ofNat_le
      rw [parked, ← brake, Bool.and_eq_true, Bool.and_eq_true, Bool.and_eq_true, decide_eq_true_iff, decide_eq_true_iff, still,
        angleDistance_within, and_assoc, and_assoc]
  · obtain ⟨k, counter, referenced, state, walk⟩ := walk_topCentred (s := begin s) hj hr hn
    refine ⟨_, exec_masterEdge _ _, ?_⟩
    rw [walk]
    refine ⟨?_, ?_, fun h => ?_, fun h => ?_⟩
    · split <;> exact counter
    · split <;> exact referenced
    · exact (congrArg Walk.state (if_pos h)).trans rfl
    · exact (congrArg Walk.state (if_neg h)).trans state
  · have walk := walk_tubRested (s := begin s) hj hr hn
    refine ⟨_, exec_masterEdge _ _, ?_⟩
    rw [walk]
    exact ⟨fun h => if_neg h, fun h h0 => (if_pos h).trans (if_pos h0), fun h h0 => (if_pos h).trans (if_neg h0)⟩

end

section
/-! PROOFS. What the cab keeps of the XFER broadcasts, and its discrete outputs (R3, R156, R181, TABLE 10-4). -/

namespace Sys2Proof.Machine

section
variable {b : Bulletin} {s : State}

/-! ### The XFER broadcasts -/

theorem exec_xferDone (h : Reaches .xferDone b s) :
    exec (.xferDone b) s = .next (takeXferBroadcast .xferDone b id (handed s)) :=
  congrArg Host.Outcome.next (receive_reaches h _)

/-- A joined cab keeps an XFER broadcast that reaches it. -/
theorem takeXferBroadcast_cab (hj : s.joined = true) (hr : s.role = .cab) (k : Kind) (act : State → State) :
    takeXferBroadcast k b act s = keepAtCab k b true s := by
  unfold takeXferBroadcast
  rw [hj, hr]
  rfl

/-- Away from the cab an XFER-DONE has no effect. -/
theorem takeXferDone_other (hr : s.role ≠ .cab) : takeXferBroadcast .xferDone b id s = s := by
  unfold takeXferBroadcast
  split
  · rfl
  · cases h : s.role with
    | cab => exact absurd h hr
    | _ => rfl

/-- The XFER broadcast handed to a joined cab. -/
theorem kept_broadcast (hj : s.joined = true) (hr : s.role = .cab) {k : Kind} (hk : k.isXfer = true) (act : State → State) :
    (takeXferBroadcast k b act (handed s)).cab = { s.cab with xferHeard := some ⟨b.sender, b.target, k, b.words, true⟩ }
      ∧ (takeXferBroadcast k b act (handed s)).line = (handed s).line
      ∧ Frame [.line, .cab] (begin s) (takeXferBroadcast k b act (handed s)) := by
  rw [takeXferBroadcast_cab ((handed_joined s).trans hj) ((handed_role s).trans hr), keepAtCab_xfer hk,
    show (handed s).cab = s.cab from (handed_frame s).1 .cab (by decide)]
  exact ⟨rfl, keepAtCab_line _ _ _ _, (handed_frame s).comp (keepAtCab_frame _ _ _ _) (by decide) (by decide)⟩

/-! ### The discrete outputs -/

/-- Eight outputs as one byte: four lamps, a number on three lines, and one more line. -/
def outputByte (horn trip stop warn valid : Bool) (source : Nat) : Byte :=
  BitVec.ofNat 8 (horn.toNat * 2 ^ 0 + trip.toNat * 2 ^ 1 + stop.toNat * 2 ^ 2 + warn.toNat * 2 ^ 3 + source * 16
    + valid.toNat * 2 ^ 7)

theorem outputByte_lines : ∀ (horn trip stop warn valid : Bool) (source : Fin 8),
    (outputByte horn trip stop warn valid source).getLsbD 0 = horn
      ∧ (outputByte horn trip stop warn valid source).getLsbD 1 = trip
      ∧ (outputByte horn trip stop warn valid source).getLsbD 2 = stop
      ∧ (outputByte horn trip stop warn valid source).getLsbD 3 = warn
      ∧ (outputByte horn trip stop warn valid source).getLsbD 7 = valid
      ∧ (outputByte horn trip stop warn valid source).toNat / 16 % 8 = source
      ∧ (source = 0 → (outputByte horn trip stop warn valid source).getLsbD 4 = false
          ∧ (outputByte horn trip stop warn valid source).getLsbD 5 = false
          ∧ (outputByte horn trip stop warn valid source).getLsbD 6 = false) := by decide

/-- The number on the first-out lines. -/
def shownSource (s : State) : Fin 8 := ⟨((s.table.firstOut.map (·.source)).getD 0) % 8, Nat.mod_lt _ (by decide)⟩

theorem discreteOutputs_cab (hr : s.role = .cab) (hj : s.joined = true) : s.discreteOutputs =
    outputByte (s.table.records.any fun r => r.state != .activeAck) (s.lamp .trip (decide (0 < s.table.refusalFlash)))
      (s.lamp .stop false) (s.lamp .warn false) s.shownFirstOut.isSome (shownSource s) := by
  have on : s.annunciatorOn = true := by rw [State.annunciatorOn, hr, hj]; rfl
  unfold State.discreteOutputs
  rw [if_pos on]
  rfl

theorem discreteOutputs_off (h : s.role ≠ .cab ∨ s.joined = false) : s.discreteOutputs = 0 := by
  have off : ¬ s.annunciatorOn = true := by
    rw [State.annunciatorOn, Bool.and_eq_true, beq_iff_eq]
    rintro ⟨hr, hj⟩
    rcases h with h | h
    · exact h hr
    · rw [hj] at h; cases h
  unfold State.discreteOutputs
  exact if_neg off

/-- A lamp flashes while a record of its severity is not acked, or its own flash runs, and else shows an acked one. -/
theorem lamp_iff (v : Severity) (flash : Bool) : s.lamp v flash = true ↔
    (((∃ r ∈ s.table.records, r.severity = v ∧ r.state ≠ .activeAck) ∨ flash = true) ∧ s.table.flashPhase = true)
      ∨ (¬ ((∃ r ∈ s.table.records, r.severity = v ∧ r.state ≠ .activeAck) ∨ flash = true)
        ∧ ∃ r ∈ s.table.records, r.severity = v ∧ r.state = .activeAck) := by
  have unacked : s.tableUnacked v = true ↔ ∃ r ∈ s.table.records, r.severity = v ∧ r.state ≠ .activeAck := by
    simp [State.tableUnacked]
  have acked : s.tableAcked v = true ↔ ∃ r ∈ s.table.records, r.severity = v ∧ r.state = .activeAck := by
    simp [State.tableAcked]
  rw [← unacked, ← acked, State.lamp, ← Bool.or_eq_true]
  split
  · next h => exact ⟨fun on => .inl ⟨h, on⟩, fun on => (on.resolve_right fun off => off.1 h).2⟩
  · next h => exact ⟨fun on => .inr ⟨h, on⟩, fun on => (on.resolve_left fun off => h off.1).2⟩

theorem shownFirstOut_iff : s.shownFirstOut.isSome = true ↔ s.table.episode ≠ .closed ∧ s.table.firstOut ≠ none := by
  unfold State.shownFirstOut
  split
  · next h => simp [h]
  · next h => simp [h, Option.isSome_iff_ne_none]

end

end Sys2Proof.Machine

end

section
/-! PROOFS. The handles judged at a cycle start of the cab (R56, R57), the switch and the buttons (R58, R59). -/

namespace Sys2Proof.Machine

section
variable {s t u : State} {gs : List Tag} {k n : Nat} {l : List Nat}

/-! ### One handle judged -/

/-- The channel's reading is out of range. -/
def outOfRange (i : Inputs) (k : Nat) : Bool := !handleInRange (Inputs.channel i k)

/-- The channel's judgement noted. -/
def handleNoted (s : State) (k : Nat) : State :=
  s.onCab fun c => { c with handleFault := c.handleFault.set k (outOfRange s.inputs k) }

theorem judgeHandle_eq (s : State) (k : Nat) : judgeHandle s k =
    if outOfRange s.inputs k && !s.cab.handleFault.getD k false then raiseQuiet .handleFault (some k) (handleNoted s k)
    else if !outOfRange s.inputs k && s.cab.handleFault.getD k false then clearAlarm .handleFault (some k) (handleNoted s k)
    else handleNoted s k := rfl

theorem judgeHandle_cab (s : State) (k : Nat) : (judgeHandle s k).cab =
    { s.cab with handleFault := s.cab.handleFault.set k (outOfRange s.inputs k) } := by
  rw [judgeHandle_eq]
  split
  · exact (raiseQuiet_frame _ _ _).1 .cab (by decide)
  · split
    · exact (clearAlarm_frame _ _ _).1 .cab (by decide)
    · rfl

theorem judgeHandle_inputs (s : State) (k : Nat) : (judgeHandle s k).inputs = s.inputs :=
  (judgeHandle_moves s k).block .inputs (by decide)

theorem handlesFolded_moves (s : State) (l : List Nat) : Moves handleTags s (l.foldl judgeHandle s) :=
  .foldl l (fun u k _ => judgeHandle_moves u k) s

/-- The handles judged, channel by channel. -/
theorem judged_cab (l : List Nat) (s : State) : (l.foldl judgeHandle s).cab =
    { s.cab with handleFault := l.foldl (fun f k => f.set k (outOfRange s.inputs k)) s.cab.handleFault } := by
  induction l generalizing s with
  | nil => rfl
  | cons k l ih =>
    rw [List.foldl_cons, ih, judgeHandle_inputs, judgeHandle_cab]
    rfl

/-- A channel not judged stands. -/
theorem judged_other (hk : k ∉ l) (s : State) :
    (l.foldl judgeHandle s).cab.handleFault.getD k false = s.cab.handleFault.getD k false := by
  induction l generalizing s with
  | nil => rfl
  | cons j l ih =>
    obtain ⟨hj, hl⟩ : k ≠ j ∧ k ∉ l := by simpa using hk
    rw [List.foldl_cons, ih hl, judgeHandle_cab, List.getD_eq_getElem?_getD, List.getD_eq_getElem?_getD,
      List.getElem?_set_ne (Ne.symm hj)]

/-- The four handles judged. -/
theorem handlesJudged_cab (h : s.cab.handleFault.length = 4) : (handlesJudged s).cab = { s.cab with handleFault :=
    [outOfRange s.inputs 0, outOfRange s.inputs 1, outOfRange s.inputs 2, outOfRange s.inputs 3] } := by
  have four : ∀ (f : List Bool) (a b c d : Bool), f.length = 4 → (((f.set 0 a).set 1 b).set 2 c).set 3 d = [a, b, c, d] := by
    intro f a b c d hf
    match f, hf with
    | [_, _, _, _], _ => rfl
  exact (judged_cab (List.range 4) s).trans (congrArg (fun f => { s.cab with handleFault := f }) (four _ _ _ _ _ h))

/-- The handles judged before and after one of them. -/
theorem handlesJudged_at (hk : k < 4) : ∃ l l' : List Nat, k ∉ l ∧ k ∉ l' ∧ ∀ s,
    handlesJudged s = l'.foldl judgeHandle (judgeHandle (l.foldl judgeHandle s) k) := by
  obtain ⟨l, l', form⟩ := List.append_of_mem (List.mem_range.2 hk)
  have nodup : (l ++ k :: l').Nodup := form ▸ List.nodup_range
  obtain ⟨-, tail, apart⟩ := List.nodup_append.1 nodup
  refine ⟨l, l', fun h => apart k h k List.mem_cons_self rfl, (List.nodup_cons.1 tail).1, fun s => ?_⟩
  rw [handlesJudged, form, List.foldl_append, List.foldl_cons]

/-! ### HANDLE FAULT -/

/-- The key of a channel's fault. -/
def FaultKey (k : Nat) : AlarmCode × Option Nat → Prop := Eq (.handleFault, some k)

theorem faultKey_high (k : Nat) : ∀ key, FaultKey k key → key.1.severity ≠ .warn := by
  rintro _ rfl
  show AlarmCode.handleFault.severity ≠ .warn
  decide

theorem judgeHandle_held {j : Nat} (hj : j ≠ k) (h : HeldOf (FaultKey k) n s) : HeldOf (FaultKey k) n (judgeHandle s j) := by
  rcases h with h | h
  · refine .inl ?_
    have active : ActiveOf (FaultKey k) (handleNoted s j).alarms.list := h
    rw [judgeHandle_eq]
    split
    · exact active.raise (faultKey_high k)
    · split
      · exact active.clear fun he => hj (Option.some.inj (congrArg Prod.snd he)).symm
      · exact active
  · exact .inr (h.then (judgeHandle_moves s j).lost)

theorem judged_held (hk : k ∉ l) (h : HeldOf (FaultKey k) n s) : HeldOf (FaultKey k) n (l.foldl judgeHandle s) := by
  induction l generalizing s with
  | nil => exact h
  | cons j l ih =>
    obtain ⟨hj, hl⟩ : k ≠ j ∧ k ∉ l := by simpa using hk
    exact ih hl (judgeHandle_held (Ne.symm hj) h)

/-- A channel newly out of range raises its fault. -/
theorem handlesJudged_raises (hj : s.joined = true) (hk : k < 4) (ho : outOfRange s.inputs k = true)
    (hw : s.cab.handleFault.getD k false = false) : HeldOf (FaultKey k) s.alarms.lost (handlesJudged s) := by
  obtain ⟨l, l', before, after, form⟩ := handlesJudged_at hk
  have m := handlesFolded_moves s l
  have inputs : (l.foldl judgeHandle s).inputs = s.inputs := m.block .inputs (by decide)
  have was := (judged_other before s).trans hw
  have joined := m.joined.trans hj
  have lost := m.lost
  rw [form]
  refine judged_held after ?_
  generalize l.foldl judgeHandle s = v at *
  have raised : judgeHandle v k = raiseQuiet .handleFault (some k) (handleNoted v k) := by
    rw [judgeHandle_eq, was, inputs, ho]
    rfl
  rw [raised]
  exact heldOf_raise (s := handleNoted v k) joined _ _ rfl lost

theorem judgeHandle_cleared {j : Nat} (hj : j ≠ k) (h : KeyCleared .handleFault (some k) s.alarms.list) :
    KeyCleared .handleFault (some k) (judgeHandle s j).alarms.list := by
  have cleared : KeyCleared .handleFault (some k) (handleNoted s j).alarms.list := h
  rw [judgeHandle_eq]
  split
  · exact cleared.raise fun he => hj (Option.some.inj (congrArg Prod.snd he))
  · split
    · exact cleared.clear _ _
    · exact cleared

theorem judged_cleared (hk : k ∉ l) (h : KeyCleared .handleFault (some k) s.alarms.list) :
    KeyCleared .handleFault (some k) (l.foldl judgeHandle s).alarms.list := by
  induction l generalizing s with
  | nil => exact h
  | cons j l ih =>
    obtain ⟨hj, hl⟩ : k ≠ j ∧ k ∉ l := by simpa using hk
    exact ih hl (judgeHandle_cleared (Ne.symm hj) h)

/-- A channel newly in range clears its fault. -/
theorem handlesJudged_clears (hj : s.joined = true) (hk : k < 4) (ho : outOfRange s.inputs k = false)
    (hw : s.cab.handleFault.getD k false = true) (hl : ListsOrdered s) :
    KeyCleared .handleFault (some k) (handlesJudged s).alarms.list := by
  obtain ⟨l, l', before, after, form⟩ := handlesJudged_at hk
  have m := handlesFolded_moves s l
  have inputs : (l.foldl judgeHandle s).inputs = s.inputs := m.block .inputs (by decide)
  have was := (judged_other before s).trans hw
  have joined := m.joined.trans hj
  have lists := m.listsOrdered hl
  rw [form]
  refine judged_cleared after ?_
  generalize l.foldl judgeHandle s = v at *
  have cleared : judgeHandle v k = clearAlarm .handleFault (some k) (handleNoted v k) := by
    rw [judgeHandle_eq, was, inputs, ho]
    rfl
  rw [cleared]
  exact keyCleared_clearAlarm (s := handleNoted v k) joined ⟨lists.1, lists.2, lists.3, lists.4⟩

/-! ### The switch and the buttons -/

theorem Button.step_eq (b : Button) (pressed : Bool) :
    b.step pressed = if pressed then (if b = .up then .edge else .down) else .up := by
  cases b <;> cases pressed <;> rfl

theorem Button.recognised_iff {b : Button} {pressed : Bool} : b.recognised pressed = true ↔ b = .edge ∧ pressed = true := by
  simp [Button.recognised]

/-- WALK MODE turns with two samples alike (R59). -/
theorem sampleWalkMode_eq (set : Bool) (c : Cab) : sampleWalkMode set c =
    { c with walkSample := set, walkMode := if set = c.walkSample then set else c.walkMode } := by
  unfold sampleWalkMode
  cases set <;> cases c.walkSample <;> rfl

end

end Sys2Proof.Machine

end

section
/-! PROOFS. The TRIP records of the machine table through the dropped loans of a cycle start (R108, R167, R178). -/

namespace Sys2Proof.Machine

/-! ### The merge -/

/-- Every TRIP record was there before. -/
def TripsFrom (m m' : MachineTable) : Prop := ∀ x ∈ m'.records, x.severity = .trip → x ∈ m.records

theorem TripsFrom.refl (m : MachineTable) : TripsFrom m m := fun _ h _ => h

theorem TripsFrom.trans {m m' m'' : MachineTable} (h : TripsFrom m m') (k : TripsFrom m' m'') : TripsFrom m m'' :=
  fun x hx ht => h x (k x hx ht) ht

section
variable {s t : State} {c : AlarmCode} {d : Option Nat} {r : AlarmRecord} {x : TableRecord} {gs : List Tag}

/-- What the cab merges of its own report (R170). -/
def reported (r : AlarmRecord) (removed refresh : Bool) (s : State) : Merge :=
  { source := s.station, code := r.code, detail := r.detail, state := if removed then none else some r.state,
    raised := r.raised, refresh }

theorem reportAlarm_table (r : AlarmRecord) (a b : Bool) (s : State) : (reportAlarm r a b s).table =
    if s.role = .cab then mergeTable (reported r a b s) s.table else s.table := by
  have placed := place_frame { kind := .alarm, target := Config.broadcast, words := alarmWords r a b } s
  unfold reportAlarm; dsimp only
  rw [role_of_startup (placed.1 .startup (by decide))]
  split
  · rw [State.onTable_table, station_of_startup (placed.1 .startup (by decide)), placed.1 .table (by decide)]
    rfl
  · exact placed.1 .table (by decide)

/-- A report of no TRIP forms none. -/
theorem reportAlarm_tripsFrom (hr : r.code.severity ≠ .trip) (a b : Bool) (s : State) :
    TripsFrom s.table (reportAlarm r a b s).table := by
  rw [reportAlarm_table]
  split
  · intro x hx ht
    rcases mem_mergeTable hx with ⟨-, hv⟩ | hx
    · exact absurd (hv.symm.trans ht) hr
    · exact hx
  · exact .refl _

/-- A record taken out forms none. -/
theorem reportRemoved_tripsFrom (r : AlarmRecord) (b : Bool) (s : State) :
    TripsFrom s.table (reportAlarm r true b s).table := by
  rw [reportAlarm_table]
  split
  · intro x hx _
    rw [mergeTable_removed rfl] at hx
    exact List.mem_of_mem_filter hx
  · exact .refl _

theorem report_tripsFrom (hr : r.code.severity ≠ .trip) (a b : Bool) (l : List AlarmRecord) (s : State) :
    TripsFrom s.table (reportAlarm r a b (setAlarmList l s)).table := reportAlarm_tripsFrom hr a b (setAlarmList l s)

/-- A raise of no TRIP forms no TRIP record. -/
theorem raiseQuiet_tripsFrom (hc : c.severity ≠ .trip) (d : Option Nat) (s : State) :
    TripsFrom s.table (raiseQuiet c d s).table := by
  by_cases hj : s.joined = true
  · unfold raiseQuiet
    cases hf : s.alarms.list.find? (isRecord c d) with
    | none =>
      rw [raiseRecord_absent hj hf]
      by_cases hl : s.alarms.list.length < Config.alarmListSize
      · rw [enterRecord_room hl]
        exact report_tripsFrom hc _ _ _ s
      · cases hv : alarmVictim c.severity s.alarms.list with
        | some k =>
          rw [enterRecord_evicts (r := freshRecord c d s.now) hl hv]
          exact (reportRemoved_tripsFrom _ _ (setAlarmList _ s)).trans (report_tripsFrom hc _ _ _ _)
        | none =>
          rw [enterRecord_lost (r := freshRecord c d s.now) hl hv]
          exact .refl _
    | some r =>
      have code : r.code.severity ≠ .trip := by rwa [(key_of_find? hf).1]
      by_cases hs : r.state = .clearedUnack
      · rw [raiseRecord_anew hj hf hs]
        refine report_tripsFrom ?_ _ _ _ s
        exact code
      · rw [raiseRecord_again hj hf hs]
        refine report_tripsFrom ?_ _ _ _ s
        exact code
  · rw [raiseQuiet_idle (by simpa using hj)]
    exact .refl _

theorem rearmIf_table (p : Prop) [Decidable p] (t : State) : (if p then setRearm t else t).table = t.table := by
  split
  · exact (setRearm_frame t).1 .table (by decide)
  · rfl

/-- A clear of no TRIP forms no TRIP record. -/
theorem clearAlarm_tripsFrom (hc : c.severity ≠ .trip) (d : Option Nat) (s : State) :
    TripsFrom s.table (clearAlarm c d s).table := by
  unfold clearAlarm; dsimp only
  split
  · exact .refl _
  · split
    · exact .refl _
    · next r hf =>
      have code : r.code.severity ≠ .trip := by rwa [(key_of_find? hf).1]
      rw [rearmIf_table]
      split
      · exact .refl _
      · exact report_tripsFrom code _ _ _ s
      · exact report_tripsFrom (r := { r with state := .clearedUnack }) code _ _ _ s

theorem Moves.tripsFrom (m : Moves gs s t) (h : ∀ g ∈ gs, Block.table ∈ g.blocks → g = .dropped) :
    TripsFrom s.table t.table :=
  m.rel (R := fun u v => TripsFrom u.table v.table) (fun _ => .refl _) (fun _ _ _ => .trans) fun g hg u v m => by
    by_cases hb : Block.table ∈ g.blocks
    · obtain rfl := h g hg hb
      cases m with
      | dropped n => exact (raiseQuiet_tripsFrom (by decide) _ u).trans (clearAlarm_tripsFrom (by decide) _ _)
    · rw [show v.table = u.table from m.frame.1 .table hb]
      exact .refl _

/-! ### The TRIP records that stand -/

/-- A full table gives up warnings alone (R178). -/
theorem mem_tableRoom {l l' : List TableRecord} (h : tableRoom l = some l') (hx : x ∈ l)
    (ht : x.severity ≠ .warn) : x ∈ l' := by
  have erased : ∀ {k : Nat} {p : TableRecord → Bool}, l.findIdx? p = some k → (∀ y, p y = true → y.severity = .warn) →
      x ∈ l.eraseIdx k := by
    intro k p hk hp
    obtain ⟨hlt, found, -⟩ := List.findIdx?_eq_some_iff_getElem.1 hk
    obtain ⟨j, hj⟩ := List.mem_iff_getElem?.1 hx
    refine List.mem_eraseIdx_iff_getElem?.2 ⟨j, fun hjk => ht ?_, hj⟩
    rw [hjk, List.getElem?_eq_getElem hlt] at hj
    rw [← Option.some.inj hj]
    exact hp _ found
  unfold tableRoom at h
  split at h
  · cases h; exact hx
  · split at h
    · next hk => cases h; exact erased hk fun y hy => by simp at hy; exact hy.1
    · cases hk : l.findIdx? fun r => r.severity == .warn with
      | none => rw [hk] at h; cases h
      | some k => rw [hk] at h; cases h; exact erased hk fun y hy => by simpa using hy

/-- A record entered leaves the TRIP records of other keys. -/
theorem mem_mergeTable_of_other {m : Merge} {t : MachineTable} {st : AlarmState} (hm : m.state = some st)
    (hx : x ∈ t.records) (ht : x.severity ≠ .warn) (hk : x.key ≠ (m.source, m.code, m.detail)) :
    x ∈ (mergeTable m t).records := by
  have other : ¬ sameKey m.source m.code m.detail x = true := fun h => hk (sameKey_iff.1 h)
  by_cases hp : ∃ y ∈ t.records, y.key = (m.source, m.code, m.detail)
  · rw [mergeTable_present hm hp]
    unfold tableUpdate
    split
    · exact List.mem_map.2 ⟨x, hx, if_neg other⟩
    · exact mem_tableInsert.2 (.inr (List.mem_filter.2 ⟨hx, by simpa [Merge.record] using other⟩))
  · rw [mergeTable_absent hm (by simpa using hp), refreshFirstOut_records]
    unfold tableForm
    split
    · exact hx
    · split
      · next hr => exact mem_tableInsert.2 (.inr (mem_tableRoom hr hx ht))
      · exact hx

/-- A report of a record that stands leaves the TRIP records of other keys. -/
theorem mem_report (b : Bool) (l : List AlarmRecord) (hx : x ∈ s.table.records) (ht : x.severity ≠ .warn)
    (hk : x.key ≠ (s.station, r.code, r.detail)) : x ∈ (reportAlarm r false b (setAlarmList l s)).table.records := by
  rw [reportAlarm_table]
  split
  · exact mem_mergeTable_of_other (t := s.table) rfl hx ht hk
  · exact hx

/-- A raise that finds room, or its own record cleared, leaves the TRIP records of other keys. -/
theorem mem_raise (hl : s.alarms.list.length < 24) (hc : ∀ r ∈ s.alarms.list, isRecord c d r = true → r.state = .clearedUnack)
    (hx : x ∈ s.table.records) (ht : x.severity ≠ .warn) (hk : x.key ≠ (s.station, c, d)) :
    x ∈ (raiseQuiet c d s).table.records := by
  by_cases hj : s.joined = true
  · unfold raiseQuiet
    cases hf : s.alarms.list.find? (isRecord c d) with
    | none =>
      rw [raiseRecord_absent hj hf, enterRecord_room hl]
      exact mem_report _ _ hx ht hk
    | some r =>
      obtain ⟨code, detail⟩ := key_of_find? hf
      rw [raiseRecord_anew hj hf (hc r (List.mem_of_find?_eq_some hf) (List.find?_some hf))]
      exact mem_report _ _ hx ht (by rw [code, detail]; exact hk)
  · rwa [raiseQuiet_idle (by simpa using hj)]

/-- A clear of an active record leaves the TRIP records of other keys. -/
theorem mem_clear (hc : ∀ r ∈ s.alarms.list, isRecord c d r = true → r.state = .activeUnack)
    (hx : x ∈ s.table.records) (ht : x.severity ≠ .warn) (hk : x.key ≠ (s.station, c, d)) :
    x ∈ (clearAlarm c d s).table.records := by
  unfold clearAlarm; dsimp only
  split
  · exact hx
  · split
    · exact hx
    · next r hf =>
      obtain ⟨code, detail⟩ := key_of_find? hf
      rw [rearmIf_table, hc r (List.mem_of_find?_eq_some hf) (List.find?_some hf)]
      exact mem_report (r := { r with state := .clearedUnack }) _ _ hx ht (by rw [code, detail]; exact hk)

/-! ### The length of the list -/

theorem length_others (h : (s.alarms.list.map AlarmRecord.key).Nodup) :
    s.alarms.list.length ≤ (s.alarms.list.filter fun x => !isRecord c d x).length + 1 := by
  have one : s.alarms.list.countP (isRecord c d) ≤ 1 := by
    refine le_trans (List.countP_mono_left fun x _ hx => ?_) ((List.countP_map).symm.le.trans
      (List.nodup_iff_count_le_one.1 h (c, d)))
    exact beq_iff_eq.2 (isRecord_iff.1 hx)
  have split := List.length_eq_countP_add_countP (isRecord c d) (l := s.alarms.list)
  have rest : (s.alarms.list.filter fun x => !isRecord c d x).length = s.alarms.list.countP fun x => ¬ isRecord c d x = true := by
    rw [List.countP_eq_length_filter]
    exact congrArg List.length (List.filter_congr fun x _ => by simp)
  omega

/-- No raise shortens the list. -/
theorem length_raise (h : (s.alarms.list.map AlarmRecord.key).Nodup) (c : AlarmCode) (d : Option Nat) :
    s.alarms.list.length ≤ (raiseQuiet c d s).alarms.list.length := by
  by_cases hj : s.joined = true
  · unfold raiseQuiet
    cases hf : s.alarms.list.find? (isRecord c d) with
    | none =>
      rw [raiseRecord_absent hj hf]
      by_cases hl : s.alarms.list.length < Config.alarmListSize
      · rw [enterRecord_room hl, report_list, length_alarmInsert]
        exact Nat.le_succ _
      · cases hv : alarmVictim c.severity s.alarms.list with
        | some k =>
          rw [enterRecord_evicts (r := freshRecord c d s.now) hl hv, report_list, length_alarmInsert,
            List.length_eraseIdx_of_lt (alarmVictim_lt hv)]
          omega
        | none =>
          rw [enterRecord_lost (r := freshRecord c d s.now) hl hv]
          exact le_rfl
    | some r =>
      by_cases hs : r.state = .clearedUnack
      · rw [raiseRecord_anew hj hf hs, report_list, length_alarmInsert]
        exact length_others h
      · rw [raiseRecord_again hj hf hs, report_list, List.length_map]
  · rw [raiseQuiet_idle (by simpa using hj)]

/-- The clear of an active record leaves the list its length. -/
theorem length_clear (hc : ∀ r ∈ s.alarms.list, isRecord c d r = true → r.state = .activeUnack) :
    (clearAlarm c d s).alarms.list.length = s.alarms.list.length := by
  by_cases hj : s.joined = true
  · cases hf : s.alarms.list.find? (isRecord c d) with
    | none => rw [clearAlarm_absent hf]
    | some r =>
      rw [clearAlarm_active hj hf (hc r (List.mem_of_find?_eq_some hf) (List.find?_some hf)), List.length_map]
  · rw [clearAlarm_idle (by simpa using hj)]

/-! ### A dropped loan (R108) -/

/-- The lists stand in order and every dropped loan is cleared; the alarm list is no shorter, and while it has room left
every TRIP record of the table stands. -/
def TripsStay (s t : State) : Prop := ListsOrdered s → LoanDropsCleared s → ListsOrdered t ∧ LoanDropsCleared t
  ∧ s.alarms.list.length ≤ t.alarms.list.length
  ∧ (t.alarms.list.length < 24 → ∀ x ∈ s.table.records, x.severity = .trip → x ∈ t.table.records)

theorem TripsStay.refl (s : State) : TripsStay s s := fun hl hd => ⟨hl, hd, le_rfl, fun _ _ h _ => h⟩

theorem TripsStay.trans {u : State} (h : TripsStay s t) (k : TripsStay t u) : TripsStay s u := fun hl hd => by
  obtain ⟨hl, hd, longer, stay⟩ := h hl hd
  obtain ⟨hl, hd, longer', stay'⟩ := k hl hd
  exact ⟨hl, hd, longer.trans longer', fun room x hx ht => stay' room x (stay (longer'.trans_lt room) x hx ht) ht⟩

/-- After the raise of a dropped loan its record is the only one of its key that stands active. -/
theorem raised_active (hd : DropsClear s.alarms.list) (hj : s.joined = true) (n : Nat) :
    ∀ r ∈ (raiseQuiet .shareLoanDropped (some n) s).alarms.list, isRecord .shareLoanDropped (some n) r = true →
      r.state = .activeUnack := by
  intro r hr hi
  rcases mem_raiseRecord hr with ⟨-, other⟩ | ⟨-, idle⟩ | ⟨-, active⟩ | ⟨-, x, hx, key, standing⟩
  · rw [hi] at other; cases other
  · rw [hj] at idle; cases idle
  · exact active
  · exact absurd (hd x hx (isRecord_code key)) standing

theorem loanDropped_tripsStay (n : Nat) (s : State) : TripsStay s (loanDropped n s) := by
  intro hl hd
  refine ⟨(Move.dropped n s).listsOrdered hl, (Move.dropped n s).loanDrops hd, ?_⟩
  by_cases hj : s.joined = true
  · have active := raised_active hd.cleared hj n
    have longer := length_raise hl.listKeys .shareLoanDropped (some n)
    have length := length_clear active
    refine ⟨longer.trans length.ge, fun room x hx ht => ?_⟩
    have apart : x.key ≠ (s.station, .shareLoanDropped, some n) := fun key => by
      have warn := hd.warns x hx (congrArg Prod.fst key) (congrArg (fun k => k.2.1) key)
      rw [ht] at warn
      cases warn
    have high : x.severity ≠ .warn := by rw [ht]; decide
    have stays := mem_raise (longer.trans_lt (length.ge.trans_lt room)) (fun r hr hi => hd.cleared r hr (isRecord_code hi))
      hx high apart
    refine mem_clear active stays high ?_
    rwa [station_of_startup ((raiseQuiet_frame _ _ s).1 .startup (by decide))]
  · have idle : s.joined = false := by simpa using hj
    rw [loanDropped, raiseAndClear, raiseQuiet_idle idle, clearAlarm_idle idle]
    exact ⟨le_rfl, fun _ _ h _ => h⟩

theorem Moves.tripsStay (m : Moves gs s t)
    (h : ∀ g ∈ gs, Block.table ∈ g.blocks ∨ Block.alarms ∈ g.blocks → g = .dropped) :
    TripsStay s t :=
  m.rel TripsStay.refl (fun _ _ _ => .trans) fun g hg u v m => by
    by_cases hb : Block.table ∈ g.blocks ∨ Block.alarms ∈ g.blocks
    · obtain rfl := h g hg hb
      cases m with
      | dropped n => exact loanDropped_tripsStay n u
    · intro hl hd
      have alarms : v.alarms = u.alarms := m.frame.1 .alarms fun h => hb (.inr h)
      have table : v.table = u.table := m.frame.1 .table fun h => hb (.inl h)
      exact ⟨m.listsOrdered hl, m.loanDrops hd, by rw [alarms], fun _ x hx _ => by rwa [table]⟩

/-! ### The share unit's returns at a cycle start -/

/-- The table stands, or a placement was refused. -/
structure Undropped (s t : State) : Prop where
  grown : Grown s.line.counters.refused t.line.counters.refused
  table : t.table = s.table ∨ Risen s.line.counters.refused t.line.counters.refused

theorem Undropped.trans {u : State} (h : Undropped s t) (k : Undropped t u) : Undropped s u :=
  ⟨h.grown.trans k.grown, by
    rcases h.table with ht | ht
    · rcases k.table with kt | kt
      · exact .inl (kt.trans ht)
      · exact .inr (h.grown.risen kt)
    · exact .inr (ht.then k.grown)⟩

/-- The share unit's own counts leave the table. -/
theorem Undropped.of_share {g : Share → Share} (h : Undropped (s.onShare g) t) : Undropped s t := ⟨h.grown, h.table⟩

theorem Undropped.note (h : Undropped s t) (e : Event) : Undropped s (t.note e) := ⟨h.grown, h.table⟩

/-- Moves that change no table. -/
theorem Moves.undropped (m : Moves gs s t) (h : gs.all (Tag.leaves .table) = true) : Undropped s t :=
  ⟨m.refusals, .inl (m.block .table h)⟩

theorem sendReturn_undropped (peer k : Nat) (g : Word) (s : State) : Undropped s (sendReturn peer k g s) := by
  refine ⟨(sendReturn_moves peer k g s).refusals, ?_⟩
  unfold sendReturn
  split
  · next he => exact .inr ((enqueue_refusal he).then (returnFailed_moves _ _ _ _).refusals)
  · next he => exact .inl ((enqueue_eq_frame he).1 .table (by decide))

theorem returnRecord_undropped (peer k : Nat) (s : State) : Undropped s (returnRecord peer k s) := by
  unfold returnRecord
  split
  · exact ⟨.refl _, .inl rfl⟩
  · exact (sendReturn_undropped peer k _ _).of_share

theorem shedReturns_undropped (l : List BorrowedRecord) (s : State) : Undropped s (shedReturns l s) := by
  induction l generalizing s with
  | nil => exact ⟨.refl _, .inl rfl⟩
  | cons r l ih => exact (returnRecord_undropped r.peer r.shed s).trans (ih _)

theorem voluntaryCycle_undropped (s : State) : Undropped s (voluntaryCycle s) := by
  unfold voluntaryCycle
  split
  · exact ⟨.refl _, .inl rfl⟩
  · split
    · exact ⟨.refl _, .inl rfl⟩
    · split
      · exact (returnRecord_undropped _ _ _).of_share.note _
      · exact ⟨.refl _, .inl rfl⟩

/-- The pressure and the ask-wait counts leave the table. -/
theorem pressured_undropped (s : State) : Undropped s (pressureCycle (askWaitCycle s)) :=
  (((askWaitCycle_moves s).mono (by decide)).trans ((pressureCycle_moves _).mono (by decide)) :
    Moves pressureTags s _).undropped (by decide)

/-- A cycle start drops a loan only at a refused placement. -/
theorem shareCycle_undropped (s : State) : Undropped s (shareCycle s) := by
  by_cases hj : s.joined = true
  · rw [shareCycle_eq hj, shedCycle_eq]
    exact (pressured_undropped s).trans ((voluntaryCycle_undropped _).trans (shedReturns_undropped _ _).of_share)
  · rw [shareCycle, if_neg hj]
    exact ⟨.refl _, .inl rfl⟩

theorem shedCycle_table (h : s.share.borrowedRecords = []) : (shedCycle s).table = s.table := by
  have counted : (shedCounted s).share.borrowedRecords = [] := congrArg (List.map BorrowedRecord.waits) h
  rw [shedCycle_eq, counted]
  rfl

/-- A station that has borrowed nothing drops no loan. -/
theorem shareCycle_table (h : s.share.borrowedRecords = []) : (shareCycle s).table = s.table := by
  have none : ∀ u : State, u.share.borrowedRecords = [] → voluntaryCycle u = u.onShare fun h => { h with voluntary := 0 } := by
    intro u hu
    unfold voluntaryCycle
    rw [hu]
    rfl
  by_cases hj : s.joined = true
  · have pressed : Moves pressureTags s (pressureCycle (askWaitCycle s)) :=
      ((askWaitCycle_moves s).mono (by decide)).trans ((pressureCycle_moves _).mono (by decide))
    have empty : (pressureCycle (askWaitCycle s)).share.borrowedRecords = [] :=
      List.length_eq_zero_iff.1 (Nat.le_zero.1 (pressed.loansShrink.trans (by rw [h]; exact le_rfl)))
    have table : (pressureCycle (askWaitCycle s)).table = s.table := pressed.block .table (by decide)
    rw [shareCycle_eq hj, none _ empty]
    generalize pressureCycle (askWaitCycle s) = u at empty table
    have counted : (u.onShare fun h => { h with voluntary := 0 }).share.borrowedRecords = [] := empty
    exact (shedCycle_table counted).trans table
  · rw [shareCycle, if_neg hj]

end

end Sys2Proof.Machine

end

section
/-! PROOFS. What the cab samples and places at a cycle start (R56 to R60, R182, R183). -/

namespace Sys2Proof.Machine

/-! ### The contents of the REFERENCE (R56, R57, R60) -/

/-- The reference of a channel reading, as TABLE 4-2 has it. -/
theorem handleReference_eq (p : HandleParams) (x : Nat) : handleReference p x =
    if handleInRange x = false ∨ ((x : Int) - p.centre).natAbs ≤ p.deadband then 0
    else max (-1000) (min 1000 ((((x : Int) - p.centre) * 1000).tdiv p.span)) := by
  have clamped : ∀ y : Int, clampInt (-1000) 1000 y = max (-1000) (min 1000 y) := fun y => by
    unfold clampInt
    split
    · omega
    · split <;> omega
  unfold handleReference scaleHandle; dsimp only
  cases handleInRange x with
  | false => simp
  | true =>
    rw [if_pos rfl]
    simp only [Bool.true_eq_false, false_or]
    split
    · rfl
    · rw [clamped]
      rfl

section
variable {s t u : State} {gs : List Tag} {n : Nat}

/-! ### The presses (R58, R182, R183) -/

/-- What refuses a RESTART at the cab of station `n`: a TRIP record in the table, or a fresh station (R183). -/
def Refuses (n : Nat) (s : State) : Prop := (∃ r ∈ s.table.records, r.severity = .trip) ∨ s.share.fresh = true
  ∨ ∃ k < 8, k ≠ n ∧ s.isFresh (s.peer k) = true ∧ (s.peer k).status.fresh = true

theorem refuses_iff (s : State) : ((s.table.records.any fun r => r.severity == .trip) || peerFresh s || s.share.fresh) = true
    ↔ Refuses s.station s := by
  have peers : peerFresh s = true ↔
      ∃ k < 8, k ≠ s.station ∧ s.isFresh (s.peer k) = true ∧ (s.peer k).status.fresh = true := by
    simp [peerFresh, and_assoc]
  rw [Bool.or_eq_true, Bool.or_eq_true, peers]
  simp only [Refuses, List.any_eq_true, beq_iff_eq, or_assoc]
  exact or_congr_right or_comm

theorem restartPress_refused (h : Refuses s.station s) :
    restartPress s = s.onTable fun t => { t with refusalFlash := Config.refusalFlash } := if_pos ((refuses_iff s).2 h)

theorem restartPress_sends (h : ¬ Refuses s.station s) :
    restartPress s = place { kind := .restart, target := Config.broadcast, words := [] } s := if_neg (mt (refuses_iff s).1 h)

/-- The two buttons moved. -/
def buttonsMoved (s : State) : State := s.onCab fun c =>
  { c with ackButton := c.ackButton.step (s.inputActive s.params.cab.ackInput),
           restartButton := c.restartButton.step (s.inputActive s.params.cab.restartInput) }

/-- A recognised RESTART press. -/
def restartHit (s : State) : Bool := s.cab.restartButton.recognised (s.inputActive s.params.cab.restartInput)

/-- A recognised ACK press. -/
def ackHit (s : State) : Bool := s.cab.ackButton.recognised (s.inputActive s.params.cab.ackInput)

/-- The buttons moved and a RESTART press acted on. -/
def restarted (s : State) : State := if restartHit s then restartPress (buttonsMoved s) else buttonsMoved s

theorem sampleButtons_eq (s : State) : sampleButtons s =
    if ackHit s then ackPress ⟨(restarted s).time.cycle, 0⟩ (restarted s) else restarted s := rfl

theorem restarted_after (s : State) : Frame [.line, .table] (buttonsMoved s) (restarted s) := by
  unfold restarted
  split
  · exact restartPress_frame _
  · exact .refl _ _

/-- The buttons at a sample, and what their presses change beside. -/
theorem sampleButtons_after (s : State) : Frame [.line, .table] (buttonsMoved s) (sampleButtons s) := by
  rw [sampleButtons_eq]
  split
  · exact (restarted_after s).comp (place_frame _ _) (by decide) (by decide)
  · exact restarted_after s

theorem sampleButtons_table (s : State) : (sampleButtons s).table = (restarted s).table := by
  rw [sampleButtons_eq]
  split
  · exact place_table _ _
  · rfl

theorem restarted_refused (hit : restartHit s = true) (h : Refuses s.station s) :
    (restarted s).table = { s.table with refusalFlash := 50 } := by
  rw [restarted, if_pos hit, restartPress_refused (s := buttonsMoved s) h]
  rfl

theorem restarted_sends (hit : restartHit s = true) (h : ¬ Refuses s.station s) :
    restarted s = place { kind := .restart, target := Config.broadcast, words := [] } (buttonsMoved s) := by
  rw [restarted, if_pos hit, restartPress_sends (s := buttonsMoved s) h]

theorem restarted_idle (hit : restartHit s = false) : restarted s = buttonsMoved s := if_neg (by simp [hit])

/-- But at a press that is refused the table stands. -/
theorem restarted_table (h : restartHit s = false ∨ ¬ Refuses s.station s) : (restarted s).table = s.table := by
  cases hit : restartHit s with
  | false => rw [restarted_idle hit]; rfl
  | true =>
    rw [restarted_sends hit (h.resolve_left (by simp [hit]))]
    exact place_table _ _

theorem restarted_records (s : State) : (restarted s).table.records = s.table.records := by
  by_cases h : restartHit s = true ∧ Refuses s.station s
  · rw [restarted_refused h.1 h.2]
  · rw [restarted_table (by rwa [not_and_or, Bool.not_eq_true] at h)]

/-- What refuses a RESTART is kept where the TRIP records, the fresh flag and the picture are. -/
theorem Refuses.kept (h : Refuses n s) (trips : (∃ r ∈ s.table.records, r.severity = .trip) →
    ∃ r ∈ t.table.records, r.severity = .trip) (fresh : t.share.fresh = s.share.fresh)
    (peers : t.picture.peers = s.picture.peers) (globals : t.globals = s.globals) : Refuses n t := by
  have peer : ∀ k, t.peer k = s.peer k := fun k => by rw [State.peer, peers, State.peer]
  rcases h with h | h | ⟨k, hk, other, heard, flag⟩
  · exact .inl (trips h)
  · exact .inr (.inl (fresh.trans h))
  · refine .inr (.inr ⟨k, hk, other, ?_, ?_⟩)
    · rwa [State.isFresh, peer, globals]
    · rwa [peer]

/-! ### The cab function's cycle start (R55) -/

/-- The handles judged and the switch sampled. -/
def switchSampled (s : State) : State :=
  (handlesJudged s).onCab (sampleWalkMode (s.inputActive s.params.cab.walkModeInput))

/-- The cab function up to the REFERENCE. -/
theorem cabCycle_places (hc : s.role = .cab) (hj : s.joined = true) : cabCycle s =
    placeReference (rankAfter .alarm s (handlesJudged s)) (sampleButtons (switchSampled s)) :=
  (cabCycle_eq s).trans (if_pos ⟨hc, hj⟩)

theorem switchSampled_frame (s : State) : Frame [.cab] (handlesJudged s) (switchSampled s) := onCab_frame _ _

theorem switchSampled_startup (s : State) : (switchSampled s).startup = s.startup :=
  ((switchSampled_frame s).1 .startup (by decide)).trans (handlesJudged_moves s).startup

theorem switchSampled_active (s : State) (sel : InputSel) : (switchSampled s).inputActive sel = s.inputActive sel := by
  have inputs : (switchSampled s).inputs = s.inputs :=
    ((switchSampled_frame s).1 .inputs (by decide)).trans ((handlesJudged_moves s).block .inputs (by decide))
  rw [State.inputActive, inputs, State.inputActive]

theorem switchSampled_cab (h : s.cab.handleFault.length = 4) : (switchSampled s).cab =
    sampleWalkMode (s.inputActive s.params.cab.walkModeInput) { s.cab with handleFault :=
      [outOfRange s.inputs 0, outOfRange s.inputs 1, outOfRange s.inputs 2, outOfRange s.inputs 3] } :=
  congrArg (sampleWalkMode _) (handlesJudged_cab h)

/-- The presses are of the buttons as the cycle start finds them. -/
theorem switchSampled_hits (h : s.cab.handleFault.length = 4) :
    restartHit (switchSampled s) = restartHit s ∧ ackHit (switchSampled s) = ackHit s := by
  rw [restartHit, ackHit, switchSampled_active, switchSampled_active, params_of_startup (switchSampled_startup s),
    switchSampled_cab h]
  exact ⟨rfl, rfl⟩

theorem cabCycle_after (hc : s.role = .cab) (hj : s.joined = true) :
    Frame [.line, .table] (buttonsMoved (switchSampled s)) (cabCycle s) := by
  rw [cabCycle_places hc hj]
  exact (sampleButtons_after _).comp (place_frame _ _) (by decide) (by decide)

/-- The cab function at a cycle start, its handles, its switch and its buttons (R57 to R59). -/
theorem cabCycle_cab (hc : s.role = .cab) (hj : s.joined = true) (h : s.cab.handleFault.length = 4) : (cabCycle s).cab =
    { s.cab with
        handleFault := [outOfRange s.inputs 0, outOfRange s.inputs 1, outOfRange s.inputs 2, outOfRange s.inputs 3],
        ackButton := s.cab.ackButton.step (s.inputActive s.params.cab.ackInput),
        restartButton := s.cab.restartButton.step (s.inputActive s.params.cab.restartInput),
        walkSample := s.inputActive s.params.cab.walkModeInput,
        walkMode := if s.inputActive s.params.cab.walkModeInput = s.cab.walkSample
          then s.inputActive s.params.cab.walkModeInput else s.cab.walkMode } := by
  refine Eq.trans ((cabCycle_after hc hj).1 .cab (by decide)) ?_
  unfold buttonsMoved
  rw [State.onCab_cab, switchSampled_active, switchSampled_active, params_of_startup (switchSampled_startup s),
    switchSampled_cab h, sampleWalkMode_eq]

theorem cabCycle_table (hc : s.role = .cab) (hj : s.joined = true) :
    (cabCycle s).table = (restarted (switchSampled s)).table := by
  rw [cabCycle_places hc hj, placeReference, place_table, sampleButtons_table]

/-- What refuses a RESTART is the same after the press as at the press. -/
theorem cabCycle_refuses (hc : s.role = .cab) (hj : s.joined = true) :
    Refuses n (cabCycle s) ↔ Refuses n (switchSampled s) := by
  have after := cabCycle_after hc hj
  have records := (congrArg MachineTable.records (cabCycle_table hc hj)).trans (restarted_records _)
  generalize cabCycle s = v at *
  generalize switchSampled s = w at *
  have fresh : v.share.fresh = w.share.fresh := congrArg Share.fresh (after.1 .share (by decide))
  have peers : v.picture.peers = w.picture.peers := congrArg Picture.peers (after.1 .picture (by decide))
  have globals : v.globals = w.globals := globals_of_startup (after.1 .startup (by decide))
  exact ⟨fun h => h.kept (by rw [records]; exact id) fresh.symm peers.symm globals.symm,
    fun h => h.kept (by rw [records]; exact id) fresh peers globals⟩

/-- A RESTART press that is refused starts the flash (R183). -/
theorem cabCycle_flashes (hc : s.role = .cab) (hj : s.joined = true) (h : s.cab.handleFault.length = 4)
    (hit : restartHit s = true) (hr : Refuses s.station (cabCycle s)) : (cabCycle s).table.refusalFlash = 50 := by
  rw [cabCycle_refuses hc hj, ← station_of_startup (switchSampled_startup s)] at hr
  rw [cabCycle_table hc hj, restarted_refused ((switchSampled_hits h).1.trans hit) hr]

/-- Else the cab function leaves the flash. -/
theorem cabCycle_calm (hc : s.role = .cab) (hj : s.joined = true) (h : s.cab.handleFault.length = 4)
    (hit : restartHit s = false ∨ ¬ Refuses s.station (cabCycle s)) :
    (cabCycle s).table.refusalFlash = s.table.refusalFlash := by
  rw [cabCycle_refuses hc hj, ← station_of_startup (switchSampled_startup s), ← (switchSampled_hits h).1] at hit
  rw [cabCycle_table hc hj, restarted_table hit,
    show (switchSampled s).table = _ from (switchSampled_frame s).1 .table (by decide)]
  exact (handlesJudged_moves s).refusal (by decide) (by decide)

/-! ### The bulletins placed -/

/-- A broadcast of the kind and the words, of this instant. -/
def Sent (k : Kind) (w : List Word) (e : Entry) : Prop :=
  e.kind = k ∧ e.target = 15 ∧ e.words = w ∧ e.inFlight = false ∧ e.waited = 0

theorem lasting_sent (k : Kind) (w : List Word) : Lasting (Sent k w) := ⟨fun _ h => h, fun _ h => h⟩

/-- The bulletin stands in the queue, or since the state `s` a placement was refused or an entry evicted. -/
def Posted (k : Kind) (w : List Word) (s t : State) : Prop := (∃ e ∈ t.line.queue, Sent k w e)
  ∨ Risen s.line.counters.evicted t.line.counters.evicted ∨ Risen s.line.counters.refused t.line.counters.refused

theorem Moves.evictions (m : Moves gs s t) : Grown s.line.counters.evicted t.line.counters.evicted :=
  (m.lineSteps (b := true) fun _ _ _ => rfl).grown.evicted

theorem Posted.since {k : Kind} {w : List Word} (h : Posted k w u t) (m : Moves gs s u) : Posted k w s t :=
  h.imp_right (Or.imp m.evictions.risen m.refusals.risen)

theorem place_posted {k : Kind} {w : List Word} {e : Entry} (h : Sent k w e) (m : Moves gs (place e s) t)
    (hg : gs.all (Tag.spares k) = true) (ha : Tag.age ∉ gs) : Posted k w s t := by
  have grown := (countersGrown_enqueue e s).evicted
  cases hp : enqueue e s with
  | mk v a =>
    have placed : place e s = v := congrArg Prod.fst hp
    rw [placed] at m
    rw [hp] at grown
    by_cases hr : a = .refused
    · subst hr
      exact .inr (.inr ((enqueue_refusal hp).then m.refusals))
    · obtain ⟨x, hx, form⟩ := enqueue_admitted hp hr
      have sent : Sent k w x := by rcases form with rfl | rfl <;> exact h
      have stays := m.stays (lasting_sent k w) (fun _ h => h.1) hg (fun h => absurd h ha) ⟨grown, .inl ⟨x, hx, sent⟩⟩
      exact stays.stays.imp_right .inl

theorem switchSampled_moves (s : State) : Moves cabTags s (switchSampled s) :=
  ((handlesJudged_moves s).mono (by decide)).trans
    ((Move.cab .walkMode (sampleWalkMode _) (handlesJudged s) rfl).moves (by decide))

theorem buttonsMoved_moves (s : State) : Moves cabTags s (buttonsMoved s) := by
  unfold buttonsMoved
  exact (Move.cab .buttons _ s (by exact rfl)).moves (by decide)

theorem restarted_moves (s : State) : Moves cabTags s (restarted s) := by
  unfold restarted
  split
  · exact (buttonsMoved_moves s).trans (restartPress_moves _)
  · exact buttonsMoved_moves s

/-- The moves after the buttons are sampled. -/
def placedTags : List Tag := .place .reference :: lateTags

/-- The moves after a RESTART press. -/
def pressedTags : List Tag := .place .alarmAck :: placedTags

/-- A cycle start of the cab function after its buttons. -/
theorem cabCycle_rest (hc : s.role = .cab) (hj : s.joined = true) (late : Moves lateTags (cabCycle s) t) :
    Moves placedTags (sampleButtons (switchSampled s)) t := by
  rw [cabCycle_places hc hj] at late
  exact (place_moves _ (new_entry _ _ _ _ _ _) (by simp) (by simp [Kind.cls]) (by simp [placedTags])).trans
    (late.mono fun _ h => List.mem_cons_of_mem _ h)

/-- The REFERENCE of the cycle start (R60). -/
theorem reference_posted (hc : s.role = .cab) (hj : s.joined = true) (late : Moves lateTags (cabCycle s) t) :
    Posted .reference (referenceFields (sampleButtons (switchSampled s))).words s t := by
  have before := (switchSampled_moves s).trans (sampleButtons_moves _)
  rw [cabCycle_places hc hj] at late
  generalize sampleButtons (switchSampled s) = u at *
  exact (place_posted (k := .reference) ⟨rfl, rfl, rfl, rfl, rfl⟩ late (by decide) (by decide)).since before

/-- The ALARM-ACK of a recognised ACK press (R182). -/
theorem alarmAck_posted (hc : s.role = .cab) (hj : s.joined = true) (h : s.cab.handleFault.length = 4)
    (late : Moves lateTags (cabCycle s) t) (hit : ackHit s = true) :
    Posted .alarmAck (Stamp.words ⟨s.time.cycle, 0⟩) s t := by
  have rest := cabCycle_rest hc hj late
  rw [sampleButtons_eq, if_pos ((switchSampled_hits h).2.trans hit)] at rest
  have before := (switchSampled_moves s).trans (restarted_moves _)
  generalize restarted (switchSampled s) = u at *
  have time : u.time = s.time := before.block .time (by decide)
  rw [time] at rest
  exact (place_posted (k := .alarmAck) ⟨rfl, rfl, rfl, rfl, rfl⟩ rest (by decide) (by decide)).since before

/-- The RESTART of a recognised press that is not refused (R183). -/
theorem restart_posted (hc : s.role = .cab) (hj : s.joined = true) (h : s.cab.handleFault.length = 4)
    (late : Moves lateTags (cabCycle s) t) (hit : restartHit s = true) (hr : ¬ Refuses s.station (cabCycle s)) :
    Posted .restart [] s t := by
  rw [cabCycle_refuses hc hj, ← station_of_startup (switchSampled_startup s)] at hr
  have rest : Moves pressedTags (restarted (switchSampled s)) t := by
    have rest := (cabCycle_rest hc hj late).mono fun _ h => List.mem_cons_of_mem (.place .alarmAck) h
    rw [sampleButtons_eq] at rest
    split at rest
    · exact (place_moves _ (new_entry _ _ _ _ _ _) (by simp) (by simp [Kind.cls]) (by simp [pressedTags])).trans rest
    · exact rest
  rw [restarted_sends ((switchSampled_hits h).1.trans hit) hr] at rest
  have before := (switchSampled_moves s).trans (buttonsMoved_moves _)
  generalize buttonsMoved (switchSampled s) = u at *
  exact (place_posted (k := .restart) ⟨rfl, rfl, rfl, rfl, rfl⟩ rest (by decide) (by decide)).since before

end

end Sys2Proof.Machine

end

section
/-! PROOFS. The cab's cycle start from the timer's expiry to its end (R23, R55, R183). -/

namespace Sys2Proof.Machine

section
variable {s a t u : State} {i : Inputs} {gs : List Tag}

/-! ### Up to the cab function -/

/-- A cycle start up to the cab function. -/
def flashed (s : State) : State := annunciatorCycle (ringed s)

/-- The moves of a cycle start up to the cab function. -/
def flashedTags : List Tag := countsTags ++ ringTags ++ annunciatorTags

theorem flashed_moves (s : State) : Moves flashedTags s (flashed s) :=
  ((ringed_moves s).mono fun _ h => List.mem_append_left _ h).trans
    ((annunciatorCycle_moves _).mono fun _ h => List.mem_append_right _ h)

theorem untilCab_moves (i : Inputs) (s : State) : Moves (fallTags ++ flashedTags) (ticked s) (flashed (fallen i s)) :=
  ((fallen_moves i s).mono fun _ h => List.mem_append_left _ h).trans
    ((flashed_moves _).mono fun _ h => List.mem_append_right _ h)

theorem flashed_cycle (i : Inputs) (s : State) : (flashed (fallen i s)).time.cycle = s.time.cycle + 1 := by
  have ring : (ringed (fallen i s)).time = (cycleCounts (fallen i s)).time := (ringCycle_moves _).block .time (by decide)
  have flash : (flashed (fallen i s)).time = (ringed (fallen i s)).time := (annunciatorCycle_moves _).block .time (by decide)
  rw [flash, ring, cycleCounts_time, fallen_time]

theorem annunciatorCycle_refusal (hc : s.role = .cab) :
    (annunciatorCycle s).table.refusalFlash = s.table.refusalFlash - 1 := by
  unfold annunciatorCycle
  rw [if_pos hc]; dsimp only
  split <;> split <;> rfl

theorem flashed_refusal (hc : s.role = .cab) (i : Inputs) :
    (flashed (fallen i s)).table.refusalFlash = s.table.refusalFlash - 1 := by
  have ring := ringed_moves (fallen i s)
  obtain ⟨-, -, flash⟩ := fallen_flash i s
  rw [flashed, annunciatorCycle_refusal (ring.role.trans ((fallen_role i s).trans hc)), ring.refusal (by decide) (by decide),
    flash]

/-- The cab function but for its record of the emergency input. -/
def Cab.calm (c : Cab) : Cab := { c with emergency := none }

theorem flashed_cab (i : Inputs) (s : State) : (flashed (fallen i s)).cab.calm = s.cab.calm := by
  have flash : (flashed (fallen i s)).cab = (fallen i s).cab := (flashed_moves _).block .cab (by decide)
  rw [flash]
  exact (fallen_moves i s).cabField Cab.calm fun p hp c c' ho => by
    cases p with
    | emergency => rw [ho]; rfl
    | _ => exact absurd hp (by decide)

/-- What the cab function finds at a cycle start of state `s`. -/
structure CabStart (i : Inputs) (s a : State) : Prop where
  role : a.role = .cab
  joined : a.joined = true
  params : a.params = s.params
  station : a.station = s.station
  inputs : a.inputs = i
  cycle : a.time.cycle = s.time.cycle + 1
  refusal : a.table.refusalFlash = s.table.refusalFlash - 1
  cab : a.cab.calm = s.cab.calm
  refused : Grown s.line.counters.refused a.line.counters.refused
  evicted : Grown s.line.counters.evicted a.line.counters.evicted
  lost : Grown s.alarms.lost a.alarms.lost
  loans : a.share.borrowedRecords.length ≤ s.share.borrowedRecords.length
  lists : ListsOrdered s → ListsOrdered a
  drops : LoanDropsCleared s → LoanDropsCleared a

theorem flashed_start (hc : s.role = .cab) (hj : s.joined = true) (i : Inputs) : CabStart i s (flashed (fallen i s)) := by
  have m := untilCab_moves i s
  have startup : (flashed (fallen i s)).startup = s.startup := m.startup
  exact {
    role := (role_of_startup startup).trans hc
    joined := (joined_of_startup startup).trans hj
    params := params_of_startup startup
    station := station_of_startup startup
    inputs := ((flashed_moves _).block .inputs (by decide)).trans (fallen_inputs i s)
    cycle := flashed_cycle i s
    refusal := flashed_refusal hc i
    cab := flashed_cab i s
    refused := m.refusals
    evicted := m.evictions
    lost := m.lost
    loans := m.loansShrink
    lists := fun h => m.listsOrdered ⟨h.1, h.2, h.3, h.4⟩
    drops := fun h => m.keeps (fun _ _ _ _ m => m.loanDrops) ⟨h.1, h.2, h.3⟩ }

/-- At the cab the drive chain is idle. -/
theorem chainCycle_idle (hc : s.role = .cab) : chainCycle s = s := by
  refine if_neg ?_
  rw [hc]
  simp [Role.isAxis]

/-- At the cab the share unit comes after the cab function. -/
theorem afterCab_moves (hc : s.role = .cab) (i : Inputs) :
    Moves statusTags (shareCycle (cabCycle (flashed (fallen i s)))) (cycleWork (fallen i s)) := by
  have rest := fromShare_moves (fallen i s)
  have role : (cabbed (fallen i s)).role = .cab := (cabbed_moves _).role.trans ((fallen_role i s).trans hc)
  rw [shared, show chained (fallen i s) = cabbed (fallen i s) from chainCycle_idle role] at rest
  exact rest

theorem late_moves (rest : Moves statusTags (shareCycle u) t) : Moves lateTags u t :=
  ((shareCycle_moves u).mono fun _ h => List.mem_append_left _ h).trans (rest.mono fun _ h => List.mem_append_right _ h)

/-! ### What refuses a RESTART, after the cycle start -/

/-- The cycle start drops no TRIP record after the press: no placement was refused, nothing is borrowed, or the list has
room left. -/
def Keeping (s t : State) : Prop := (s.line.counters.refused < 65535 ∧ t.line.counters.refused = s.line.counters.refused)
  ∨ s.share.borrowedRecords = [] ∨ (t.alarms.list.length < 24 ∧ ListsOrdered s ∧ LoanDropsCleared s)

/-- Between the press and the end of the cycle start no cause of a refusal comes up. -/
theorem refuses_before {n : Nat} (late : Moves lateTags a t) (h : Refuses n t) : Refuses n a :=
  h.kept (fun ⟨r, hr, ht⟩ => ⟨r, late.tripsFrom (by decide) r hr ht, ht⟩) (late.fresh (by decide)).symm
    (late.peers (by decide)).symm late.globals.symm

theorem not_risen {n : Nat} (h : n < 65535) : ¬ Risen n n := by
  unfold Risen
  omega

/-- The TRIP records at the press stand after the cycle start. -/
theorem trips_stay {x : TableRecord} (start : CabStart i s a) (moved : Moves cabTags a u)
    (rest : Moves statusTags (shareCycle u) t) (hk : Keeping s t) (hx : x ∈ u.table.records) (ht : x.severity = .trip) :
    x ∈ t.table.records := by
  have table : t.table = (shareCycle u).table := rest.block .table (by decide)
  rcases hk with ⟨low, same⟩ | empty | ⟨room, lists, drops⟩
  · rw [table]
    rcases (shareCycle_undropped u).table with stands | refused
    · rwa [stands]
    · have risen := (start.refused.trans moved.refusals).risen (refused.then rest.refusals)
      rw [same] at risen
      exact absurd risen (not_risen low)
  · have none : u.share.borrowedRecords = [] := List.length_eq_zero_iff.1 (Nat.le_zero.1
      ((moved.loansShrink.trans start.loans).trans (by rw [empty]; exact le_rfl)))
    rw [table, shareCycle_table none]
    exact hx
  · have stay := (late_moves rest).tripsStay (by decide) (moved.listsOrdered (start.lists lists))
      (moved.keeps (fun _ _ _ _ m => m.loanDrops) (start.drops drops))
    exact stay.2.2.2 room x hx ht


theorem refuses_after {n : Nat} (start : CabStart i s a) (moved : Moves cabTags a u)
    (rest : Moves statusTags (shareCycle u) t) (hk : Keeping s t) (h : Refuses n u) : Refuses n t := by
  have late := late_moves rest
  exact h.kept (fun ⟨r, hr, ht⟩ => ⟨r, trips_stay start moved rest hk hr ht, ht⟩) (late.fresh (by decide))
    (late.peers (by decide)) late.globals

/-! ### The cab function after the cycle start -/

theorem eq_of_calm {c c' : Cab} (h : c.calm = c'.calm) : c = { c' with emergency := c.emergency } := by
  have fields : ({ c.calm with emergency := c.emergency } : Cab) = { c'.calm with emergency := c.emergency } := by rw [h]
  exact fields

theorem inputActive_of_inputs (h : t.inputs = s.inputs) (sel : InputSel) : t.inputActive sel = s.inputActive sel := by
  rw [State.inputActive, h, State.inputActive]

/-- The handles, the switch and the buttons after the cycle start (R57 to R59). -/
theorem end_cab (start : CabStart i s a) (h : s.cab.handleFault.length = 4) (late : Moves lateTags (cabCycle a) t) :
    t.cab = { s.cab with
      handleFault := [outOfRange i 0, outOfRange i 1, outOfRange i 2, outOfRange i 3],
      ackButton := s.cab.ackButton.step (t.inputActive s.params.cab.ackInput),
      restartButton := s.cab.restartButton.step (t.inputActive s.params.cab.restartInput),
      walkSample := t.inputActive s.params.cab.walkModeInput,
      walkMode := if t.inputActive s.params.cab.walkModeInput = s.cab.walkSample
        then t.inputActive s.params.cab.walkModeInput else s.cab.walkMode,
      emergency := a.cab.emergency } := by
  have cab := eq_of_calm start.cab
  have inputs : t.inputs = a.inputs := (late.block .inputs (by decide)).trans ((cabCycle_moves a).block .inputs (by decide))
  have after : t.cab = (cabCycle a).cab := late.block .cab (by decide)
  rw [after, cabCycle_cab start.role start.joined (by rw [cab]; exact h), start.params, start.inputs]
  simp only [inputActive_of_inputs inputs]
  rw [cab]

/-- After the judging the cab function leaves the alarm unit. -/
theorem cabCycle_alarms (hc : a.role = .cab) (hj : a.joined = true) : (cabCycle a).alarms = (handlesJudged a).alarms :=
  have moved : Frame [.cab] (switchSampled a) (buttonsMoved (switchSampled a)) := onCab_frame _ _
  ((cabCycle_after hc hj).1 .alarms (by decide)).trans
    ((moved.1 .alarms (by decide)).trans ((switchSampled_frame a).1 .alarms (by decide)))

/-- A channel newly out of range stands raised after the cycle start, or a raise was lost (R57, R167). -/
theorem end_raised {k : Nat} (start : CabStart i s a) (late : Moves lateTags (cabCycle a) t) (hk : k < 4)
    (ho : outOfRange i k = true) (hw : s.cab.handleFault.getD k false = false) :
    HeldOf (FaultKey k) s.alarms.lost t := by
  have cab := eq_of_calm start.cab
  have judged := handlesJudged_raises start.joined hk (by rw [start.inputs]; exact ho) (by rw [cab]; exact hw)
  have held : HeldOf (FaultKey k) a.alarms.lost (cabCycle a) := by
    unfold HeldOf
    rw [cabCycle_alarms start.role start.joined]
    exact judged
  have after := late.heldOf (c := .handleFault) (by decide) (fun key h => by rw [← show _ = key from h]) (by decide) held
  exact after.imp id start.lost.risen

/-- A channel newly in range stands cleared after the cycle start. -/
theorem end_cleared {k : Nat} (start : CabStart i s a) (late : Moves lateTags (cabCycle a) t) (hk : k < 4)
    (ho : outOfRange i k = false) (hw : s.cab.handleFault.getD k false = true) (hl : ListsOrdered s) :
    KeyCleared .handleFault (some k) t.alarms.list := by
  have cab := eq_of_calm start.cab
  have judged := handlesJudged_clears start.joined hk (by rw [start.inputs]; exact ho) (by rw [cab]; exact hw) (start.lists hl)
  refine late.keyCleared (by decide) ?_
  rw [cabCycle_alarms start.role start.joined]
  exact judged

/-! ### The bulletins of the cycle start -/

/-- The contents of the cycle's REFERENCE (TABLE 4-4). -/
def referenceOf (c : DWord) (p : CabParams) (i : Inputs) (walkMode : Bool) : ReferenceFields :=
  let value (k : Nat) : Int := handleReference (p.handles.getD k {}) (Inputs.channel i k)
  let valid (k : Nat) : Bool := handleInRange (Inputs.channel i k)
  ⟨c.setWidth 16 + BitVec.ofNat 16 p.lead, value 0, value 1, value 2, value 3, valid 0, valid 1, valid 2, valid 3, walkMode⟩

theorem end_reference (start : CabStart i s a) (late : Moves lateTags (cabCycle a) t) :
    Posted .reference (referenceOf (s.time.cycle + 1) s.params.cab i t.cab.walkMode).words a t := by
  have posted := reference_posted start.role start.joined late
  have m := (switchSampled_moves a).trans (sampleButtons_moves _)
  have cab : t.cab = (cabCycle a).cab := late.block .cab (by decide)
  rw [cabCycle_places start.role start.joined, placeReference, (place_frame _ _).1 .cab (by decide)] at cab
  generalize sampleButtons (switchSampled a) = u at *
  have time : u.time = a.time := m.block .time (by decide)
  have inputs : u.inputs = a.inputs := m.block .inputs (by decide)
  rw [referenceFields, time, inputs, m.params, start.cycle, start.inputs, start.params, ← cab] at posted
  exact posted

/-- A bulletin posted stands in the queue where no placement was refused and no entry evicted. -/
theorem Posted.stands {k : Kind} {w : List Word} (h : Posted k w a t) (start : CabStart i s a)
    (hr : s.line.counters.refused < 65535 ∧ t.line.counters.refused = s.line.counters.refused)
    (he : s.line.counters.evicted < 65535 ∧ t.line.counters.evicted = s.line.counters.evicted) :
    ∃ e ∈ t.line.queue, Sent k w e := by
  rcases h with h | h | h
  · exact h
  · have risen := start.evicted.risen h
    rw [he.2] at risen
    exact absurd risen (not_risen he.1)
  · have risen := start.refused.risen h
    rw [hr.2] at risen
    exact absurd risen (not_risen hr.1)

/-! ### The presses after the cycle start (R58, R182, R183) -/

/-- The presses recognised at the cycle start. -/
theorem start_hits (start : CabStart i s a) (ht : t.inputs = i) :
    (restartHit a = true ↔ s.cab.restartButton = .edge ∧ t.inputActive s.params.cab.restartInput = true)
      ∧ (ackHit a = true ↔ s.cab.ackButton = .edge ∧ t.inputActive s.params.cab.ackInput = true) := by
  have cab := eq_of_calm start.cab
  have inputs : t.inputs = a.inputs := ht.trans start.inputs.symm
  rw [restartHit, ackHit, Button.recognised_iff, Button.recognised_iff, start.params, cab,
    inputActive_of_inputs inputs, inputActive_of_inputs inputs]
  exact ⟨Iff.rfl, Iff.rfl⟩

/-- A recognised RESTART press starts the flash, or posts a RESTART (R183). -/
theorem end_pressed (start : CabStart i s a) (h : s.cab.handleFault.length = 4)
    (rest : Moves statusTags (shareCycle (cabCycle a)) t) (hit : restartHit a = true) :
    (Refuses s.station t → t.table.refusalFlash = 50)
      ∧ (Keeping s t → ¬ Refuses s.station t →
        t.table.refusalFlash = s.table.refusalFlash - 1 ∧ Posted .restart [] a t) := by
  have late := late_moves rest
  have faults : a.cab.handleFault.length = 4 := by rw [eq_of_calm start.cab]; exact h
  have flash : t.table.refusalFlash = (cabCycle a).table.refusalFlash := late.refusal (by decide) (by decide)
  rw [flash, ← start.station]
  refine ⟨fun hr => cabCycle_flashes start.role start.joined faults hit (refuses_before late hr), fun hk hr => ?_⟩
  have clear : ¬ Refuses a.station (cabCycle a) := mt (refuses_after start (cabCycle_moves a) rest hk) hr
  exact ⟨(cabCycle_calm start.role start.joined faults (.inr clear)).trans start.refusal,
    restart_posted start.role start.joined faults late hit clear⟩

/-- Without a press the flash goes on. -/
theorem end_unpressed (start : CabStart i s a) (h : s.cab.handleFault.length = 4) (late : Moves lateTags (cabCycle a) t)
    (hit : restartHit a = false) : t.table.refusalFlash = s.table.refusalFlash - 1 := by
  have faults : a.cab.handleFault.length = 4 := by rw [eq_of_calm start.cab]; exact h
  exact ((late.refusal (by decide) (by decide)).trans (cabCycle_calm start.role start.joined faults (.inl hit))).trans
    start.refusal

end

end Sys2Proof.Machine

open Sys2Proof Sys2Proof.Machine

/-- Settles O33: a broadcast that reaches the cab is kept; at a cycle start the cab function is taken apart at the
presses, and what it leaves is carried through the share unit, which drops a loan at most; the outputs are one byte of
eight lines. -/
theorem cabKeepsXferBroadcasts : Obligations.CabKeepsXferBroadcasts := by
  refine ⟨fun b s hj => ⟨fun hc k c hk hr => ?kept, fun hc hr => ?other⟩, fun i s hc hj hr h4 => ?start, fun s => ?outputs⟩
  case kept =>
    simp only [List.mem_cons, List.not_mem_nil, or_false, Prod.mk.injEq] at hk
    rcases hk with ⟨rfl, rfl⟩ | ⟨rfl, rfl⟩
    · exact ⟨_, exec_xferDone hr, kept_broadcast hj hc rfl _⟩
    · exact ⟨_, exec_xferAbort hr, kept_broadcast hj hc rfl _⟩
  case other =>
    rw [exec_xferDone hr, takeXferDone_other ((handed_role s).trans_ne hc)]
  case start =>
    have start := flashed_start hc hj i
    have rest := afterCab_moves hc i
    have inputs : (cycleWork (fallen i s)).inputs = i := (cycleWork_inputs _).trans (fallen_inputs i s)
    refine ⟨_, exec_cycleStart hr, inputs, ?_⟩
    generalize cycleWork (fallen i s) = t at *
    generalize flashed (fallen i s) = a at *
    have late := late_moves rest
    have cab := end_cab start h4 late
    have faults : a.cab.handleFault.length = 4 := by rw [eq_of_calm start.cab]; exact h4
    obtain ⟨restartHits, ackHits⟩ := start_hits start inputs
    intro x p inRange off value moves ack restart walk admits sends noRestart
    have stands : ∀ {k w}, Posted k w a t → admits → sends k w := fun posted ⟨_, hr, he, sr, se⟩ =>
      posted.stands start ⟨hr, sr⟩ ⟨he, se⟩
    refine ⟨by rw [cab]; rfl, fun k hk ho hw => ?raised, fun k hk ho hw hl => ?cleared, ?ackMoves, ?restartMoves, ?sample,
      ?mode, by rw [cab], by rw [cab], fun ha => ?reference, fun ha edge active => ?ack, fun edge active => ?press,
      fun quiet => ?calm⟩
    case raised =>
      have out : outOfRange i k = true := congrArg not ho
      rcases end_raised start late hk out hw with ⟨r, hr, key, active⟩ | ⟨lost, -⟩ | lost
      · exact .inl ⟨r, hr, (congrArg Prod.fst key).symm, (congrArg Prod.snd key).symm, active⟩
      · exact .inr (.inl lost)
      · exact .inr (.inr lost)
    case cleared =>
      have back : outOfRange i k = false := congrArg not ho
      exact end_cleared start late hk back hw hl
    case ackMoves => exact (congrArg Cab.ackButton cab).trans (Button.step_eq _ _)
    case restartMoves => exact (congrArg Cab.restartButton cab).trans (Button.step_eq _ _)
    case sample => rw [cab]
    case mode => rw [cab]
    case reference =>
      have posted := end_reference start late
      simp only [referenceOf, handleReference_eq] at posted
      exact stands posted ha
    case ack =>
      have posted := alarmAck_posted start.role start.joined faults late (ackHits.2 ⟨edge, active⟩)
      rw [start.cycle] at posted
      exact stands posted ha
    case press =>
      obtain ⟨refused, sent⟩ := end_pressed start h4 rest (restartHits.2 ⟨edge, active⟩)
      refine ⟨refused, fun keeping clear => ?_⟩
      obtain ⟨flash, posted⟩ := sent (keeping.imp_left fun ⟨_, hr, _, sr, _⟩ => ⟨hr, sr⟩) clear
      exact ⟨flash, stands posted⟩
    case calm =>
      refine end_unpressed start h4 late (Bool.eq_false_iff.2 fun hit => ?_)
      obtain ⟨edge, active⟩ := restartHits.1 hit
      rcases quiet with other | off
      · exact other edge
      · exact Bool.false_ne_true (off.symm.trans active)
  case outputs =>
    refine ⟨discreteOutputs_off, fun hc hj => ?_⟩
    have lines := outputByte_lines (s.table.records.any fun r => r.state != .activeAck)
      (s.lamp .trip (decide (0 < s.table.refusalFlash))) (s.lamp .stop false) (s.lamp .warn false) s.shownFirstOut.isSome
      (shownSource s)
    rw [← discreteOutputs_cab hc hj] at lines
    obtain ⟨horn, trip, stop, warn, valid, source, zero⟩ := lines
    dsimp only
    rw [horn, trip, stop, warn, valid]
    refine ⟨by simp, ?_, ?_, ?_, fun none => ?_, fun f hf low => ?_, shownFirstOut_iff⟩
    · rw [lamp_iff, decide_eq_true_iff]
    · rw [lamp_iff, Bool.false_eq_true]
    · rw [lamp_iff, Bool.false_eq_true]
    · obtain ⟨four, five, six⟩ := zero (by simp [shownSource, none])
      rw [four, five, six]
      exact ⟨Bool.false_ne_true, Bool.false_ne_true, Bool.false_ne_true⟩
    · rw [source, shownSource]
      simp [hf, Nat.mod_eq_of_lt low]

end
